-- ==== Sys2Proof/Word.lean ====
section
/-! DEFINITION. The word types of the GB-2410 model and their plainest arithmetic. -/

namespace Sys2Proof

/-- One byte of a record, of a link or of the FRAM. -/
abbrev Byte := BitVec 8

/-- Two bytes, stored low byte first in every record of the spec (0.6, chapter 13). -/
abbrev Word16 := BitVec 16

/-- The 32-bit revolution counter and log sequence (R9, R188). -/
abbrev Word32 := BitVec 32

/-- An imbalance class, C0 (best) to C7 (worst); "worse" is "greater" (0.6 Names). -/
abbrev Class := Fin 8

end Sys2Proof
end

