-- ==== Sys2Proof/Config.lean ====
section
/-! DEFINITION. What the GB-2410 fixes (the unit constants that are not settings) and the free values of the model. -/

namespace Sys2Proof.Config

/-! ### Free values. No body: nothing in Lean can evaluate them, so a claim holds whatever they are. -/

/-- The order that the `i`-th open race of one step takes, where the spec lets several blocks act on one
occasion "with no order among them" or "in either order" (0.6 Events, R30, R36, R186, R193, R201). FREE VALUE, log 1. -/
opaque order : Nat → Nat

/-- The measured speed that a period of 0 µs gives: R14 divides by the period and states no result there.
FREE VALUE, log 2. -/
opaque speedOfZeroPeriod : Nat → Nat

/-- What a two-byte field of a record shows for a value that does not fit it (a measured speed above 65,535):
chapter 13 states no value there. FREE VALUE, log 3. -/
opaque unstated16 : Nat → BitVec 16

/-- What the last command sequence of the report record shows while no command has been taken: chapter 13 states no value there.
FREE VALUE, log 84. -/
opaque absentSequence : Nat → BitVec 8

/-! ### Fixed values of the timing unit (R1) -/

/-- The rest time of 3 s, in µs (R1, R6). -/
def restTime : Nat := 3000000
/-- The loss threshold of three pulse intervals (R1, R3, R4). -/
def lossFactor : Nat := 3
/-- The witness speed of 30 rpm (R1, R4). -/
def witnessSpeed : Nat := 30
/-- The sampling floor of 60 rpm (R1, R16). -/
def samplingFloor : Nat := 60
/-- The qualification tolerance of 12 % (R1, R3). -/
def toleranceQual : Nat := 12
/-- The qualification count of 4 (R1, R3). -/
def qualCount : Nat := 4

/-! ### The S-port's frame (R19) -/

/-- The command byte of a read (R19). -/
def sportCommand : BitVec 8 := 0x9C
/-- The bytes that a read clocks in, a 0x00 being sent for each (R19). -/
def sportBytes : Nat := 7

/-! ### Fixed values of the links (R178, R179, R182, R184, R202) -/

/-- The stretch limit of 20 ms, in µs (R178). -/
def stretchLimit : Nat := 20000
/-- The 200 µs after which an idle burst or read closes (R179, R182). -/
def idleClose : Nat := 200
/-- The 100 µs pause before a device-address repetition (R184). -/
def retryPause : Nat := 100
/-- The three repetitions of an unanswered transfer (R184). -/
def retryMax : Nat := 3
/-- The 10 ms pause before a start-up read begins again (R202). -/
def startupPause : Nat := 10000
/-- The ten start-up retries (R202). -/
def startupRetries : Nat := 10
/-- The room of a post buffer (R180). -/
def postRoom : Nat := 32
/-- The longest downstream transfer, 16 bytes (R179, R181, R182, R183). -/
def transferMax : Nat := 16

/-! ### Memory (0.5, 0.6) -/

/-- The FRAM holds addresses 0x0000 to 0x7FFF. -/
def memSize : Nat := 0x8000
/-- The settings block lies at 0x7E00 to 0x7FFF (R129). -/
def settingsBase : Nat := 0x7E00

/-! ### The drum angle: 360 degrees of 256 steps each (chapter 1, Drum angle) -/

/-- One revolution in steps of 1/256 degree. -/
def fullTurn : Nat := 92160
/-- The largest angle, 359 degrees and 255/256 (R12). -/
def lastAngle : Nat := 92159

end Sys2Proof.Config
end

