-- ==== Sys2Proof/Syntax.lean ====
section
/-! DEFINITION. The commands of the GB-2410: one constructor per row of spec/opcode_table.json.

Every command carries `dt`, the microseconds that have passed since the command before it (log 4). The operands of
The operands of
the eleven record commands (START_PLAN and the rest) are the bytes of the snooped command record, which the device itself
holds (R160, R161), so those rows carry no operand of their own. -/

namespace Sys2Proof

/-- The two upstream ports (0.5). -/
inductive Port where
  | c   -- the C-port, to the program controller
  | d   -- the D-port, to the motor drive controller
deriving DecidableEq, Repr

/-- The two reference sources (0.5). -/
inductive Source where
  | index
  | comm
deriving DecidableEq, Repr

/-- The seven bytes that one S-port read clocks in, in the order received (R19). -/
structure SportFrame where
  status : Byte
  xLow : Byte
  xHigh : Byte
  yLow : Byte
  yHigh : Byte
  zLow : Byte
  zHigh : Byte
deriving DecidableEq, Repr

/-- Why an M-port transfer fails (R184): no acknowledgement of the device address after three repetitions, a NACK of a
memory-address byte, or a NACK of a data byte after `acked` data bytes of this transfer were acknowledged. -/
inductive FailCause where
  | deviceAddress
  | memoryAddress
  | dataByte (acked : Nat)
deriving DecidableEq, Repr

/-- The byte of a port in the middle of which a start or stop condition comes (R177): where `begun`, the read byte that the port's last
READ_DATA_BYTE began, else one of which no row has told (log 68). -/
structure PartialByte where
  port : Port
  begun : Bool
deriving DecidableEq, Repr

/-- The commands (events) of the block; `dt` is the time in µs since the command before. -/
inductive Instr where
  | indexPulse (dt : Nat)
  | commPulse (dt : Nat)
  | qualifyingSilence (dt : Nat) (src : Source)
  | lossDeadline (dt : Nat) (src : Source)
  | restTimerExpiry (dt : Nat)
  | samplePoint (dt : Nat)
  | sportReadComplete (dt : Nat) (frame : SportFrame)
  | holdExpiry (dt : Nat)
  | bandWaitExpiry (dt : Nat)
  | fiveSecondMark (dt : Nat)
  | overspeedHistoryExpiry (dt : Nat)
  | passStart (dt : Nat)
  | nominalOpen (dt : Nat)
  | passClose (dt : Nat)
  | pinLevelChange (dt : Nat) (line : Fin 8) (level : Bool)
  | acceptedChange (dt : Nat) (line : Fin 8)
  | upstreamStart (dt : Nat) (port : Port) (addr : BitVec 7) (read : Bool)
  | memoryAddressByte (dt : Nat) (port : Port) (value : Byte)
  | writeDataByte (dt : Nat) (port : Port) (value : Byte)
  | readDataByte (dt : Nat) (port : Port)
  | controllerNack (dt : Nat) (port : Port)
  | repeatedStart (dt : Nat) (port : Port) (addr : BitVec 7) (read : Bool)
  | stopCondition (dt : Nat) (port : Port)
  | midByteCondition (dt : Nat) (cut : PartialByte)
  | stretchLimit (dt : Nat) (port : Port)
  | heldBurstIdle (dt : Nat) (port : Port)
  | readIdle (dt : Nat) (port : Port)
  | memoryDataAck (dt : Nat)
  | memoryReadByte (dt : Nat)
  | transferEnd (dt : Nat)
  | addressRetry (dt : Nat)
  | transferFailed (dt : Nat) (cause : FailCause)
  | commit (dt : Nat)
  | commitRecordRead (dt : Nat)
  | carryRead (dt : Nat)
  | carryWrite (dt : Nat)
  | validationRead (dt : Nat)
  | telemetryAdopt (dt : Nat)
  | telemetryAgeExpiry (dt : Nat)
  | startPlan (dt : Nat)
  | stop (dt : Nat)
  | halt (dt : Nat)
  | resume (dt : Nat)
  | dose (dt : Nat)
  | doseCancel (dt : Nat)
  | lines (dt : Nat)
  | ackFaults (dt : Nat)
  | clearCounts (dt : Nat)
  | restart (dt : Nat) (levels : BitVec 8)
  | reportNow (dt : Nat)
  | unknownCode (dt : Nat)
  | settingsReread (dt : Nat)
  | settingsRead (dt : Nat)
  | adoption (dt : Nat)
  | hardReset (dt : Nat) (straps : Fin 4) (levels : BitVec 8) (acked : Nat)
  | startupSettingsRead (dt : Nat)
  | startupReadRetry (dt : Nat)
  | logScanRead (dt : Nat)
  | reportPeriodExpiry (dt : Nat)
  | reportGranuleWrite (dt : Nat)
  | logWrite (dt : Nat)
deriving DecidableEq, Repr

/-- The time operand of a command. -/
def Instr.dt : Instr → Nat
  | .indexPulse dt | .commPulse dt | .qualifyingSilence dt _ | .lossDeadline dt _ | .restTimerExpiry dt
  | .samplePoint dt | .sportReadComplete dt _ | .holdExpiry dt | .bandWaitExpiry dt | .fiveSecondMark dt
  | .overspeedHistoryExpiry dt | .passStart dt | .nominalOpen dt | .passClose dt | .pinLevelChange dt _ _
  | .acceptedChange dt _ | .upstreamStart dt _ _ _ | .memoryAddressByte dt _ _ | .writeDataByte dt _ _
  | .readDataByte dt _ | .controllerNack dt _ | .repeatedStart dt _ _ _ | .stopCondition dt _
  | .midByteCondition dt _ | .stretchLimit dt _ | .heldBurstIdle dt _ | .readIdle dt _ | .memoryDataAck dt
  | .memoryReadByte dt | .transferEnd dt | .addressRetry dt | .transferFailed dt _ | .commit dt
  | .commitRecordRead dt | .carryRead dt | .carryWrite dt | .validationRead dt | .telemetryAdopt dt
  | .telemetryAgeExpiry dt | .startPlan dt | .stop dt | .halt dt | .resume dt | .dose dt | .doseCancel dt
  | .lines dt | .ackFaults dt | .clearCounts dt | .restart dt _ | .reportNow dt | .unknownCode dt
  | .settingsReread dt | .settingsRead dt | .adoption dt | .hardReset dt _ _ _ | .startupSettingsRead dt
  | .startupReadRetry dt | .logScanRead dt | .reportPeriodExpiry dt | .reportGranuleWrite dt | .logWrite dt => dt

end Sys2Proof
end

