-- ==== Sys2Proof/WellFormed.lean ====
section
/-! DEFINITION. Which commands are well formed: an operand outside the range the spec gives it names no event of the device. -/

namespace Sys2Proof

/-- The operand ranges that the types of `Instr` do not already give. A data byte that fails is one of the 1 to 16 of its
transfer (R183), so at most 15 were acknowledged before it; a transfer cut off by a hard reset has had at most 16
data bytes acknowledged (R183, R187). -/
def Instr.wellFormed : Instr → Bool
  | .transferFailed _ (.dataByte acked) => decide (acked < Config.transferMax)
  | .hardReset _ _ _ acked => decide (acked ≤ Config.transferMax)
  | _ => true

end Sys2Proof
end

