-- ==== Sys2Proof/Decode.lean ====
section
/-! DEFINITION. The command that a word of spec/opcode_table.json spells: no row of this block's table gives bits. -/

namespace Sys2Proof

/-- No row of the table gives a word ("fields" is empty and there is no "fixed" in every row), so no word spells a
command and the answer is `none` for every word. -/
def decodeTableWord (_nbits _w : Nat) : Option Instr := none

end Sys2Proof
end

