-- ==== Sys2Proof/Machine/State.lean ====
section
/-! DEFINITION. The state of the GB-2410: every piece of state the spec gives its fifteen blocks, the FRAM it serves, and
the state right after hard reset. Every time is in µs of the device's running time `now`. -/

namespace Sys2Proof.Machine

/-! ## Timing unit (chapter 1) -/

/-- The five states of a reference source (chapter 1, table). -/
inductive SourceState where
  | off | searching | qualifying | qualified | lost
deriving DecidableEq, Repr

/-- The alignment state of COMM (R1, R10). -/
inductive Alignment where
  | unaligned | aligned | misaligned
deriving DecidableEq, Repr

/-- The source record of R1. `witnessed` says that the other source has accepted a pulse since this source's last accepted
one (R4); `revStart` and `revPulses` are the start of the source's revolution in progress and its pulses so far (R3). -/
structure SourceRec where
  state : SourceState
  count : Nat
  lastPulse : Option Nat
  interval : Option Nat
  refPeriod : Option Nat
  deadline : Option Nat
  witnessed : Bool
  revStart : Nat
  revPulses : Nat
deriving DecidableEq, Repr

/-- The revolution in progress (R9, R15, R16): when it began, the tub-sample requests issued, the next sample point, whether
the angle was anchored at its start and at every request, and the COMM pulses since it began. -/
structure Revolution where
  start : Nat
  requests : Nat
  nextSample : Nat
  anchored : Bool
  pulses : Nat
deriving DecidableEq, Repr

/-- The timing unit. `c`, `align`, `commAngle` (1/256 degree, set by the last pulse or alignment), `commAngleAt` and
`commFirst` (the next COMM pulse is the first since an alignment) are COMM's (R1, R10, R13). `measured` is false while the
speed is not a measurement (R14). `restStart` is absent while the rest timer is stopped (R6). -/
structure Timing where
  index : SourceRec
  comm : SourceRec
  c : Nat
  align : Alignment
  commAngle : Nat
  commAngleAt : Nat
  commFirst : Bool
  sel : Option Source
  counter : Word32
  rev : Option Revolution
  speed : Nat
  measured : Bool
  atRest : Bool
  restStart : Option Nat
deriving DecidableEq, Repr

/-! ## Estimator and S-port (chapter 2) -/

/-- The estimate sources (0.5). -/
inductive EstSource where
  | tub | torque
deriving DecidableEq, Repr

/-- The tags of a revolution record (chapter 2, The revolution record). -/
inductive Tag where
  | valid | speedChanging | sampleLoss | missing | stale
deriving DecidableEq, Repr

/-- The estimate's states (chapter 2, The estimate). -/
inductive EstState where
  | none | forming | settled | held
deriving DecidableEq, Repr

/-- A tub-sample request (R16): revolution number, sample index, drum angle in whole degrees, anchored flag. -/
structure SampleRequest where
  rev : Word32
  index : Nat
  angle : Nat
  anchored : Bool
deriving DecidableEq, Repr

/-- A good sample as filed (R19, R20); x and y in mg. -/
structure Sample where
  index : Nat
  x : Int
  y : Int
  angle : Nat
deriving DecidableEq, Repr

/-- The samples of the revolution being collected (R20). -/
structure Collection where
  rev : Word32
  samples : List Sample
deriving DecidableEq, Repr

/-- A revolution record (chapter 2). `peak` and `good` are absent in TORQUE records (R26). -/
structure Record where
  number : Word32
  source : EstSource
  speed : Nat
  period : Nat
  magnitude : Nat
  angle : Option Nat
  peak : Option Nat
  good : Option Nat
  anchored : Bool
  tag : Tag
deriving DecidableEq, Repr

/-- The estimate record (chapter 2, The estimate). -/
structure Estimate where
  state : EstState
  magnitude : Nat
  angle : Option Nat
  cls : Class
  source : EstSource
  anchored : Bool
  magSpread : Nat
  angSpread : Nat
  age : Option Nat
deriving DecidableEq, Repr

/-- The last settled values (R32). -/
structure Settled where
  magnitude : Nat
  angle : Option Nat
  cls : Class
  anchored : Bool
deriving DecidableEq, Repr

/-- The S-port's outputs (R19, R41): the levels of SCS and SCK between clock pulses, and the bytes that the frame in progress sends
on SDO (log 69). -/
structure SportPins where
  scs : Bool
  sck : Bool
  sdo : List Byte
deriving DecidableEq, Repr

/-- The estimator with the S-port. `reading` is the request whose read is in progress, with the mark that a gap has made its
result void (R20). `owed` is the model's own: an estimate update that is still to be handed on within this step (log 5). -/
structure Estimator where
  window : List Record
  est : Estimate
  lastSettled : Option Settled
  heldClass : Option Class
  disturbed : Bool
  staleMark : Option Word32
  curSource : EstSource
  revTorque : Option Nat
  prevPeriod : Option Nat
  collection : Option Collection
  reading : Option (SampleRequest × Bool)
  waiting : List SampleRequest
  pins : SportPins
  excursion : Nat
  sampleLoss : Nat
  recovery : Nat
  sensorFailed : Bool
  owed : Bool
deriving DecidableEq, Repr

/-! ## Spin governor and plan runner (chapters 3 and 4) -/

/-- The ten governor states (chapter 4, table). -/
inductive GovState where
  | idle | ascend | waitBand | cross | retreat | descend | hold | balance | stopping | trip
deriving DecidableEq, Repr

/-- The mode of the live command (R60). -/
inductive Mode where
  | off | run | brake
deriving DecidableEq, Repr

/-- The kinds of move (R59). -/
inductive Move where
  | climb | crossing | turnBack | plannedDescent | forcedDescent | runDown | atTarget
deriving DecidableEq, Repr

/-- The kinds of plan step (R77). -/
inductive StepKind where
  | distribute | spin | balance | coast
deriving DecidableEq, Repr

/-- The failure actions (R77). -/
inductive FailAction where
  | continue | retry | redistribute | abort
deriving DecidableEq, Repr

/-- A plan step (R77); the hold time is in seconds. -/
structure PlanStep where
  kind : StepKind
  target : Nat
  ramp : Nat
  hold : Nat
  accept : Class
  floor : Nat
  dosing : Bool
  action : FailAction
deriving DecidableEq, Repr

/-- The plan copy: header and steps of the active page (R77). -/
structure Plan where
  identity : Word16
  stepCount : Nat
  budget : Nat
  maxRetries : Nat
  retryTarget : Nat
  steps : List PlanStep
deriving DecidableEq, Repr

/-- The live command of R60, as the governor holds it and as a port's snapshot keeps it (R173). -/
structure LiveCommand where
  target : Nat
  ramp : Nat
  mode : Mode
  state : GovState
  number : Word16
deriving DecidableEq, Repr

/-- The spin governor (R59). The step in hand keeps every field of its plan step (R59, R154). `holdStart` is absent while the
hold timer is stopped. `waits` are the band wait times of the step in µs, `waitSince` the moment the running one resumed.
`history` holds past granted targets with the time each ceased to be in force (R73); `prevBoundary` is the measured speed of the
last boundary (R73); `sensorTest` the last value of the SENSOR_FAILED test (R75); `startRunDown` says that the run-down of
STOPPING is the one of start-up (R71). `classInForce`, `ceiling` and `effTarget` are the quantities of R48, R49 and R52. -/
structure Governor where
  state : GovState
  target : Nat
  ramp : Nat
  number : Word16
  step : Option PlanStep
  move : Move
  arrivals : Nat
  firstArrival : Bool
  holdStart : Option Nat
  band : Option (Fin 6)
  waits : Vector Nat 6
  waitSince : Option Nat
  retreats : Vector Nat 6
  markFallen : Bool
  history : List (Nat × Nat)
  overCount : Nat
  prevBoundary : Option Nat
  run : Bool
  startRunDown : Bool
  settledSinceRest : Option Class
  classInForce : Class
  ceiling : Nat
  effTarget : Nat
  sensorTest : Bool
deriving DecidableEq, Repr

/-- The runner states (R77). -/
inductive RunnerState where
  | none | running | waitResume | done | aborted
deriving DecidableEq, Repr

/-- The end reasons (R77). -/
inductive EndReason where
  | none | stopped | tripped | stepFailed
deriving DecidableEq, Repr

/-- The plan runner: runner record and plan copy (R77). The copy's validity is the plan page unit's (R144). -/
structure Runner where
  state : RunnerState
  stepIndex : Nat
  retries : Nat
  doseUsed : Nat
  endReason : EndReason
  plan : Plan
deriving DecidableEq, Repr

/-! ## Dosing unit (chapter 5) -/

/-- The origins of a dose order (R91). -/
inductive Origin where
  | planner | command
deriving DecidableEq, Repr

/-- The states of an order in the queue (R91); DONE and CUT orders leave the queue at once. -/
inductive OrderState where
  | queued | injecting | settling
deriving DecidableEq, Repr

/-- A dose order (R91). -/
structure DoseOrder where
  number : Word16
  origin : Origin
  chamber : Fin 4
  ordered : Nat
  injected : Nat
  capLimited : Bool
  settle : Nat
  state : OrderState
deriving DecidableEq, Repr

/-- The pass record (R98 to R100). `minClose` says that the valve closes 1 ms after opening instead of at the closing
angle (R99). -/
structure PassRecord where
  chamber : Fin 4
  opening : Nat
  nominal : Nat
  closing : Nat
  volume : Nat
  startAt : Nat
  nominalAt : Option Nat
  minClose : Bool
deriving DecidableEq, Repr

/-- A stretch of `len` angle steps from `start` on, forward, modulo a full turn. -/
structure Arc where
  start : Nat
  len : Nat
deriving DecidableEq, Repr

/-- The part of the drum angle's path whose pass angles have not been taken yet (R100): the arcs `passed`, oldest first, that the
changes of the angle at the moment `since` ended, then `len` angle steps from `start` on, reckoned up to the angle `base`, from where
the angle goes on forward (log 14). -/
structure AnglePath where
  passed : List Arc
  since : Nat
  start : Nat
  len : Nat
  base : Nat
deriving DecidableEq, Repr

/-- The dosing unit (R86). -/
structure Dosing where
  accounts : Vector Nat 4
  queue : List DoseOrder
  nextNumber : Word16
  pass : Option PassRecord
  drainSeen : Bool
  belowRetention : Bool
  path : AnglePath
deriving DecidableEq, Repr

/-! ## Line unit (chapter 6) -/

/-- A debounce record (R109). -/
structure Debounce where
  candidate : Bool
  start : Nat
deriving DecidableEq, Repr

/-- The line record of R109 with the level at the pin, which the unit watches (R111); `held` says that the pin of an output is held
against its drive from outside (R112, log 66). -/
structure LineRec where
  output : Bool
  latch : Bool
  accepted : Bool
  debounce : Option Debounce
  pin : Bool
  held : Bool
deriving DecidableEq, Repr

/-- The four flags of an interlock test (R117). -/
structure TestFlags where
  all : Bool
  none : Bool
  some : Bool
  someNot : Bool
deriving DecidableEq, Repr

/-- The line unit. `askFill` and `askLock` are the levels that the owners of L0 and L1 last asked for (R110). -/
structure Lines where
  line : Vector LineRec 8
  spinPermit : TestFlags
  dosePermit : TestFlags
  knock : TestFlags
  askFill : Option Bool
  askLock : Option Bool
deriving DecidableEq, Repr

/-! ## Upstream ports and the memory link (chapter 10) -/

/-- The transaction state of a port (R176). -/
inductive TxnState where
  | idle | addressing | writing | reading | ignoring
deriving DecidableEq, Repr

/-- The access fault kinds (R192). -/
inductive AccessKind where
  | forbiddenWrite | forbiddenRead | outOfMemory | hiddenPage | editBusy | memoryTimeout
deriving DecidableEq, Repr

/-- A plan page (R144). -/
inductive Page where
  | a | b
deriving DecidableEq, Repr

/-- What a stretched byte waits for (R146, R178 to R182): a PLAN_EDIT byte held by a swap, with its window offset; a POSTED byte
waiting for room; a HELD write byte or a read byte that needs the memory, with its target address. -/
inductive Waiting where
  | editWrite (offset : Nat) (value : Byte)
  | editRead (offset : Nat)
  | post (target : Nat) (value : Byte)
  | held (target : Nat) (value : Byte)
  | read (target : Nat)
deriving DecidableEq, Repr

/-- The stretch record (R176), with the upstream address of the byte. -/
structure Stretch where
  what : Waiting
  addr : Nat
  since : Nat
deriving DecidableEq, Repr

/-- The port's last answer on its link, the model's own record of what the controller observes (log 6). -/
inductive Reply where
  | none            -- nothing given, or the line released
  | ack
  | nack
  | byte (value : Byte)
deriving DecidableEq, Repr

/-- The touch set of a transaction (R140). -/
structure Touch where
  command : Bool
  telemetry : Bool
  commit : Bool
  settings : Bool
deriving DecidableEq, Repr

/-- An upstream port (R127, R140, R173, R176, R180). `addrHigh` is the first memory address byte of a write; `nacked` says that
the controller has answered a read byte with a NACK; `reported` lists the access fault kinds handed over in this transaction (R137);
`sending` is the pointer before the read byte last begun, until the controller has answered it with a NACK (R177, log 68);
`editRefused` says that a PLAN_EDIT read byte of the transaction was refused (R146); `viewPage` is the active page the transaction's
PLAN_VIEW bytes come from (R133); `heldStart` a start whose device address waits for an adoption, with its read bit (R200). -/
structure PortState where
  txn : TxnState
  addrHigh : Option Byte
  pointer : Word16
  touch : Touch
  snapshot : Option LiveCommand
  viewPage : Option Page
  reported : List AccessKind
  editRefused : Bool
  nacked : Bool
  sending : Option Word16
  post : List (Nat × Byte)
  stretch : Option Stretch
  heldStart : Option Bool
  reply : Reply
deriving DecidableEq, Repr

/-- The transfers of the internal work (R186), each with its memory address. `logNext` is a log write that waits for its
grant and takes its entry there (R194). -/
inductive Job where
  | settingsRead (granule : Nat)
  | startupRead (granule : Nat)
  | logScan (slot : Nat) (addr : Nat)
  | commitRecord (addr : Nat)
  | carryRead (addr : Nat)
  | carryWrite (addr : Nat) (data : List Byte)
  | validate (addr : Nat)
  | report (addr : Nat) (data : List Byte)
  | logNext
  | logWrite (addr : Nat) (data : List Byte)
deriving DecidableEq, Repr

/-- The internal blocks that raise transfers (R186). -/
inductive JobOwner where
  | settings | pages | report
deriving DecidableEq, Repr

/-- The three requesters of the arbiter (R185). -/
inductive Requester where
  | dport | internal | cport
deriving DecidableEq, Repr

/-- What a granted transfer is: a drain with the entries it took at its grant (R181), a HELD burst, a read, or an internal
transfer, with the mark that its block has abandoned it (R186, R187). -/
inductive TransferKind where
  | drain (taken : Nat)
  | burst
  | read
  | job (job : Job) (orphan : Bool)
deriving DecidableEq, Repr

/-- The transfer on the M-port (R179 to R184). `addr` is the address of the byte on the bus, or of the last byte while none
is; `data` the byte on the bus of a burst; `busy` says a byte is on the bus; `count` the bytes done; `closing` that the transfer is
to end with a stop; `since` when it was granted, repeated or last acknowledged. -/
structure Transfer where
  who : Requester
  kind : TransferKind
  addr : Nat
  data : Byte
  busy : Bool
  count : Nat
  closing : Bool
  retries : Nat
  since : Nat
deriving DecidableEq, Repr

/-- The M-port and arbiter (R183 to R186). `straps` are the levels read at the last hard reset; `fast` the speed of the transfer
in progress, true for 1 MHz. -/
structure MemoryLink where
  transfer : Option Transfer
  ageD : Nat
  ageI : Nat
  ageC : Nat
  internal : List Job
  straps : Fin 4
  fast : Bool
deriving DecidableEq, Repr

/-! ## Settings (chapters 7, 12 and 13) -/

/-- The window kinds (R123). -/
inductive WindowKind where
  | pass | command | telemetry | planEdit | planView | report
deriving DecidableEq, Repr

/-- The rights of a port (R123). -/
inductive Rights where
  | none | read | readWrite
deriving DecidableEq, Repr

/-- The write handlings (R123). -/
inductive Handling where
  | held | posted
deriving DecidableEq, Repr

/-- An entry of the window table, with base and limit as stored (R123). -/
structure WindowEntry where
  kind : WindowKind
  cRights : Rights
  dRights : Rights
  handling : Handling
  base : Nat
  limit : Nat
deriving DecidableEq, Repr

/-- Traffic settings (chapter 12, table). -/
structure TrafficSettings where
  windows : Vector WindowEntry 8
  pageA : Nat
  pageB : Nat
  fast : Bool
  countSel : Byte
deriving DecidableEq, Repr

/-- Reference settings (R1). -/
structure ReferenceSettings where
  indexOn : Bool
  commOn : Bool
  preferred : Source
  p : Nat
deriving DecidableEq, Repr

/-- One point of the sensitivity table (R25), the sensitivity in 1/256 g per mg. -/
structure SensPoint where
  speed : Nat
  sens : Nat
  lag : Nat
deriving DecidableEq, Repr

/-- Estimator settings (R40), the torque factor in 1/256 g per mNm. -/
structure EstimatorSettings where
  changeover : Nat
  settle : Nat
  holdLimit : Nat
  angleFloor : Nat
  excursion : Nat
  torque : Nat
  sens : Vector SensPoint 8
deriving DecidableEq, Repr

/-- A row of the envelope (R42). -/
structure EnvRow where
  threshold : Nat
  ceiling : Nat
  ascent : Nat
deriving DecidableEq, Repr

/-- An entry of the band list (R44). -/
structure Band where
  low : Nat
  high : Nat
  rate : Nat
  admission : Class
deriving DecidableEq, Repr

/-- Envelope, band list and the settings of R46. -/
structure GovernorSettings where
  envelope : Vector EnvRow 8
  bands : Vector Band 6
  ceiling : Nat
  descend : Nat
  unsettled : Class
  interlock : Nat
  bandWait : Nat
  margin : Nat
  window : Nat
  ageLimit : Nat
deriving DecidableEq, Repr

/-- Dosing settings (R106). -/
structure DosingSettings where
  enable : Bool
  span : Nat
  capacity : Nat
  nozzle : Nat
  lead : Nat
  lag : Nat
  flow : Nat
  dmin : Nat
  dmax : Nat
  retention : Nat
  settle : Nat
deriving DecidableEq, Repr

/-- Mask and pattern of an interlock test (R116). -/
structure TestSetting where
  mask : Byte
  pattern : Byte
deriving DecidableEq, Repr

/-- Line settings (R119); `outputs` has bit n set where line n's direction is OUTPUT. -/
structure LineSettings where
  outputs : Byte
  debounce : Nat
  spinPermit : TestSetting
  dosePermit : TestSetting
  knock : TestSetting
deriving DecidableEq, Repr

/-- The settings of a block (chapter 12, table), with the check value it carried. -/
structure Settings where
  traffic : TrafficSettings
  reference : ReferenceSettings
  estimator : EstimatorSettings
  governor : GovernorSettings
  dosing : DosingSettings
  lines : LineSettings
  reportPeriod : Nat
  checkValue : Word16
deriving DecidableEq, Repr

/-- The settings status (R197). -/
inductive SettingsStatus where
  | adopted | deferred | rejected | restricted
deriving DecidableEq, Repr

/-- Where start-up stands (R202, R204): over; waiting for both post buffers to drain after a RESTART; reading the block
in the attempt of that number; waiting to retry; scanning the log. -/
inductive Startup where
  | done
  | drainWait
  | reading (attempt : Nat)
  | pause (attempt : Nat) (since : Nat)
  | scanning
deriving DecidableEq, Repr

/-- A log scan in progress (R203): the next slot and, of the slots read, the sequence of each that counts. -/
structure LogScan where
  slot : Nat
  found : List (Nat × Word32)
deriving DecidableEq, Repr

/-- The settings unit (R197). `inForce` is the adopted settings, or the built-in ones. `reading` is the re-read or start-up read
in progress: the bytes read so far (the next granule is their number divided by 16). -/
structure SettingsUnit where
  inForce : Settings
  restricted : Bool
  pending : Option (List Byte)
  reading : Option (List Byte)
  status : SettingsStatus
  check : Nat
  startup : Startup
  restarting : Bool
  scan : Option LogScan
deriving DecidableEq, Repr

/-! ## Plan page unit (chapter 8) -/

/-- The phases of a swap (R144). -/
inductive SwapPhase where
  | record | carryHeader | carrySteps | validate
deriving DecidableEq, Repr

/-- The swap record (R144): phase, the next granule's page offset, the flags of the commit record, the noted identity of the
running plan, the bytes of a carry read whose write is still to end, and the validation bytes read so far. -/
structure Swap where
  phase : SwapPhase
  offset : Nat
  headerCarry : Bool
  stepsCarry : Bool
  amend : Bool
  noted : Option Word16
  carry : Option (List Byte)
  bytes : List Byte
deriving DecidableEq, Repr

/-- The commit results (R144, R156). -/
inductive CommitResult where
  | none | swapped | rejected | refusedRunning | busy | memory
deriving DecidableEq, Repr

/-- The plan page unit. `swap` is absent while the swap state is IDLE; `commitCode` is the commit code last written in the
C-port transaction in progress (R139). -/
structure PageUnit where
  active : Page
  swap : Option Swap
  valid : Bool
  result : CommitResult
  check : Nat
  stepIndex : Option Nat
  commitCode : Byte
deriving DecidableEq, Repr

/-! ## Command block and telemetry checks (chapter 9) -/

/-- The command results (R160). -/
inductive CmdResult where
  | none | taken | takenPartial | refusedState | refusedArgument | unknownCode
deriving DecidableEq, Repr

/-- The command block (R160); the snapshots are kept with their ports (R176). -/
structure CommandBlock where
  image : Vector Byte 16
  written : Vector Bool 16
  lastSeq : Option Byte
  result : CmdResult
  mask : Byte
deriving DecidableEq, Repr

/-- The drive states (chapter 9). -/
inductive DriveState where
  | ready | running | braking | fault
deriving DecidableEq, Repr

/-- A telemetry record (chapter 9). -/
structure TelRecord where
  seq : Byte
  drive : DriveState
  speed : Nat
  ripple : Nat
  code : Byte
deriving DecidableEq, Repr

/-- The telemetry checks (R168). `running` says that the age timer runs, `lastFresh` is the time of the last fresh adoption (R170);
`standing` is the REFERENCE_DISAGREE condition (R172). -/
structure Telemetry where
  image : Vector Byte 16
  written : Vector Bool 16
  adopted : Option TelRecord
  adoptedSeq : Option Byte
  lastFresh : Option Nat
  running : Bool
  prevDrive : Option DriveState
  disagree : Nat
  agree : Nat
  standing : Bool
deriving DecidableEq, Repr

/-! ## Report unit (chapter 11) -/

/-- The fault kinds, numbered in this order from 0 (R191, chapter 13). -/
inductive FaultKind where
  | excursion | knock | overspeed | telemetryStale | driveFault | referenceLost | sensorFailed | halt
  | memoryFault | postedWriteLost | referenceDisagree
deriving DecidableEq, Repr

/-- The last access fault (R192). -/
structure AccessFault where
  port : Port
  kind : AccessKind
  addr : Nat
deriving DecidableEq, Repr

/-- The reasons of a step failure (R193), with the cause of DOSE_EXHAUSTED (CHAMBER_FULL when `full`, R95) and the band of
BAND_REFUSED. -/
inductive FailReason where
  | notDistributed
  | belowFloor
  | notBalanced
  | doseExhausted (full : Bool)
  | bandRefused (band : Fin 6)
deriving DecidableEq, Repr

/-- The causes of a cut (R104). -/
inductive CutCause where
  | trip | planEnd | stepExit | drain | cancel
deriving DecidableEq, Repr

/-- The kinds of log entry with their details (R193). -/
inductive LogDetail where
  | trip (kind : FaultKind) (step : Option Nat) (code : Byte)
  | stepFailed (step : Nat) (reason : FailReason) (action : FailAction)
  | planDone (identity : Word16) (retries : Nat)
  | planAborted (reason : EndReason) (step : Nat) (identity : Word16)
  | doseDone (number : Word16) (chamber : Fin 4) (origin : Origin) (full : Bool)
  | doseCut (number : Word16) (orders : Nat) (cause : CutCause) (full : Bool)
  | interlockDrop (step : Nat) (state : GovState)
  | settingsAdopted (check : Word16)
  | settingsRejected (check : Nat) (restricted : Bool)
  | commit (result : CommitResult) (check : Nat) (step : Option Nat) (identity : Option Word16)
  | restart (drops : Nat)
deriving DecidableEq, Repr

/-- A log entry as it waits in the queue: completed with class in force, measured speed and revolution counter (R193). -/
structure LogEntry where
  cls : Class
  speed : Nat
  counter : Word32
  detail : LogDetail
deriving DecidableEq, Repr

/-- The report write state (R188): IDLE, PENDING, or WRITING with the frozen image and the next granule. -/
inductive WriteState where
  | idle
  | pending
  | writing (image : List Byte) (granule : Nat)
deriving DecidableEq, Repr

/-- Whether the report unit may write (R203): it has a REPORT window and a log position; it has no REPORT window; the log
is being scanned afresh. -/
inductive Ring where
  | ready | noWindow | scanning
deriving DecidableEq, Repr

/-- An access fault that a port's read byte last begun handed over, kept so that it can be taken back with a partial byte (R177,
log 68): whether its kind was selected, the last access fault before it, and whether a fault that stands has come after it. -/
structure BegunFault where
  port : Port
  selected : Bool
  before : Option AccessFault
  covered : Bool
deriving DecidableEq, Repr

/-- The report unit (R188). The report content is the state of the other blocks, read when an image is frozen. The latch set
has bit k for the fault kind numbered k; `accessOver` is how many selected access faults found the count at 65,535, and `begun` holds
the access faults that a partial byte can still take back, newest first and one for each port at most (log 68). -/
structure ReportUnit where
  latches : BitVec 11
  accessCount : Nat
  accessOver : Nat
  lastAccess : Option AccessFault
  begun : List BegunFault
  seq : Word16
  write : WriteState
  again : Bool
  periodStart : Option Nat
  queue : List LogEntry
  nextSlot : Nat
  nextSeq : Word32
  drops : Nat
  ring : Ring
deriving DecidableEq, Repr

/-- The hand-overs at the end of a transaction that their owners have still to act on (R140, log 7). -/
structure HandOver where
  command : Bool
  telemetry : Bool
  commit : Bool
  settings : Bool
deriving DecidableEq, Repr

/-! ## The whole state -/

/-- The state of the block. `mem` is the FRAM (addresses 0x0000 to 0x7FFF); `choices` counts the open races taken (log 1);
`pending` is the queue of commands, first in, first out. -/
structure State where
  now : Nat
  timing : Timing
  est : Estimator
  gov : Governor
  runner : Runner
  dosing : Dosing
  lines : Lines
  cport : PortState
  dport : PortState
  link : MemoryLink
  settings : SettingsUnit
  pages : PageUnit
  cmd : CommandBlock
  tel : Telemetry
  report : ReportUnit
  hand : HandOver
  mem : List Host.Cell
  choices : Nat
  pending : List Instr
deriving DecidableEq, Repr

/-! ## Field updates -/

namespace State
def setNow (s : State) (v : Nat) : State := { s with now := v }
def setTiming (s : State) (v : Timing) : State := { s with timing := v }
def setEst (s : State) (v : Estimator) : State := { s with est := v }
def setGov (s : State) (v : Governor) : State := { s with gov := v }
def setRunner (s : State) (v : Runner) : State := { s with runner := v }
def setDosing (s : State) (v : Dosing) : State := { s with dosing := v }
def setLines (s : State) (v : Lines) : State := { s with lines := v }
def setCport (s : State) (v : PortState) : State := { s with cport := v }
def setDport (s : State) (v : PortState) : State := { s with dport := v }
def setLink (s : State) (v : MemoryLink) : State := { s with link := v }
def setSettings (s : State) (v : SettingsUnit) : State := { s with settings := v }
def setPages (s : State) (v : PageUnit) : State := { s with pages := v }
def setCmd (s : State) (v : CommandBlock) : State := { s with cmd := v }
def setTel (s : State) (v : Telemetry) : State := { s with tel := v }
def setReport (s : State) (v : ReportUnit) : State := { s with report := v }
def setHand (s : State) (v : HandOver) : State := { s with hand := v }
def setMem (s : State) (v : List Host.Cell) : State := { s with mem := v }
def setChoices (s : State) (v : Nat) : State := { s with choices := v }
def setPending (s : State) (v : List Instr) : State := { s with pending := v }
end State

/-! ## Reasons to stop -/

/-- No command of this block ends in a fault: the spec gives every event its effect, and an event whose moment has not come
changes nothing (log 4). The one constructor is never answered. -/
inductive Fault where
  /-- Raised by no command; it names the stop that a table without an effect would need. Safe: a step never answers it. -/
  | undefinedEvent
deriving DecidableEq, Repr

/-- A command without a meaning. -/
inductive Refusal where
  /-- Raised by exec's arm of a command that has no meaning yet, by its mnemonic. Safe: no claim rests on it. -/
  | notModelled (mnemonic : String)
deriving DecidableEq, Repr

/-! ## Values after reset -/

/-- A source record that is OFF and empty (R18). That the qualification count of an empty record is 0, and what the record holds beside
R1's items, is the model's choice (log 97). -/
def SourceRec.empty : SourceRec where
  state := .off
  count := 0
  lastPulse := none
  interval := none
  refPeriod := none
  deadline := none
  witnessed := false
  revStart := 0
  revPulses := 0

/-- R18. The values of COMM's pulse count and alignment state in an empty record, and of its angle, are the model's choice (log 97): R1
gives them no empty value. -/
def Timing.reset : Timing where
  index := .empty
  comm := .empty
  c := 0
  align := .unaligned
  commAngle := 0
  commAngleAt := 0
  commFirst := false
  sel := none
  counter := 0
  rev := none
  speed := 0
  measured := false
  atRest := false
  restStart := none

/-- The estimate NONE (R30, R41). The anchored flag is no: R41 says so of a reset, and of a flush it is the model's choice
(log 62). -/
def Estimate.none (src : EstSource) : Estimate where
  state := .none
  magnitude := 0
  angle := Option.none
  cls := 0
  source := src
  anchored := false
  magSpread := 0
  angSpread := 0
  age := Option.none

/-- The S-port with no read in progress: SCS high and SCK low (R41). -/
def SportPins.idle : SportPins where
  scs := true
  sck := false
  sdo := []

/-- The S-port during a read: SCS low, the command byte and then 0x00 for each byte clocked in (R19). -/
def SportPins.frame : SportPins where
  scs := false
  sck := false
  sdo := Config.sportCommand :: .replicate Config.sportBytes 0x00

/-- R41. -/
def Estimator.reset : Estimator where
  window := []
  est := .none .torque
  lastSettled := none
  heldClass := none
  disturbed := false
  staleMark := none
  curSource := .torque
  revTorque := none
  prevPeriod := none
  collection := none
  reading := none
  waiting := []
  pins := .idle
  excursion := 0
  sampleLoss := 0
  recovery := 0
  sensorFailed := false
  owed := false

/-- R85, R58: the start-up run-down; the ceiling and the effective target are 120 rpm, the class in force C3. -/
def Governor.reset : Governor where
  state := .stopping
  target := 0
  ramp := 100
  number := 0
  step := none
  move := .runDown
  arrivals := 0
  firstArrival := false
  holdStart := none
  band := none
  waits := .replicate 6 0
  waitSince := none
  retreats := .replicate 6 0
  markFallen := false
  history := []
  overCount := 0
  prevBoundary := none
  run := false
  startRunDown := true
  settledSinceRest := none
  classInForce := 3
  ceiling := 120
  effTarget := 120
  sensorTest := false

/-- An empty plan copy, the contents of an invalid copy after reset (log 16). -/
def Plan.empty : Plan where
  identity := 0
  stepCount := 0
  budget := 0
  maxRetries := 0
  retryTarget := 0
  steps := []

/-- R85. -/
def Runner.reset : Runner where
  state := .none
  stepIndex := 0
  retries := 0
  doseUsed := 0
  endReason := .none
  plan := .empty

/-- R108, with the next order number that the reset leaves. -/
def Dosing.reset (next : Word16) : Dosing where
  accounts := .replicate 4 0
  queue := []
  nextNumber := next
  pass := none
  drainSeen := false
  belowRetention := false
  path := { passed := [], since := 0, start := 0, len := 0, base := 0 }

/-- The flags of a test with no tested line (R117). -/
def TestFlags.empty : TestFlags where
  all := true
  none := true
  some := false
  someNot := false

/-- The lines after reset (R121): L0 and L1 outputs driven low, the others inputs whose accepted value is the level at the
pin, given by bit n of `levels`; the governor, being in STOPPING, asks for LOCK_REQ high (R110). -/
def Lines.reset (levels : BitVec 8) : Lines where
  line := Vector.ofFn fun n =>
    if n.val < 2 then
      { output := true, latch := false, accepted := false, debounce := none, pin := false, held := false }
    else
      { output := false, latch := false, accepted := levels.getLsbD n.val, debounce := none, pin := levels.getLsbD n.val,
        held := false }
  spinPermit := .empty
  dosePermit := .empty
  knock := .empty
  askFill := none
  askLock := some true

/-- The empty touch set (R140). -/
def Touch.empty : Touch where
  command := false
  telemetry := false
  commit := false
  settings := false

/-- A port right after reset, keeping the given post buffer (R127, R143, R187). -/
def PortState.reset (post : List (Nat × Byte)) : PortState where
  txn := .idle
  addrHigh := none
  pointer := 0
  touch := .empty
  snapshot := none
  viewPage := none
  reported := []
  editRefused := false
  nacked := false
  sending := none
  post := post
  stretch := none
  heldStart := none
  reply := .none

/-- An entry of the fallback map; its rights fields are NONE (the model's choice, log 17). -/
def WindowEntry.fallback (kind : WindowKind) (base limit : Nat) : WindowEntry where
  kind := kind
  cRights := .none
  dRights := .none
  handling := .held
  base := base
  limit := limit

/-- The built-in settings and the fallback map (R18, R40, R46, R106, R120, R142, R189, R192). The fields of the disabled bands
are the model's choice (log 64), and so are the kind PASS, the base 0x0010 and the limit 0x0000 of the disabled W5 to W7 (log 17). -/
def Settings.builtin : Settings where
  traffic := {
    windows := #v[.fallback .command 0x0000 0x000F, .fallback .telemetry 0x0010 0x001F,
      .fallback .planView 0x0100 0x01FF, .fallback .planEdit 0x0200 0x02FF, .fallback .report 0x0400 0x053F,
      .fallback .pass 0x0010 0x0000, .fallback .pass 0x0010 0x0000, .fallback .pass 0x0010 0x0000],
    pageA := 0x7C00,
    pageB := 0x7D00,
    fast := false,
    countSel := 0x3F }
  reference := { indexOn := true, commOn := false, preferred := .index, p := 12 }
  estimator := {
    changeover := 120, settle := 6, holdLimit := 96, angleFloor := 40, excursion := 3000, torque := 256,
    sens := Vector.ofFn fun i => { speed := 100 * (i.val + 1), sens := 512, lag := 0 } }
  governor := {
    envelope := Vector.ofFn fun i => { threshold := 100 * i.val, ceiling := 120, ascent := 20 },
    bands := .replicate 6 { low := 10, high := 0, rate := 1, admission := 0 },
    ceiling := 1200, descend := 100, unsettled := 3, interlock := 0, bandWait := 20, margin := 6, window := 10,
    ageLimit := 200 }
  dosing := {
    enable := false, span := 80, capacity := 450, nozzle := 0, lead := 0, lag := 0, flow := 300, dmin := 90, dmax := 350,
    retention := 50, settle := 6 }
  lines := {
    outputs := 0x03, debounce := 10, spinPermit := ⟨0, 0⟩, dosePermit := ⟨0, 0⟩, knock := ⟨0, 0⟩ }
  reportPeriod := 500
  checkValue := 0

/-- The settings unit at the beginning of start-up (R202, R204). -/
def SettingsUnit.reset (startup : Startup) (restarting : Bool) : SettingsUnit where
  inForce := .builtin
  restricted := true
  pending := none
  reading := none
  status := .restricted
  check := 0
  startup := startup
  restarting := restarting
  scan := none

/-- R159. The commit code noted before any has been snooped is 0 (the model's choice, log 80). -/
def PageUnit.reset : PageUnit where
  active := .a
  swap := none
  valid := false
  result := .none
  check := 0
  stepIndex := none
  commitCode := 0

/-- The command block after hard reset (R175). -/
def CommandBlock.reset : CommandBlock where
  image := .replicate 16 0
  written := .replicate 16 false
  lastSeq := none
  result := .none
  mask := 0

/-- R175. -/
def Telemetry.reset : Telemetry where
  image := .replicate 16 0
  written := .replicate 16 false
  adopted := none
  adoptedSeq := none
  lastFresh := none
  running := false
  prevDrive := none
  disagree := 0
  agree := 0
  standing := false

/-- The report unit after hard reset (R196); the log position is set by the scan at start-up and stands at the empty
ring's until then (log 18). -/
def ReportUnit.reset : ReportUnit where
  latches := 0
  accessCount := 0
  accessOver := 0
  lastAccess := none
  begun := []
  seq := 0
  write := .pending
  again := false
  periodStart := none
  queue := []
  nextSlot := 0
  nextSeq := 1
  drops := 0
  ring := .ready

/-- Nothing handed over. -/
def HandOver.empty : HandOver where
  command := false
  telemetry := false
  commit := false
  settings := false

/-- The M-port with the first start-up read on it: start-up has begun and the bus has been cleared before that read
(R183, R187, R202; log 52). -/
def MemoryLink.reset (straps : Fin 4) (now : Nat) : MemoryLink where
  transfer := some {
    who := .internal, kind := .job (.startupRead 0) false, addr := 0x7E00, data := 0, busy := true,
    count := 0, closing := false, retries := 0, since := now }
  ageD := 0
  ageI := 0
  ageC := 0
  internal := []
  straps := straps
  fast := false

/-- The block right after hard reset: every block at its reset values, start-up begun with the read of granule 0, the memory
with nothing listed, the queue of commands empty (R202). The straps and the levels of L2 to L7 are 0 here (log 19). -/
def State.reset : State where
  now := 0
  timing := .reset
  est := .reset
  gov := .reset
  runner := .reset
  dosing := .reset 1
  lines := .reset 0
  cport := .reset []
  dport := .reset []
  link := .reset 0 0
  settings := { SettingsUnit.reset (.reading 0) false with reading := some [] }
  pages := .reset
  cmd := .reset
  tel := .reset
  report := .reset
  hand := .empty
  mem := []
  choices := 0
  pending := []

end Sys2Proof.Machine
end

