-- ==== Sys2Proof/Machine/Ops.lean ====
section
/-! DEFINITION. The shared operations: the FRAM, the passing of time, the free orders, and little-endian bytes. -/

namespace Sys2Proof.Machine

/-! ### The FRAM: a list of (address, byte), addresses strictly rising, no entry equal to the blank byte -/

/-- What an address that the list does not name reads as (log 8). -/
def Memory.blank : Byte := 0x00

/-- The byte at an address. -/
def Memory.read : List Host.Cell → Nat → Byte
  | [], _ => Memory.blank
  | (b, v) :: rest, a => if a = b then v else Memory.read rest a

/-- Put a byte at an address, keeping the canonical form. -/
def Memory.put : List Host.Cell → Nat → Byte → List Host.Cell
  | [], a, v => if v = Memory.blank then [] else [(a, v)]
  | (b, w) :: rest, a, v =>
    if a < b then (if v = Memory.blank then (b, w) :: rest else (a, v) :: (b, w) :: rest)
    else if a = b then (if v = Memory.blank then rest else (a, v) :: rest)
    else (b, w) :: Memory.put rest a v

/-- The canonical form from a least address on. -/
def Memory.wfFrom : Nat → List Host.Cell → Bool
  | _, [] => true
  | n, (a, v) :: rest =>
    decide (n ≤ a) && decide (a < Config.memSize) && decide (v ≠ Memory.blank) && Memory.wfFrom (a + 1) rest

/-- The canonical form of the FRAM. -/
def Memory.wf (m : List Host.Cell) : Bool := Memory.wfFrom 0 m

/-- The byte the FRAM holds at an address. -/
def readByte (s : State) (a : Nat) : Byte := Memory.read s.mem a

/-- Bytes of the FRAM from an address on. -/
def readBytes (s : State) (a : Nat) : Nat → List Byte
  | 0 => []
  | n + 1 => readByte s a :: readBytes s (a + 1) n

/-- Store one byte; the FRAM has no address at or above 0x8000 (0.5). -/
def storeByte (s : State) (a : Nat) (v : Byte) : State :=
  if a < Config.memSize then s.setMem (Memory.put s.mem a v) else s

/-- Store bytes from an address on. -/
def storeBytes (s : State) (a : Nat) : List Byte → State
  | [] => s
  | v :: rest => storeBytes (storeByte s a v) (a + 1) rest

/-! ### Time and free choices -/

/-- `dt` µs pass (log 4). -/
def advance (dt : Nat) (s : State) : State := s.setNow (s.now + dt)

/-- The whole µs since a moment. -/
def since (s : State) (t : Nat) : Nat := s.now - t

/-- Take the number of the next free choice. -/
def nextChoice (s : State) : State := s.setChoices (s.choices + 1)

/-- Two blocks act on one occasion with no order among them (0.6): where the orders differ, a free order decides (log 1). -/
def unordered (f g : State → State) (s : State) : State :=
  if g (f s) = f (g s) then g (f s)
  else if Config.order s.choices % 2 = 0 then g (f (nextChoice s)) else f (g (nextChoice s))

/-- Three blocks with no order among them: the six orders, chosen like two (log 1). -/
def unordered3 (f g h : State → State) (s : State) : State :=
  if h (g (f s)) = g (h (f s)) ∧ h (g (f s)) = h (f (g s)) ∧ h (g (f s)) = f (h (g s)) ∧ h (g (f s)) = g (f (h s)) ∧
      h (g (f s)) = f (g (h s)) then h (g (f s))
  else
    match Config.order s.choices % 6 with
    | 0 => h (g (f (nextChoice s)))
    | 1 => g (h (f (nextChoice s)))
    | 2 => h (f (g (nextChoice s)))
    | 3 => f (h (g (nextChoice s)))
    | 4 => g (f (h (nextChoice s)))
    | _ => f (g (h (nextChoice s)))

/-- `k n`, with `n` evaluated first. -/
def force {α : Type} (n : Nat) (k : Nat → α) : α :=
  match n with
  | 0 => k 0
  | m + 1 => k (m + 1)

/-! ### Little-endian bytes (0.6, chapter 13) -/

/-- Byte `i` of a list, 0 beyond its end. -/
def byteAt (l : List Byte) (i : Nat) : Nat := (l.getD i 0).toNat

/-- The two-byte field at offset `i`. -/
def wordAt (l : List Byte) (i : Nat) : Nat := byteAt l i + 256 * byteAt l (i + 1)

/-- The four-byte field at offset `i`. -/
def longAt (l : List Byte) (i : Nat) : Nat := wordAt l i + 65536 * wordAt l (i + 2)

/-- One byte of a value. -/
def le8 (n : Nat) : List Byte := [BitVec.ofNat 8 n]

/-- A two-byte field; a value above 65,535 shows as a free value (log 3). -/
def le16 (n : Nat) : List Byte :=
  if n < 65536 then [BitVec.ofNat 8 n, BitVec.ofNat 8 (n / 256)]
  else [(Config.unstated16 n).truncate 8, ((Config.unstated16 n) >>> 8).truncate 8]

/-- A four-byte field. -/
def le32 (w : Word32) : List Byte := [w.truncate 8, (w >>> 8).truncate 8, (w >>> 16).truncate 8, (w >>> 24).truncate 8]

/-- 1 for true. -/
def bit (b : Bool) : Nat := if b then 1 else 0

/-- The absolute difference. -/
def absDiff (a b : Nat) : Nat := (a - b) + (b - a)

/-- An element of a vector by a number; the default beyond its end. -/
def nth {α : Type} {n : Nat} (v : Vector α n) (i : Nat) (d : α) : α := v.toList.getD i d

/-! ### CRC-16, polynomial 0x1021, initial value 0xFFFF, most significant bit first (0.6 Check values) -/

/-- `n` shifts of the register. -/
def crcBits : Nat → Nat → Nat
  | 0, c => c
  | n + 1, c => force (if c < 0x8000 then c * 2 else ((c * 2) % 65536) ^^^ 0x1021) (crcBits n)

/-- The register after the bytes. -/
def crcFrom (c : Nat) : List Byte → Nat
  | [] => c
  | b :: rest => force (crcBits 8 (c ^^^ (b.toNat * 256))) fun d => crcFrom d rest

/-- The check value of the bytes. -/
def crc16 (l : List Byte) : Nat := crcFrom 0xFFFF l

end Sys2Proof.Machine
end

