-- ==== Sys2Proof/Machine/Angles.lean ====
section
/-! DEFINITION. The drum angle, its anchoring, and the path of pass angles (chapter 1, R100). -/

namespace Sys2Proof.Machine

/-- The COMM step of 360/P degrees in 1/256 degree. -/
def commStep (s : State) : Nat := Config.fullTurn / s.settings.inForce.reference.p

/-- R12: the INDEX angle at the present moment, rounded down to a step of 1/256 degree (the model's choice, log 55). -/
def indexAngle (s : State) : Nat :=
  match s.timing.index.lastPulse, s.timing.index.refPeriod with
  | some l, some r =>
    if since s l < r then Config.fullTurn * since s l / r else if since s l = 0 then 0 else Config.lastAngle
  | _, _ => 0

/-- R13: how far the COMM angle has gone on since it was set, in an interval of `i` µs: rounded down to a step of 1/256 degree (the
model's choice, log 55), and stopped one step short of the next pulse's angle (log 21). An interval of 0 µs has passed from the
next µs on (the model's choice, log 56). -/
def commAdvanced (s : State) (i : Nat) : Nat :=
  if i = 0 then (if since s s.timing.commAngleAt = 0 then 0 else commStep s - 1)
  else min (commStep s * since s s.timing.commAngleAt / i) (commStep s - 1)

/-- R13: the COMM angle at the present moment. -/
def commAngleNow (s : State) : Nat :=
  match s.timing.comm.interval with
  | some i => (s.timing.commAngle + commAdvanced s i) % Config.fullTurn
  | none => s.timing.commAngle

/-- R11: the drum angle, absent while it is invalid. -/
def drumAngle (s : State) : Option Nat :=
  match s.timing.sel with
  | none => none
  | some .index => some (indexAngle s)
  | some .comm => some (commAngleNow s)

/-- R11: whether the angle is anchored. -/
def isAnchored (t : Timing) : Bool :=
  match t.sel with
  | none => false
  | some .index => true
  | some .comm => t.align == .aligned

/-- The forward rotation from angle `a` to angle `b`. -/
def forward (a b : Nat) : Nat := (b + Config.fullTurn - a) % Config.fullTurn

/-- Whether an arc has the angle `a`. -/
def Arc.has (x : Arc) (a : Nat) : Bool := decide (forward x.start a < x.len)

/-- The angle `a` alone. -/
def Arc.point (a : Nat) : Arc where
  start := a
  len := 1

/-- The last arc of the path, with the angle now at `cur`. -/
def AnglePath.lastArc (p : AnglePath) (cur : Nat) : Arc where
  start := p.start
  len := p.len + forward p.base cur

/-- All that has not been taken, oldest first, with the angle now at `cur`. -/
def AnglePath.arcs (p : AnglePath) (cur : Nat) : List Arc := p.passed ++ [p.lastArc cur]

/-- R100: whether the angle has reached the pass angle `a` since the path was last taken (log 14). -/
def AnglePath.reached (p : AnglePath) (cur a : Nat) : Bool := (p.arcs cur).any (·.has a)

/-- What follows the angle `a` in the arcs that reach it, but for the first `skip` of its steps. -/
def arcsFrom (a skip : Nat) : List Arc → List Arc
  | [] => []
  | x :: rest =>
    if x.has a then
      { start := (a + skip) % Config.fullTurn, len := x.len - (forward x.start a + skip) } :: rest
    else arcsFrom a skip rest

/-- The path after the pass angle `a` has been taken: with `skip` 1 the angle itself too, with `skip` 0 it is left for a pass angle
that coincides with it (log 14). -/
def AnglePath.cut (p : AnglePath) (cur a skip : Nat) : AnglePath :=
  let rest := arcsFrom a skip (p.arcs cur)
  let last := rest.getLastD { start := (cur + 1) % Config.fullTurn, len := 0 }
  { passed := rest.dropLast, since := p.since, start := last.start, len := last.len, base := cur }

/-- The angle on which an arc lands; of an arc without a step, the one before its start. -/
def Arc.last (x : Arc) : Nat := (x.start + x.len + Config.fullTurn - 1) % Config.fullTurn

/-- The rotation from the angle `a` over the arcs of a path, forward less backward: between two arcs the angle has stepped back from the
end of the one to the step before the start of the other. -/
def netTurn (a : Nat) : List Arc → Int
  | [] => 0
  | x :: rest => x.len - forward ((x.start + Config.fullTurn - 1) % Config.fullTurn) a + netTurn x.last rest

/-- A path that begins at the present angle. -/
def AnglePath.fresh (cur : Nat) : AnglePath where
  passed := []
  since := 0
  start := (cur + 1) % Config.fullTurn
  len := 0
  base := cur

/-- What a change of the angle at the moment `now` from `a` keeps of the path: all that the changes of the same moment have reached,
else the angle changed from alone, where it has not been taken (log 14). -/
def AnglePath.before (p : AnglePath) (now a : Nat) : List Arc :=
  if p.since = now then p.arcs a else if (p.lastArc a).has a then [.point a] else []

/-- R100: a change of the angle from `a` to `b`: a forward step of at most 180 degrees passes over what lies between and lands
on `b`; any other change is a backward step and reaches nothing. What the changes of one moment reach stays reached. -/
def AnglePath.jump (p : AnglePath) (now a b : Nat) : AnglePath :=
  let steps := if forward a b ≤ Config.fullTurn / 2 then forward a b else 0
  { passed := p.before now a, since := now, start := (b + Config.fullTurn + 1 - steps) % Config.fullTurn, len := steps, base := b }

/-- Note in the dosing unit's path that the angle has changed from its value in `old` to its value in `s`. -/
def followAngle (old s : State) : State :=
  match drumAngle old, drumAngle s with
  | some a, some b => s.setDosing { s.dosing with path := s.dosing.path.jump s.now a b }
  | _, some b => s.setDosing { s.dosing with path := .fresh b }
  | _, none => s

end Sys2Proof.Machine
end

