-- ==== Sys2Proof/Machine/Flags.lean ====
section
/-! DEFINITION. Flags: the interlock tests, the fault latch set, classes, bands, and the live command's mode. -/

namespace Sys2Proof.Machine

/-! ### Interlock tests (R116, R117) -/

/-- The tested lines of a test: mask bit set and direction INPUT. -/
def testedLines (ls : Lines) (t : TestSetting) : List (Fin 8) :=
  (List.finRange 8).filter fun n => t.mask.getLsbD n && !ls.line[n].output

/-- R116: a tested line matches when its accepted value equals its pattern bit. -/
def lineMatches (ls : Lines) (t : TestSetting) (n : Fin 8) : Bool := ls.line[n].accepted == t.pattern.getLsbD n

/-- R117: the four flags of a test. -/
def testFlags (ls : Lines) (t : TestSetting) : TestFlags where
  all := (testedLines ls t).all (lineMatches ls t)
  none := (testedLines ls t).all fun n => !lineMatches ls t n
  some := (testedLines ls t).any (lineMatches ls t)
  someNot := (testedLines ls t).any fun n => !lineMatches ls t n

/-! ### Fault kinds (R191, chapter 13) -/

/-- The number of a fault kind. -/
def FaultKind.number : FaultKind → Nat
  | .excursion => 0
  | .knock => 1
  | .overspeed => 2
  | .telemetryStale => 3
  | .driveFault => 4
  | .referenceLost => 5
  | .sensorFailed => 6
  | .halt => 7
  | .memoryFault => 8
  | .postedWriteLost => 9
  | .referenceDisagree => 10

/-- The latch set that holds one kind. -/
def FaultKind.mask (k : FaultKind) : BitVec 11 := 1#11 <<< k.number

/-- Whether a kind is latched. -/
def isLatched (s : State) (k : FaultKind) : Bool := s.report.latches.getLsbD k.number

/-- The first eight kinds are trip kinds (R165, R191). -/
def tripMask : BitVec 11 := 0x0FF#11

/-- Whether a fault of a trip kind stands in the fault latch set. -/
def tripLatched (s : State) : Bool := s.report.latches &&& tripMask != 0

/-- R195: ALERT is driven low while a latch stands, the runner waits for RESUME, or the settings are REJECTED or RESTRICTED:
from a reset on, whose status is RESTRICTED (the model's reading of R196, log 86). -/
def alertLow (s : State) : Bool :=
  s.report.latches != 0 || s.runner.state == .waitResume || s.settings.status == .rejected ||
    s.settings.status == .restricted

/-! ### Classes and bands (R34, R44, R52) -/

/-- R34: the highest class whose lower threshold the magnitude reaches; C0's threshold is always 0. -/
def classOf (g : GovernorSettings) (magnitude : Nat) : Class :=
  (List.finRange 8).foldl (fun c k => if g.envelope[k].threshold ≤ magnitude then k else c) 0

/-- The worse of two classes (0.6 Names). -/
def worseClass (a b : Class) : Class := if a ≤ b then b else a

/-- R44: a band is enabled when its low speed is not above its high speed. -/
def Band.enabled (b : Band) : Bool := decide (b.low ≤ b.high)

/-- R44: whether a speed lies inside an enabled band. -/
def Band.holds (b : Band) (v : Nat) : Bool := b.enabled && decide (b.low ≤ v) && decide (v ≤ b.high)

/-- R44: the hold point. -/
def Band.holdPoint (b : Band) : Nat := b.low - 10

/-- The first band that a speed lies inside. -/
def bandAt (g : GovernorSettings) (v : Nat) : Option (Fin 6) := (List.finRange 6).find? fun k => g.bands[k].holds v

/-- R52: replace a speed inside a band by the band's hold point, `n` times at most. -/
def outsideBands (g : GovernorSettings) : Nat → Nat → Nat
  | 0, v => v
  | n + 1, v =>
    match bandAt g v with
    | none => v
    | some k => outsideBands g n g.bands[k].holdPoint

/-- R52: the effective target of a ceiling; at most six replacements are ever made. -/
def effectiveTarget (g : GovernorSettings) (v : Nat) : Nat := outsideBands g 6 v

/-- R64: the adjusted hold point of a band. -/
def adjustedHold (g : GovernorSettings) (k : Fin 6) : Nat := effectiveTarget g g.bands[k].holdPoint

/-! ### The live command (R60) -/

/-- The mode that the governor state gives. -/
def modeOf (g : Governor) : Mode :=
  match g.state with
  | .idle => .off
  | .trip => .brake
  | .stopping => if g.startRunDown then .brake else .run
  | _ => .run

/-- The live command. -/
def liveCommand (g : Governor) : LiveCommand where
  target := g.target
  ramp := g.ramp
  mode := modeOf g
  state := g.state
  number := g.number

/-! ### Conditions that several blocks ask for -/

/-- The runner is RUNNING or in WAIT_RESUME. -/
def planUnderWay (s : State) : Bool := s.runner.state == .running || s.runner.state == .waitResume

/-- The governor is in HOLD or BALANCE. -/
def atTarget (s : State) : Bool := s.gov.state == .hold || s.gov.state == .balance

/-- A swap is in flight. -/
def swapBusy (s : State) : Bool := s.pages.swap.isSome

/-- Start-up has ended. -/
def started (s : State) : Bool := s.settings.startup == .done

/-- The measured speed lies within the dosing range (R100). -/
def inDosingRange (s : State) : Bool :=
  decide (s.settings.inForce.dosing.dmin ≤ s.timing.speed) && decide (s.timing.speed ≤ s.settings.inForce.dosing.dmax)

end Sys2Proof.Machine
end

