-- ==== Sys2Proof/Machine/Reporting.lean ====
section
/-! DEFINITION. What the other blocks ask of the report unit: triggers, fault latches, access faults and log entries. -/

namespace Sys2Proof.Machine

/-- R189: a trigger asks for a report write. -/
def trigger (s : State) : State :=
  match s.report.write with
  | .idle => s.setReport { s.report with write := .pending }
  | .pending => s
  | .writing _ _ => s.setReport { s.report with again := true }

/-- R191: a raised fault enters the fault latch set; a change of the set is a trigger. -/
def raiseFault (k : FaultKind) (s : State) : State :=
  if isLatched s k then s else trigger (s.setReport { s.report with latches := s.report.latches ||| k.mask })

/-- The log drops count rises by 1 and stays at 65,535 (R194). -/
def dropEntry (s : State) : State := s.setReport { s.report with drops := min (s.report.drops + 1) 65535 }

/-- R193, R194: a log entry is completed with the class in force, the measured speed and the revolution counter, and joins the
queue, or is dropped and counted when the queue holds 8 or there is no REPORT window (R203). -/
def askLog (d : LogDetail) (s : State) : State :=
  if s.report.queue.length < 8 ∧ s.report.ring ≠ .noWindow then
    s.setReport { s.report with
      queue := s.report.queue ++
        [{ cls := s.gov.classInForce, speed := s.timing.speed, counter := s.timing.counter, detail := d }] }
  else dropEntry s

/-- The number of an access fault kind as the count selection and the report record order them (chapter 13). -/
def AccessKind.number : AccessKind → Nat
  | .forbiddenWrite => 0
  | .forbiddenRead => 1
  | .outOfMemory => 2
  | .hiddenPage => 3
  | .editBusy => 4
  | .memoryTimeout => 5

/-- R192: whether the count selection in force names a kind. -/
def countSelects (s : State) (k : AccessKind) : Bool := s.settings.inForce.traffic.countSel.getLsbD k.number

/-- A fault that a partial byte could take back is no longer the last one: a fault that stands has come after it (log 68). -/
def BegunFault.cover (e : BegunFault) : BegunFault := { e with covered := true }

/-- R192: an access fault becomes the last one and is counted when its kind is selected, up to 65,535. -/
def ReportUnit.record (r : ReportUnit) (f : AccessFault) (selected : Bool) : ReportUnit :=
  { r with
    lastAccess := some f
    accessCount := if selected ∧ r.accessCount < 65535 then r.accessCount + 1 else r.accessCount
    accessOver := if r.accessCount < 65535 then 0 else if selected then r.accessOver + 1 else r.accessOver
    begun := r.begun.map BegunFault.cover }

/-- R192: a port hands over an access fault that stands. -/
def recordAccess (p : Port) (k : AccessKind) (a : Nat) (s : State) : State :=
  s.setReport (s.report.record { port := p, kind := k, addr := a } (countSelects s k))

end Sys2Proof.Machine
end

