-- ==== Sys2Proof/Machine/Trig.lean ====
section
/-! DEFINITION. Sines, square roots and directions in whole-number arithmetic (R24, R25, R31, R94; precision in log 10). -/

namespace Sys2Proof.Machine

/-- The sines of 0 to 44 degrees, times 2 to the 40th, each rounded to the nearest whole number. -/
def sinTableLow : List Nat := [
  0, 19189123810, 38372402428, 57543992440, 76698053994, 95828752579, 114930260796,
  133996760143, 153022442779, 172001513297, 190928190487, 209796709101, 228601321605, 247336299932,
  265995937225, 284574549580, 303066477770, 321466088975, 339767778496, 357965971459, 376055124520,
  394029727547, 411884305302, 429613419108, 447211668504, 464673692894, 481994173176, 499167833363,
  516189442193, 533053814719, 549755813888, 566290352111, 582652392807, 598836951940, 614839099536,
  630653961186, 646276719531, 661702615726, 676926950894, 691945087556, 706752451041, 721344530882,
  735716882192, 749865127013, 763784955652]

/-- The sines of 45 to 90 degrees, times 2 to the 40th. -/
def sinTableHigh : List Nat := [
  777472127994, 790922474794, 804131898947, 817096376734, 829811959049, 842274772603, 854481021101,
  866426986403, 878109029652, 889523592384, 900667197612, 911536450887, 922128041329, 932438742637,
  942465414071, 952205001410, 961654537882, 970811145065, 979672033769, 988234504882, 996495950191,
  1004453853180, 1012105789795, 1019449429182, 1026482534398, 1033202963089, 1039608668150, 1045697698339,
  1051468198879, 1056918412020, 1062046677574, 1066851433422, 1071331215988, 1075484660688, 1079310502342,
  1082807575561, 1085974815103, 1088811256197, 1091316034834, 1093488388035, 1095327654081, 1096833272712,
  1098004785303, 1098841835000, 1099344166829, 1099511627776]

/-- The scale of the sine table. -/
def unit40 : Nat := 2 ^ 40

/-- The sine of a whole angle from 0 to 90 degrees. -/
def sinQuarter (d : Nat) : Nat := if d < 45 then sinTableLow.getD d 0 else sinTableHigh.getD (d - 45) 0

/-- The sine of a whole angle in degrees. -/
def sinDeg (d : Nat) : Int :=
  let e := d % 360
  if e ≤ 90 then sinQuarter e
  else if e ≤ 180 then sinQuarter (180 - e)
  else if e ≤ 270 then -(sinQuarter (e - 180) : Int)
  else -(sinQuarter (360 - e) : Int)

/-- The cosine of a whole angle in degrees. -/
def cosDeg (d : Nat) : Int := sinDeg (d + 90)

/-- The bits of a square root, from the highest down. -/
def isqrtBits (n : Nat) : Nat → Nat → Nat
  | 0, r => r
  | k + 1, r => force (if (r + 2 ^ k) * (r + 2 ^ k) ≤ n then r + 2 ^ k else r) (isqrtBits n k)

/-- The square root, rounded down. -/
def isqrt (n : Nat) : Nat := isqrtBits n (Nat.log2 n / 2 + 1) 0

/-- The square root of `q` divided by `d`, rounded to the nearest whole number, a half rounding up (log 61). -/
def rootOver (q d : Nat) : Nat := (isqrt (4 * q) + d) / (2 * d)

/-- The largest whole degree from 0 to `k` at or before the direction (x, y) of the first quadrant (x above 0, y from 0 on). -/
def quarterDegree (x y : Nat) : Nat → Nat
  | 0 => 0
  | k + 1 => if sinQuarter (k + 1) * x ≤ sinQuarter (90 - (k + 1)) * y then k + 1 else quarterDegree x y k

/-- The angle below one degree whose tangent is `t` times 2 to the minus 40th, in 1/2^32 degree. -/
def smallAngle (t : Nat) : Nat :=
  let cube := t * t * t / (unit40 * unit40)
  let fifth := cube * t * t / (unit40 * unit40)
  (t - cube / 3 + fifth / 5) * 62997375797124 / 2 ^ 48

/-- The direction of (x, y) of the first quadrant in 1/2^32 degree. -/
def quarterAngle (x y : Nat) : Nat :=
  force (quarterDegree x y 89) fun k =>
    let across := sinQuarter (90 - k) * y - sinQuarter k * x
    let along := sinQuarter (90 - k) * x + sinQuarter k * y
    k * 2 ^ 32 + smallAngle (across * unit40 / along)

/-- The direction of the vector (x, y) in 1/2^32 degree, from 0 to below 360 degrees; 0 for the vector of length 0. -/
def direction (x y : Int) : Nat :=
  if 0 < x ∧ 0 ≤ y then quarterAngle x.toNat y.toNat
  else if x ≤ 0 ∧ 0 < y then 90 * 2 ^ 32 + quarterAngle y.toNat (-x).toNat
  else if x < 0 ∧ y ≤ 0 then 180 * 2 ^ 32 + quarterAngle (-x).toNat (-y).toNat
  else if 0 ≤ x ∧ y < 0 then 270 * 2 ^ 32 + quarterAngle (-y).toNat x.toNat
  else 0

/-- The coefficients of (x^180 - 1)(x^120 - 1)(x^72 - 1) modulo x^360 - 1. -/
def cancelWeight (d : Nat) : Int :=
  match d with
  | 12 | 72 | 120 | 180 => 1
  | 0 | 192 | 252 | 300 => -1
  | _ => 0

/-- R24, R31: whether vectors of whole lengths at whole degrees add up to exactly 0. They do exactly when the sum, as a polynomial in
the 360th root of unity, times (x^180 - 1)(x^120 - 1)(x^72 - 1) is 0 modulo x^360 - 1: that product is 0 at every 360th root of unity
but the primitive ones, and at none of those. -/
def vanishes (l : List (Int × Nat)) : Bool :=
  (List.range 360).all fun j => l.foldl (fun a v => a + v.1 * cancelWeight ((j + 360 - v.2 % 360) % 360)) 0 == 0

/-- The direction of a sum (x, y) of vectors of whole lengths at whole degrees; 0 where they add up to exactly 0. -/
def sumDirection (l : List (Int × Nat)) (x y : Int) : Nat := if vanishes l then 0 else direction x y

/-- A fraction rounded to the nearest whole number, a half rounding up (log 61). -/
def nearest (a : Int) (b : Nat) : Int := (2 * a + b) / (2 * (b : Int))

/-- The difference of two whole angles along the shorter arc. -/
def arc (a b : Nat) : Nat := min ((a + 360 - b) % 360) ((b + 360 - a) % 360)

end Sys2Proof.Machine
end

