-- ==== Sys2Proof/Machine/Estimator.lean ====
section
/-! DEFINITION. The estimator with the S-port: requests, records, the window, flushes and the estimate (chapter 2).

Every recomputation and flush sets `owed`; the update is handed on by `deliver` of Estimates.lean (log 5). -/

namespace Sys2Proof.Machine

/-! ### The S-port -/

/-- R20: a tub-sample request: it starts a new collection when its revolution is another, and is read at once, waits, or is not
read when four already wait. -/
def sampleRequest (r : SampleRequest) (s : State) : State :=
  let e := s.est
  let col := match e.collection with
    | some c => if c.rev = r.rev then c else { rev := r.rev, samples := [] }
    | none => { rev := r.rev, samples := [] }
  match e.reading with
  | none => s.setEst { e with collection := some col, reading := some (r, false), pins := .frame }
  | some _ =>
    if e.waiting.length < 4 then s.setEst { e with collection := some col, waiting := e.waiting ++ [r] }
    else s.setEst { e with collection := some col }

/-- A signed two's-complement axis value, low byte first (R19). -/
def axis (low high : Byte) : Int := (high ++ low : Word16).toInt

/-- R19: a value within -8,000 to +8,000 mg. -/
def inRange (v : Int) : Bool := decide (-8000 ≤ v) && decide (v ≤ 8000)

/-- R19: the frame's own part of the good-sample test. -/
def goodFrame (f : SportFrame) : Bool :=
  f.status.getLsbD 0 && inRange (axis f.xLow f.xHigh) && inRange (axis f.yLow f.yHigh) && inRange (axis f.zLow f.zHigh)

/-- R20: file the result of a read under its revolution and index, or discard it. -/
def fileSample (f : SportFrame) (r : SampleRequest) (gap : Bool) (col : Option Collection) : Option Collection :=
  match col with
  | some c =>
    if c.rev = r.rev ∧ !gap ∧ goodFrame f then
      some { c with samples := c.samples ++
        [{ index := r.index, x := axis f.xLow f.xHigh, y := axis f.yLow f.yHigh, angle := r.angle }] }
    else some c
  | none => none

/-- R19, R20: a read completes and SCS goes high; the oldest waiting request starts its read with the next frame. -/
def readComplete (f : SportFrame) (s : State) : State :=
  match s.est.reading with
  | none => s
  | some (r, gap) =>
    s.setEst { s.est with
      collection := fileSample f r gap s.est.collection,
      reading := s.est.waiting.head?.map fun w => (w, false),
      waiting := s.est.waiting.tail,
      pins := if s.est.waiting.isEmpty then .idle else .frame }

/-! ### Records (R24 to R27) -/

/-- R24: the sums of the in-phase and quadrature products, times 2 to the 40th. -/
def productSums (l : List Sample) : Int × Int :=
  l.foldl (fun (i, q) m =>
    (i + m.x * cosDeg m.angle + m.y * sinDeg m.angle, q + m.x * sinDeg m.angle - m.y * cosDeg m.angle)) (0, 0)

/-- R24: the largest length of the (x, y) vector, rounded down. -/
def peakOf (l : List Sample) : Nat := l.foldl (fun p m => max p (isqrt (m.x * m.x + m.y * m.y).toNat)) 0

/-- R25: the place of a speed in the sensitivity table: the two points, the distance above the first, and the distance between
them. -/
def sensPlace (t : Vector SensPoint 8) (v : Nat) : SensPoint × SensPoint × Nat × Nat :=
  if v ≤ t[0].speed then (t[0], t[0], 0, 1)
  else
    match (List.finRange 7).find? fun k => decide (v ≤ t[k.succ].speed) with
    | some k => (t[k.castSucc], t[k.succ], v - t[k.castSucc].speed, t[k.succ].speed - t[k.castSucc].speed)
    | none => (t[7], t[7], 0, 1)

/-- R25: the lag difference along the shorter arc; exactly 180 degrees runs upward. -/
def lagArc (a b : Nat) : Int :=
  let d := (b + 360 - a) % 360
  if d ≤ 180 then d else (d : Int) - 360

/-- R24: the two products of the samples, as vectors: x at the sample's angle and y a quarter turn behind it. -/
def productVectors (l : List Sample) : List (Int × Nat) := l.flatMap fun m => [(m.x, m.angle), (m.y, m.angle + 270)]

/-- R24, R25: the magnitude and angle of a TUB record at a speed. -/
def tubValues (set : EstimatorSettings) (v : Nat) (l : List Sample) : Nat × Option Nat :=
  match l.length with
  | 0 => (0, none)
  | n + 1 =>
    let (i, q) := productSums l
    let (p1, p2, dist, den) := sensPlace set.sens v
    let sens := ((p1.sens : Int) * den + ((p2.sens : Int) - p1.sens) * dist).toNat
    let lag := (p1.lag : Int) * den + lagArc p1.lag p2.lag * dist
    let magnitude := rootOver ((i * i + q * q).toNat * sens * sens) ((n + 1) * unit40 * 256 * den)
    let angle := nearest ((sumDirection (productVectors l) i q : Int) * den - lag * 2 ^ 32) (2 ^ 32 * den) % 360
    (min magnitude 4095, some angle.toNat)

/-- R26: the magnitude of a TORQUE record; an exact half gram rounds up (the model's choice, log 61). -/
def torqueMagnitude (set : EstimatorSettings) (torque : Nat) : Nat := min ((2 * torque * set.torque + 256) / 512) 4095

/-- The boundary report (R15). -/
structure BoundaryReport where
  number : Word32
  source : Source
  period : Nat
  speed : Nat
  anchored : Bool
  requests : Nat
deriving DecidableEq, Repr

/-- The good samples of the revolution that a report ends. -/
def reportSamples (e : Estimator) (r : BoundaryReport) : List Sample :=
  match e.collection with
  | some c => if c.rev = r.number then c.samples else []
  | none => []

/-- R27: the record's speed has changed. -/
def speedChanged (e : Estimator) (r : BoundaryReport) : Bool :=
  match e.prevPeriod with
  | some p => decide (3 * p < 100 * absDiff r.period p)
  | none => false

/-- R24 to R27: the record of a revolution with its creation tag. -/
def makeRecord (set : EstimatorSettings) (e : Estimator) (r : BoundaryReport) : Record :=
  match e.curSource with
  | .tub =>
    let l := reportSamples e r
    let (m, a) := tubValues set r.speed l
    { number := r.number, source := .tub, speed := r.speed, period := r.period, magnitude := m, angle := a
      peak := some (peakOf l), good := some l.length, anchored := r.anchored
      tag := if l.length < 28 then .sampleLoss else if speedChanged e r then .speedChanging else .valid }
  | .torque =>
    { number := r.number, source := .torque, speed := r.speed, period := r.period
      magnitude := (e.revTorque.map (torqueMagnitude set)).getD 0, angle := none, peak := none, good := none
      anchored := r.anchored
      tag := if e.revTorque.isNone then .missing else if speedChanged e r then .speedChanging else .valid }

/-! ### The estimate (R30 to R36) -/

/-- A new estimate record; a change of its state or class is a trigger (R36, R189). The update is owed (log 5). -/
def setEstimate (x : Estimate) (s : State) : State :=
  let t := if x.state = s.est.est.state ∧ x.cls = s.est.est.cls then s else trigger s
  t.setEst { t.est with est := x, owed := true }

/-- R30: a flush; the disturbed flag is set (R33). -/
def flush (s : State) : State :=
  let t := setEstimate (.none s.est.curSource) s
  t.setEst { t.est with
    window := [], heldClass := none, lastSettled := none, excursion := 0, sampleLoss := 0, disturbed := true }

/-- R30: a gap mark: the flush with its further effects. The result of a read in progress will be discarded (R20). -/
def gapMark (s : State) : State :=
  let t := flush s
  t.setEst { t.est with
    collection := none, waiting := [], reading := t.est.reading.map fun r => (r.1, true), revTorque := none,
    prevPeriod := none, recovery := 0 }

/-- R21: the changeover test on a measured speed; a changeover flushes. -/
def changeover (v : Nat) (s : State) : State :=
  let c := s.settings.inForce.estimator.changeover
  match s.est.curSource with
  | .torque => if c ≤ v then flush (s.setEst { s.est with curSource := .tub }) else s
  | .tub => if v < c - 10 then flush (s.setEst { s.est with curSource := .torque }) else s

/-- R31: the records newer than the newest SPEED_CHANGING one. -/
def sinceChange (w : List Record) : List Record :=
  w.foldl (fun l r => if r.tag = .speedChanging then [] else l ++ [r]) []

/-- R31: the candidates. -/
def candidates (e : Estimator) : List Record :=
  (sinceChange e.window).filter fun r =>
    r.tag = .valid && r.source == e.curSource && (e.staleMark.all fun m => decide (m < r.number))

/-- R31: the rounded mean of a test set. -/
def meanOf (src : EstSource) (l : List Record) : Nat × Option Nat :=
  match src with
  | .tub =>
    let x := l.foldl (fun a r => a + (r.magnitude : Int) * cosDeg (r.angle.getD 0)) 0
    let y := l.foldl (fun a r => a + (r.magnitude : Int) * sinDeg (r.angle.getD 0)) 0
    match l.length with
    | 0 => (0, none)
    | n + 1 =>
      (rootOver (x * x + y * y).toNat ((n + 1) * unit40),
        some ((nearest (sumDirection (l.map fun r => ((r.magnitude : Int), r.angle.getD 0)) x y) (2 ^ 32)) % 360).toNat)
  | .torque =>
    match l.length with
    | 0 => (0, none)
    | n + 1 => ((nearest (l.foldl (fun a r => a + (r.magnitude : Int)) 0) (n + 1)).toNat, none)

/-- R31: the magnitude spread. -/
def magSpread (l : List Record) (m : Nat) : Nat := l.foldl (fun d r => max d (absDiff r.magnitude m)) 0

/-- R31: the angle spread; 0 for TORQUE and for an empty test set. -/
def angSpread (l : List Record) (a : Option Nat) : Nat :=
  match a with
  | some b => l.foldl (fun d r => max d (arc (r.angle.getD 0) b)) 0
  | none => 0

/-- R32: the two spread tests. -/
def spreadsPass (set : EstimatorSettings) (src : EstSource) (m ms as : Nat) : Bool :=
  decide (ms ≤ max 20 (15 * m / 100)) && (src == .torque || decide (m < set.angleFloor) || decide (as ≤ 25))

/-- R31 to R35: recompute the estimate, for a record that has joined (its tag and magnitude) or for a stale mark. -/
def recompute (joined : Option Record) (s : State) : State :=
  let e := s.est
  let set := s.settings.inForce
  let c := candidates e
  let n := set.estimator.settle
  let test := c.drop (c.length - n)
  let (m, a) := meanOf e.curSource test
  let ms := magSpread test m
  let as := angSpread test a
  let anchored := !test.isEmpty && test.all (·.anchored)
  let age := if joined.isSome then e.est.age.map fun k => min (k + 1) 65535 else e.est.age
  if n ≤ c.length ∧ spreadsPass set.estimator e.curSource m ms as then
    let cls := classOf set.governor m
    let t := setEstimate {
      state := .settled, magnitude := m, angle := a, cls := cls, source := e.curSource, anchored := anchored, magSpread := ms,
      angSpread := as, age := some 0 } s
    t.setEst { t.est with
      disturbed := false, heldClass := none,
      lastSettled := some { magnitude := m, angle := a, cls := cls, anchored := anchored } }
  else if e.est.state = .none ∧ joined.isNone then
    setEstimate e.est s
  else if c.length < n ∧ (e.est.state = .settled ∨ e.est.state = .held) ∧ !e.disturbed ∧
      (joined.any fun r => r.tag = .speedChanging) ∧ age.all (fun k => decide (k ≤ set.estimator.holdLimit)) then
    let held := match joined with
      | some r => worseClass e.est.cls (classOf set.governor r.magnitude)
      | none => e.est.cls
    let t := setEstimate { e.est with state := .held, cls := held, age := age } s
    t.setEst { t.est with heldClass := some held }
  else
    let t := setEstimate {
      state := .forming, magnitude := m, angle := a, cls := classOf set.governor m, source := e.curSource, anchored := anchored,
      magSpread := ms, angSpread := as, age := age } s
    t.setEst { t.est with heldClass := none }

/-- R29: a record at or below the mark is STALE. -/
def retag (mark : Option Word32) (r : Record) : Record :=
  if mark.any fun m => decide (r.number ≤ m) then { r with tag := .stale } else r

/-- R28, R29: a record joins the window, tagged STALE where the mark says so, and the estimate is recomputed. -/
def joinWindow (r : Record) (s : State) : State :=
  let r' := retag s.est.staleMark r
  let w := s.est.window ++ [r']
  recompute (some r') (s.setEst { s.est with window := w.drop (w.length - 16) })

/-- R29: a stale mark from the dosing unit. -/
def takeStaleMark (mark : Word32) (s : State) : State :=
  recompute none (s.setEst { s.est with
    staleMark := some mark, window := s.est.window.map (retag (some mark)), disturbed := true })

/-! ### Counts at a boundary report (R37 to R39) -/

/-- R39: the recovery count at a boundary report while the condition is FAILED. -/
def countRecovery (r : BoundaryReport) (s : State) : State :=
  if s.est.sensorFailed then
    if (reportSamples s.est r).length = 32 then
      if s.est.recovery + 1 = 8 then s.setEst { s.est with sensorFailed := false, recovery := 0, sampleLoss := 0 }
      else s.setEst { s.est with recovery := s.est.recovery + 1 }
    else s.setEst { s.est with recovery := 0 }
  else s

/-- R37: the excursion count after a record. -/
def excursionCount (set : EstimatorSettings) (e : Estimator) (r : Record) : Nat :=
  match r.peak with
  | some p => if set.excursion < p then e.excursion + 1 else 0
  | none => e.excursion

/-- R38: the sample-loss count after a record, by its creation tag. -/
def lossCount (e : Estimator) (r : Record) : Nat :=
  match r.source with
  | .tub => if r.tag = .sampleLoss then e.sampleLoss + 1 else 0
  | .torque => e.sampleLoss

/-- R20, R22, R27, R29: what a boundary report does whether or not it makes a record: the collection is closed, the revolution
torque absent, the previous period kept. -/
def closeReport (r : BoundaryReport) (s : State) : State :=
  s.setEst { s.est with collection := none, revTorque := none, prevPeriod := some r.period }

/-- R29: a report numbered 0 drops a mark other than 0. -/
def wrapMark (r : BoundaryReport) (s : State) : State :=
  if r.number = 0 ∧ s.est.staleMark ≠ some 0 then s.setEst { s.est with staleMark := none } else s

/-- R22: the revolution torque takes a record's ripple while a revolution is in progress. -/
def takeTorque (ripple : Nat) (s : State) : State :=
  if s.timing.rev.isSome then s.setEst { s.est with revTorque := some ripple } else s

/-- R40: the estimator at an adoption: the flush, with the sensor condition and its counts kept (log 63). -/
def adoptEstimator (s : State) : State :=
  let t := flush (s.setEst { s.est with
    curSource := if s.settings.inForce.estimator.changeover ≤ s.timing.speed then .tub else .torque })
  t.setEst { t.est with sampleLoss := s.est.sampleLoss }

end Sys2Proof.Machine
end

