-- ==== Sys2Proof/Machine/Lines.lean ====
section
/-! DEFINITION. The line unit's operations: pins, debounce records and latches (chapter 6). -/

namespace Sys2Proof.Machine

/-- R111: a pin takes a level; its debounce record is made, made afresh or dropped. A level the pin already has changes
nothing. -/
def LineRec.withPin (l : LineRec) (now : Nat) (level : Bool) : LineRec :=
  if l.pin = level then l
  else { l with pin := level, debounce := if level = l.accepted then none else some { candidate := level, start := now } }

/-- R109, R110, R112: an output's latch takes a level and its pin, unless it is held from outside, follows at once; an input's latch
alone is kept as it is. -/
def LineRec.withLatch (l : LineRec) (now : Nat) (level : Bool) : LineRec :=
  if l.output ∧ l.latch ≠ level then
    if l.held then { l with latch := level } else { l.withPin now level with latch := level }
  else l

/-- R111, R112: the pin is given a level from outside; an output whose pin is not at its latch is held against its drive, and one
whose pin returns to its latch is free (log 66). -/
def LineRec.withOutside (l : LineRec) (now : Nat) (level : Bool) : LineRec :=
  if l.pin = level then l else { l.withPin now level with held := l.output && level != l.latch }

/-- Replace the record of one line. -/
def setLine (s : State) (n : Fin 8) (l : LineRec) : State :=
  s.setLines { s.lines with line := s.lines.line.set n l }

/-- R110: the dosing unit asks for a level of FILL, which is recorded; L0 is driven to it, but not during start-up. -/
def askFill (level : Bool) (s : State) : State :=
  let t := s.setLines { s.lines with askFill := some level }
  if started s then setLine t 0 (t.lines.line[0].withLatch t.now level) else t

/-- R61, R110: the governor asks for a level of LOCK_REQ, which is recorded; L1 is driven to it, but not during start-up. -/
def askLock (level : Bool) (s : State) : State :=
  let t := s.setLines { s.lines with askLock := some level }
  if started s then setLine t 1 (t.lines.line[1].withLatch t.now level) else t

/-- R110: at the end of start-up the latches of L0 and L1 take the levels last asked for, 0 where nothing was asked. -/
def driveAsked (s : State) : State :=
  let fill := s.lines.line[0].withLatch s.now (s.lines.askFill.getD false)
  let lock := s.lines.line[1].withLatch s.now (s.lines.askLock.getD false)
  setLine (setLine s 0 fill) 1 lock

/-- R113: the action that a line's mode and data bits name. -/
def lineAction (mode data : Bool) (latch : Bool) : Option Bool :=
  match mode, data with
  | false, false => some false
  | false, true => some true
  | true, false => none
  | true, true => some !latch

/-- R113: whether LINES may act on a line: a controller-owned output. -/
def controllerOwned (s : State) (n : Fin 8) : Bool := decide (2 ≤ n.val) && s.lines.line[n].output

/-- R113: the refused mask of a LINES command. -/
def refusedLines (s : State) (mode data : Byte) : Byte :=
  (List.finRange 8).foldl (fun (m : Byte) (n : Fin 8) =>
    if (lineAction (mode.getLsbD n) (data.getLsbD n) s.lines.line[n].latch).isSome && !controllerOwned s n then
      m ||| (1#8 <<< n.val) else m) 0

/-- R113: one line's record after a LINES command. -/
def lineAfter (mode data : Byte) (s : State) (n : Fin 8) : LineRec :=
  match lineAction (mode.getLsbD n) (data.getLsbD n) s.lines.line[n].latch with
  | some level => if controllerOwned s n then s.lines.line[n].withLatch s.now level else s.lines.line[n]
  | none => s.lines.line[n]

/-- R113: all the latch changes of one LINES command, together. -/
def applyLines (mode data : Byte) (s : State) : State :=
  s.setLines { s.lines with line := Vector.ofFn (lineAfter mode data s) }

end Sys2Proof.Machine
end

