-- ==== Sys2Proof/Machine/Dosing.lean ====
section
/-! DEFINITION. The dosing unit: passes, accounts, the queue, cuts, the drain and the planner (chapter 5). -/

namespace Sys2Proof.Machine

/-- Replace the head order. -/
def setHead (s : State) (o : DoseOrder) : State :=
  s.setDosing { s.dosing with queue := o :: s.dosing.queue.tail }

/-! ### Volumes (R88) -/

/-- R88: the outstanding volume of the orders that a test picks. -/
def outstanding (d : Dosing) (p : DoseOrder → Bool) : Nat :=
  d.queue.foldl (fun v o => if p o then v + (o.ordered - o.injected) else v) 0

/-- R88: the remaining capacity of a chamber. -/
def remainingCapacity (s : State) (k : Fin 4) : Nat :=
  s.settings.inForce.dosing.capacity - s.dosing.accounts[k] - outstanding s.dosing fun o => o.chamber == k

/-- R88: the remaining budget of the running plan. -/
def remainingBudget (s : State) : Nat :=
  s.runner.plan.budget - s.runner.doseUsed - outstanding s.dosing fun _ => true

/-! ### The queue (R91, R92) -/

/-- R92: an order that has become the head enters INJECTING; only what the angle reaches from now on counts for it. -/
def promote (s : State) : State :=
  match s.dosing.queue with
  | o :: rest =>
    if o.state = .queued then
      s.setDosing { s.dosing with
        queue := { o with state := .injecting } :: rest, path := .fresh ((drumAngle s).getD 0) }
    else s
  | [] => s

/-- R91: an order joins the queue. -/
def addOrder (origin : Origin) (k : Fin 4) (volume : Nat) (capLimited : Bool) (s : State) : State :=
  promote (s.setDosing { s.dosing with
    queue := s.dosing.queue ++ [{
      number := s.dosing.nextNumber, origin := origin, chamber := k, ordered := volume, injected := 0,
      capLimited := capLimited, settle := 0, state := .queued }],
    nextNumber := s.dosing.nextNumber + 1 })

/-! ### Pass geometry (R87, R98, R99), angles in 1/256 degree -/

/-- R87, R98: the nominal open angle of a chamber. -/
def nominalOpenAngle (d : DosingSettings) (k : Fin 4) : Nat :=
  (256 * (45 + 90 * k.val + d.nozzle) + Config.fullTurn - 128 * d.span) % Config.fullTurn

/-- R98: the rotation during a time in ms at a speed. -/
def turnDuring (ms speed : Nat) : Nat := ms * speed * 1536 / 1000

/-- R98: the pass volume at a speed. -/
def passVolume (d : DosingSettings) (speed : Nat) : Nat := d.flow * d.span / (6 * speed)

/-- An angle less a rotation, modulo 360 degrees. -/
def backBy (a t : Nat) : Nat := (a + Config.fullTurn - t % Config.fullTurn) % Config.fullTurn

/-- R98: the opening angle of the head's chamber at the present speed. -/
def openingAngle (s : State) (k : Fin 4) : Nat :=
  backBy (nominalOpenAngle s.settings.inForce.dosing k) (turnDuring s.settings.inForce.dosing.lead s.timing.speed)

/-- R99: a final pass of `r` mL, started at speed `v` with the angle `past` steps on from its opening angle (fewer than none where it has
stepped back behind it), would close less than 1 ms after its start. Where the close lies more than a turn on, the closing angle is
reached a turn sooner (the model's choice, log 77). -/
def closesTooSoon (d : DosingSettings) (v r : Nat) (past : Int) : Bool :=
  let ahead : Int := 1536 * v * (d.lead * d.flow + 1000 * r) - 1536 * v * d.lag * d.flow - 1000 * past * d.flow
  let least : Int := 1536 * v * d.flow
  decide (ahead < least ∨ ahead % (1000 * d.flow * Config.fullTurn) < least)

/-- R98 to R100: the pass record that a pass start makes now for an order. The steps of the angle that have reached the opening angle may
have reached the closing angle of a final pass too, which would then close at once. -/
def passRecordFor (s : State) (o : DoseOrder) : PassRecord :=
  let d := s.settings.inForce.dosing
  let v := s.timing.speed
  let opening := openingAngle s o.chamber
  let nominal := nominalOpenAngle d o.chamber
  let r := o.ordered - o.injected
  let full := passVolume d v
  let lag := turnDuring d.lag v
  if full ≤ r then
    { chamber := o.chamber, opening := opening, nominal := nominal,
      closing := backBy (nominal + 256 * d.span) lag, volume := full, startAt := s.now, nominalAt := none,
      minClose := false }
  else
    let closing := backBy (nominal + 6 * r * v * 256 / d.flow) lag
    let steps := arcsFrom opening 0 (s.dosing.path.arcs ((drumAngle s).getD 0))
    { chamber := o.chamber, opening := opening, nominal := nominal,
      closing := closing, volume := r, startAt := s.now, nominalAt := none,
      minClose := steps.any (·.has closing) || closesTooSoon d v r (netTurn opening steps) }

/-- R100: the pass conditions. -/
def passConditions (s : State) : Bool :=
  atTarget s && inDosingRange s && isAnchored s.timing && s.lines.dosePermit.all && !s.tel.standing && s.dosing.drainSeen

/-! ### Accounting (R101, R102) -/

/-- R102: an accounted pass: its volume goes to the order, the chamber's account and the runner; the pass record becomes absent;
a completed order enters SETTLING and asks for the stale mark of the revolution in progress. -/
def accountPass (p : PassRecord) (volume : Nat) (s : State) : State :=
  match s.dosing.queue with
  | o :: rest =>
    let done := o.injected + volume = o.ordered
    let o' := { o with
      injected := o.injected + volume, state := if done then .settling else o.state, settle := if done then 0 else o.settle }
    let t := (s.setDosing { s.dosing with
      queue := o' :: rest, accounts := s.dosing.accounts.set p.chamber (s.dosing.accounts[p.chamber] + volume),
      pass := none }).setRunner { s.runner with doseUsed := s.runner.doseUsed + volume }
    if done then takeStaleMark (s.timing.counter + 1) t else t
  | [] => s.setDosing { s.dosing with pass := none }

/-- R101: the pro rata volume of a pass closed now. -/
def proRata (s : State) (p : PassRecord) : Nat :=
  match p.nominalAt with
  | some t => min (s.settings.inForce.dosing.flow * since s t / 1000000) p.volume
  | none => 0

/-- R101: close a pass in progress now and account it pro rata; the order waits for the next opening angle (R100). -/
def closeProRata (s : State) : State :=
  match s.dosing.pass with
  | some p =>
    let t := accountPass p (proRata s p) (askFill false s)
    t.setDosing { t.dosing with path := .fresh ((drumAngle s).getD 0) }
  | none => s

/-- R101: test the pass conditions of a pass in progress. -/
def passCheck (s : State) : State := if passConditions s then s else closeProRata s

/-! ### Cuts (R104) -/

/-- R104: a cut ends every order in the queue; a cut of an empty queue does nothing. -/
def cutQueue (cause : CutCause) (s : State) : State :=
  match s.dosing.queue with
  | [] => s
  | o :: _ =>
    let t := askFill false (closeProRata s)
    askLog (.doseCut o.number s.dosing.queue.length cause (s.dosing.queue.any (·.capLimited)))
      (t.setDosing { t.dosing with queue := [], pass := none })

/-! ### Speed, drain and boundary reports (R89, R103) -/

/-- R89: a drain event. -/
def drain (s : State) : State :=
  let t := cutQueue .drain s
  flush (t.setDosing { t.dosing with accounts := .replicate 4 0, drainSeen := true, belowRetention := true })

/-- R89, R101: the dosing unit is handed a measured speed. -/
def dosingSpeed (v : Nat) (s : State) : State :=
  passCheck
    (if v < s.settings.inForce.dosing.retention then (if s.dosing.belowRetention then s else drain s)
     else s.setDosing { s.dosing with belowRetention := false })

/-- R103: a boundary report adds 1 to a SETTLING head's settle count; at the settle revolutions the order is DONE. -/
def countSettle (s : State) : State :=
  match s.dosing.queue with
  | o :: rest =>
    if o.state = .settling then
      if s.settings.inForce.dosing.settle ≤ o.settle + 1 then
        promote (askLog (.doseDone o.number o.chamber o.origin o.capLimited) (s.setDosing { s.dosing with queue := rest }))
      else setHead s { o with settle := o.settle + 1 }
    else s
  | [] => s

/-! ### The planner (R93 to R95) -/

/-- R93: the conditions under which the planner runs at an estimate update. -/
def plannerRuns (s : State) : Bool :=
  s.settings.inForce.dosing.enable && !s.settings.restricted && s.dosing.drainSeen && s.gov.state == .balance &&
    (s.gov.step.any fun p => p.dosing && decide (p.accept < s.est.est.cls)) &&
    s.est.est.state == .settled && s.est.est.source == .tub && s.est.est.anchored && s.dosing.queue.isEmpty

/-- R94 step 3: a magnitude times a sine, to the nearest millilitre, a half rounding up. -/
def timesSine (m d : Nat) : Nat := (nearest ((m : Int) * sinDeg d) unit40).toNat

/-- R94 step 2: the chamber a of the bracketing pair for a correction angle. -/
def bracketing (c : Nat) : Fin 4 := if c < 45 then 3 else if c < 135 then 0 else if c < 225 then 1 else if c < 315 then 2 else 3

/-- R94: add an order unless its amount is 0. -/
def addPlanned (k : Fin 4) (volume : Nat) (capLimited : Bool) (s : State) : State :=
  if volume = 0 then s else addOrder .planner k volume capLimited s

/-- R94, R95: run the planner: the new state, and the cause when both amounts come out 0 after the cuts (CHAMBER_FULL when
true, BUDGET when false). -/
def runPlanner (s : State) : State × Option Bool :=
  let c := (s.est.est.angle.getD 0 + 180) % 360
  let a := bracketing c
  let b := a + 1
  let offset := (c + 360 - (45 + 90 * a.val)) % 360
  let ma := timesSine s.est.est.magnitude (90 - offset)
  let mb := timesSine s.est.est.magnitude offset
  let budget := remainingBudget s
  let ca := min ma (remainingCapacity s a)
  let va := min ca budget
  let cb := min mb (remainingCapacity s b)
  let vb := min cb (budget - va)
  if va = 0 ∧ vb = 0 then (s, if ma = 0 ∧ mb = 0 then none else some (decide (budget ≠ 0)))
  else (addPlanned b vb (decide (cb < mb)) (addPlanned a va (decide (ca < ma)) s), none)

end Sys2Proof.Machine
end

