-- ==== Sys2Proof/Machine/Governor.lean ====
section
/-! DEFINITION. The spin governor and the plan runner (chapters 3 and 4). -/

namespace Sys2Proof.Machine

/-- The governor's settings in force. -/
def govSet (s : State) : GovernorSettings := s.settings.inForce.governor

/-! ### Quantities of chapter 3 -/

/-- R48: the class in force that the estimate last handed over gives. -/
def classNow (s : State) : Class :=
  match s.est.est.state with
  | .settled | .held => s.est.est.cls
  | .forming | .none => worseClass (govSet s).unsettled (s.gov.settledSinceRest.getD 0)

/-- R49: the ceiling in force. -/
def ceilingNow (s : State) : Nat :=
  let g := govSet s
  let c := min g.ceiling g.envelope[s.gov.classInForce].ceiling
  let c := if s.lines.spinPermit.all then c else min c g.interlock
  match s.gov.step with
  | some p => min c p.target
  | none => c

/-- R53: the bands that may lie ahead of a climb from `m` to `e`: enabled, high speed at or above `m` and below `e`. -/
def bandsAhead (g : GovernorSettings) (m e : Nat) : List (Fin 6) :=
  (List.finRange 6).filter fun k => g.bands[k].enabled && decide (m ≤ g.bands[k].high) && decide (g.bands[k].high < e)

/-- The lowest band of a list. -/
def lowestBand (g : GovernorSettings) (l : List (Fin 6)) : Option (Fin 6) :=
  l.foldl (fun o k => match o with
    | none => some k
    | some j => if g.bands[k].low < g.bands[j].low then some k else some j) none

/-- R53: the band ahead of a climb from `m` to `e`. -/
def bandAhead (g : GovernorSettings) (m e : Nat) : Option (Fin 6) := lowestBand g (bandsAhead g m e)

/-- R66: the band whose adjusted hold point is the next target above band `k`, if there is one. -/
def nextBand (g : GovernorSettings) (k : Fin 6) (e : Nat) : Option (Fin 6) :=
  lowestBand g ((List.finRange 6).filter fun j =>
    g.bands[j].enabled && decide (g.bands[k].high < g.bands[j].high) && decide (g.bands[j].high < e) &&
      decide (g.bands[k].high < adjustedHold g j))

/-- R66: the next target above band `k`. -/
def nextAbove (g : GovernorSettings) (k : Fin 6) (e : Nat) : Nat :=
  match nextBand g k e with
  | some j => adjustedHold g j
  | none => e

/-- R55: admission to a band. -/
def admitted (s : State) (k : Fin 6) : Bool :=
  s.est.est.state == .settled && decide (s.est.est.cls ≤ (govSet s).bands[k].admission) && !tripLatched s

/-- R62: a speed lies within the arrival tolerance of a target. -/
def near (v g : Nat) : Bool := decide (absDiff v g ≤ max 10 (2 * g / 100))

/-! ### Ramps (R54, R57) -/

/-- R54: a descent's ramp, raised inside a band to the band's crossing rate. -/
def raised (s : State) (ramp : Nat) : Nat :=
  match bandAt (govSet s) s.timing.speed with
  | some k => max ramp (govSet s).bands[k].rate
  | none => ramp

/-- R57, R60: the granted ramp for the kind of move; in IDLE the descend rate. -/
def rampNow (s : State) : Nat :=
  let g := govSet s
  let ascent := g.envelope[s.gov.classInForce].ascent
  if s.gov.state = .idle then g.descend
  else
    match s.gov.move with
    | .climb => match s.gov.step with
      | some p => min p.ramp ascent
      | none => ascent
    | .crossing | .turnBack => match s.gov.band with
      | some k => g.bands[k].rate
      | none => s.gov.ramp
    | .plannedDescent => match s.gov.step with
      | some p => raised s p.ramp
      | none => raised s g.descend
    | .forcedDescent | .runDown => raised s g.descend
    | .atTarget => s.gov.ramp

/-- R57: recompute the granted ramp. -/
def refreshRamp (s : State) : State := s.setGov { s.gov with ramp := rampNow s }

/-! ### Changes of governor state -/

/-- The step index while a step is in hand. -/
def stepInHand (s : State) : Option Nat := s.gov.step.map fun _ => s.runner.stepIndex

/-- R65: the wait times with the running one brought up to the present moment. -/
def waitsNow (s : State) : Vector Nat 6 :=
  match s.gov.band, s.gov.waitSince with
  | some k, some t => s.gov.waits.set k (s.gov.waits[k] + since s t)
  | _, _ => s.gov.waits

/-- R62, R73: a new granted target; when it changes, the arrival count becomes 0, and during a run the old one joins the
overspeed history with the time it ceased to be in force. -/
def withTarget (g : Governor) (now target : Nat) : Governor :=
  { g with
    target := target,
    arrivals := if target = g.target then g.arrivals else 0,
    history := if target ≠ g.target ∧ g.run = true ∧ g.state ≠ .idle then g.history ++ [(g.target, now)] else g.history }

/-- Enter a governor state, or stay in it with another move, target or band: the wait time stops or resumes (R65), the arrival
count becomes 0 at a change of state or target (R62), a change of state is handed to the report unit, the line unit and the dosing
unit (R59, R61, R101), and the ramp is recomputed (R57). -/
def enterState (st : GovState) (mv : Move) (target : Nat) (band : Option (Fin 6)) (s : State) : State :=
  let changed := st ≠ s.gov.state
  let g := withTarget s.gov s.now target
  let t := s.setGov { g with
    state := st, move := mv, band := band,
    waits := waitsNow s,
    waitSince := if st = .waitBand then some s.now else none,
    arrivals := if changed then 0 else g.arrivals,
    sensorTest := g.sensorTest && decide (st ≠ .idle) }
  let t := refreshRamp t
  if changed then
    let t := trigger t
    let t := if st = .idle then askLock false t else if s.gov.state = .idle then askLock true t else t
    passCheck t
  else t

/-- R62, R64, R68: the drum has arrived at e: HOLD, or BALANCE for a BALANCE step; the step's first arrival starts the hold
timer. -/
def enterHold (s : State) : State :=
  let st := if s.gov.step.any fun p => p.kind = .balance then GovState.balance else .hold
  let t := enterState st .atTarget s.gov.effTarget none s
  if t.gov.firstArrival then t
  else t.setGov { t.gov with firstArrival := true, holdStart := some t.now }

/-- R66: enter the crossing of a band. -/
def enterCross (k : Fin 6) (s : State) : State :=
  enterState .cross .crossing (nextAbove (govSet s) k s.gov.effTarget) (some k) s

/-- R67: turn back from a band to its adjusted hold point. -/
def enterRetreat (k : Fin 6) (s : State) : State :=
  enterState .retreat .turnBack (adjustedHold (govSet s) k) (some k) s

/-- R65: wait below a band. -/
def enterWait (k : Fin 6) (s : State) : State :=
  enterState .waitBand .atTarget (adjustedHold (govSet s) k) (some k) s

/-- R64: climb toward e, with the band ahead found afresh; a band whose hold point is then at or below the measured speed is judged
at once. Whether it is, is asked at the moments at which the band ahead is found afresh and at no other (the model's choice,
log 65); where it is, the governor goes to CROSS or RETREAT directly, with no change of state to ASCEND before (the model's choice,
log 93). -/
def climb (s : State) : State :=
  match bandAhead (govSet s) s.timing.speed s.gov.effTarget with
  | none => enterState .ascend .climb s.gov.effTarget none s
  | some k =>
    if s.timing.speed < adjustedHold (govSet s) k then
      enterState .ascend .climb (adjustedHold (govSet s) k) (some k) s
    else if admitted s k then enterCross k s
    else enterRetreat k s

/-- R70: a forced descent to e. -/
def forceDown (s : State) : State := enterState .descend .forcedDescent s.gov.effTarget none s

/-- R70: the state logic at a drop (`dropped`) or rise of the ceiling in force. A drop makes a descent forced; a rise that stays below
the measured speed leaves the kind of move as it is, so that a forced descent stays forced also where e is again the step's target (the
model's choice, log 98). -/
def stateLogic (dropped : Bool) (s : State) : State :=
  let g := govSet s
  let e := s.gov.effTarget
  let m := s.timing.speed
  match s.gov.state with
  | .ascend => if m < e then climb s else forceDown s
  | .waitBand =>
    match s.gov.band with
    | some k => if g.bands[k].high < e then s else if m < e then climb s else forceDown s
    | none => s
  | .cross =>
    match s.gov.band with
    | some k => if g.bands[k].high < e then enterCross k s else forceDown s
    | none => s
  | .retreat =>
    match s.gov.band with
    | some k => if adjustedHold g k ≤ e then s else forceDown s
    | none => s
  | .descend =>
    if e < m then
      enterState .descend (if dropped then .forcedDescent else s.gov.move) e none s
    else climb s
  | .hold | .balance => if e < s.gov.target then forceDown s else if s.gov.target < e then climb s else s
  | .idle | .stopping | .trip => s

/-- R49, R52: the ceiling in force and the effective target computed anew, with nothing handed on. -/
def setCeiling (s : State) : State :=
  s.setGov { s.gov with ceiling := ceilingNow s, effTarget := effectiveTarget (govSet s) (ceilingNow s) }

/-- R51: recompute the ceiling in force and hand a drop or a rise to the state logic. -/
def recomputeCeiling (s : State) : State :=
  let t := setCeiling s
  if t.gov.ceiling = s.gov.ceiling then t else stateLogic (decide (t.gov.ceiling < s.gov.ceiling)) t

/-! ### Leaving a step, ending a plan -/

/-- The governor's step fields with no step in hand (R59, R85). -/
def noStep (g : Governor) : Governor :=
  { g with
    step := none, firstArrival := false, holdStart := none, markFallen := false, waits := .replicate 6 0, waitSince := none,
    retreats := .replicate 6 0 }

/-- R63, R105: leave the step in hand; the exit cuts the dose queue with the cause STEP_EXIT. A rise of the ceiling at it is handed
to no state logic: the governor is entering STOPPING or TRIP (the model's choice, log 73). -/
def leaveStep (s : State) : State :=
  if s.gov.step.isSome then
    let t := cutQueue .stepExit s
    setCeiling (t.setGov (noStep t.gov))
  else s

/-- R71: STOPPING outside the start-up run-down. -/
def enterStopping (s : State) : State :=
  enterState .stopping .runDown 0 none (s.setGov { s.gov with startRunDown := false })

/-- A change of the runner state is a trigger (R189). -/
def setRunnerState (st : RunnerState) (s : State) : State := trigger (s.setRunner { s.runner with state := st })

/-- R84: end the plan as ABORTED: the dose queue is cut with PLAN_END and a PLAN_ABORTED entry logged. -/
def abortPlan (why : EndReason) (s : State) : State :=
  let t := setRunnerState .aborted (s.setRunner { s.runner with endReason := why })
  askLog (.planAborted why t.runner.stepIndex t.runner.plan.identity) (cutQueue .planEnd t)

/-! ### Trips (R72) -/

/-- R72: log a TRIP entry; a DRIVE_FAULT carries the adopted drive fault code. -/
def logTrip (k : FaultKind) (step : Option Nat) (s : State) : State :=
  askLog (.trip k step (if k = .driveFault then (s.tel.adopted.map (·.code)).getD 0 else 0)) s

/-- R72: a trip fault is detected. -/
def detect (k : FaultKind) (s : State) : State :=
  match s.gov.state with
  | .idle => raiseFault k s
  | .trip => logTrip k (stepInHand s) (raiseFault k s)
  | _ =>
    let t := enterState .trip .runDown 0 none (s.setGov { s.gov with startRunDown := false })
    let t := logTrip k (stepInHand s) (raiseFault k t)
    let t := leaveStep (cutQueue .trip t)
    if planUnderWay t then abortPlan .tripped t else t

/-! ### Step entry (R63, R71) -/

/-- R71, R73: a run begins: the overspeed history is emptied and the count 0. -/
def beginRun (s : State) : State :=
  s.setGov { s.gov with run := true, startRunDown := false, history := [], overCount := 0 }

/-- R74, R75: the tests at the moment a run begins: TELEMETRY_STALE, DRIVE_FAULT, KNOCK. -/
def runBeginTests (s : State) : State :=
  let t := if s.tel.running then s else detect .telemetryStale s
  let t := if t.tel.adopted.any fun r => r.drive = .fault then detect .driveFault t else t
  if t.lines.knock.some then detect .knock t else t

/-- R63: e is compared with the measured speed at a step entry. -/
def aimAtStep (p : PlanStep) (s : State) : State :=
  if near s.timing.speed s.gov.effTarget then
    let t := enterHold s
    t.setGov { t.gov with ramp := p.ramp }
  else if s.timing.speed < s.gov.effTarget then climb s
  else enterState .descend (if s.gov.effTarget = p.target then .plannedDescent else .forcedDescent) s.gov.effTarget none s

/-- R63: the entry to a step of the plan copy; the exit from an earlier step and the entry are one recomputation. That a change of the
ceiling there is not handed to the state logic of the state that is left is the model's choice (log 92). -/
def stepEntry (i : Nat) (s : State) : State :=
  match s.runner.plan.steps[i]? with
  | none => s
  | some p =>
    let fromIdle := s.gov.state = .idle
    let t := if s.gov.step.isSome then cutQueue .stepExit s else s
    let t := t.setRunner { t.runner with stepIndex := i }
    let t := t.setGov { noStep t.gov with step := some p }
    let t := setCeiling (if fromIdle then beginRun t else t)
    let t := aimAtStep p t
    if fromIdle then runBeginTests t else t

/-! ### Step outcomes (R79 to R82) -/

/-- R81: a step succeeds, or CONTINUE is applied: the next step, or the plan is complete. -/
def nextStep (s : State) : State :=
  if s.runner.stepIndex + 1 < s.runner.plan.stepCount then stepEntry (s.runner.stepIndex + 1) s
  else enterStopping (leaveStep s)

/-- R81: RETRY and REDISTRIBUTE are taken as ABORT when no retry is left. -/
def actionTaken (s : State) (a : FailAction) : FailAction :=
  if (a = .retry ∨ a = .redistribute) ∧ s.runner.plan.maxRetries ≤ s.runner.retries then .abort else a

/-- R81, R82: the step in hand fails with a reason. -/
def stepFails (why : FailReason) (s : State) : State :=
  match s.gov.step with
  | none => s
  | some p =>
    let a := actionTaken s p.action
    let t := askLog (.stepFailed s.runner.stepIndex why a) s
    match a with
    | .continue => nextStep t
    | .retry => stepEntry t.runner.plan.retryTarget (t.setRunner { t.runner with retries := t.runner.retries + 1 })
    | .redistribute =>
      enterStopping (leaveStep (setRunnerState .waitResume (t.setRunner { t.runner with retries := t.runner.retries + 1 })))
    | .abort => enterStopping (leaveStep (abortPlan .stepFailed t))

/-- The estimate is SETTLED at or better than the accept class. -/
def settledWithin (s : State) (c : Class) : Bool := s.est.est.state == .settled && decide (s.est.est.cls ≤ c)

/-- R69: the time since the step's first arrival has reached a number of seconds. -/
def heldFor (s : State) (seconds : Nat) : Bool := s.gov.holdStart.any fun t => decide (seconds * 1000000 ≤ since s t)

/-- R79, R80: the runner judges the step in hand at its hold expiry. -/
def judgeStep (s : State) : State :=
  match s.gov.step with
  | none => s
  | some p =>
    match p.kind with
    | .distribute =>
      if (s.est.est.state = .settled ∨ s.est.est.state = .held) ∧ s.est.est.cls ≤ p.accept then nextStep s
      else stepFails .notDistributed s
    | .spin => if p.floor ≤ s.timing.speed then nextStep s else stepFails .belowFloor s
    | .coast => nextStep s
    | .balance => if heldFor s 5 ∧ settledWithin s p.accept then nextStep s else stepFails .notBalanced s

/-- R80: the success test of a BALANCE step at or after its 5-second mark. -/
def balanceTest (s : State) : State :=
  match s.gov.step with
  | some p => if p.kind = .balance ∧ heldFor s 5 ∧ settledWithin s p.accept then nextStep s else s
  | none => s

/-! ### The class in force (R47, R48, R56) -/

/-- R56, R66: the crossing guard fails: the retreat count rises; at 3 the step fails with BAND_REFUSED. -/
def guardFails (k : Fin 6) (s : State) : State :=
  let t := s.setGov { s.gov with retreats := s.gov.retreats.set k (s.gov.retreats[k] + 1) }
  if t.gov.retreats[k] < 3 then enterRetreat k t else stepFails (.bandRefused k) t

/-- R56: test the crossing guard at a change of the class in force. -/
def guardTest (s : State) : State :=
  match s.gov.state, s.gov.band with
  | .cross, some k =>
    if s.timing.speed ≤ (govSet s).bands[k].high ∧ (govSet s).bands[k].admission < s.gov.classInForce then guardFails k s
    else s
  | _, _ => s

/-- R48: recompute the class in force; a change goes to the guard, the ceiling and the ramp. -/
def recomputeClass (s : State) : State :=
  if classNow s = s.gov.classInForce then s
  else refreshRamp (recomputeCeiling (guardTest (s.setGov { s.gov with classInForce := classNow s })))

/-- R65: admission at an estimate update in WAIT_BAND. -/
def waitTest (s : State) : State :=
  match s.gov.state, s.gov.band with
  | .waitBand, some k => if admitted s k then enterCross k s else s
  | _, _ => s

/-- R47, R48, R65, R80: the governor and the runner at an estimate update: the class in force, with the crossing guard, and the
ceiling first, then admission in WAIT_BAND (the model's choice, log 67), and the runner's test of a BALANCE step last (the model's
choice, log 74). -/
def governorEstimate (s : State) : State :=
  let t := if s.est.est.state = .settled then s.setGov { s.gov with settledSinceRest := some s.est.est.cls } else s
  balanceTest (waitTest (recomputeClass t))

/-! ### Speeds and boundaries (R62, R66, R73, R75) -/

/-- R75: the SENSOR_FAILED test; the fault is detected when it passes from false to true. -/
def sensorCheck (s : State) : State :=
  let now := s.est.sensorFailed && decide (s.settings.inForce.estimator.changeover ≤ s.timing.speed) &&
    s.gov.state != .idle
  let t := s.setGov { s.gov with sensorTest := now }
  if now && !s.gov.sensorTest then detect .sensorFailed t else t

/-- R64, R66: the measured speed has risen above the high speed of the band in hand. -/
def bandPassed (s : State) : State :=
  match s.gov.state, s.gov.band with
  | .cross, some k | .ascend, some k => if (govSet s).bands[k].high < s.timing.speed then climb s else s
  | _, _ => s

/-- The governor is handed a change of the measured speed from `old` (R54, R66, R73, R75): the absolute OVERSPEED test, then the
SENSOR_FAILED test, then the passing of the band (the model's choice, log 75). -/
def governorSpeed (old : Nat) (s : State) : State :=
  let limit := (govSet s).ceiling + 20
  let t := if s.gov.state ≠ .idle ∧ old ≤ limit ∧ limit < s.timing.speed then detect .overspeed s else s
  refreshRamp (bandPassed (sensorCheck t))

/-- R73: the limit of the windowed test. -/
def windowLimit (s : State) : Nat :=
  s.gov.history.foldl (fun h e => max h e.1) s.gov.target * (100 + (govSet s).margin) / 100 + 20

/-- R73: the windowed test at a non-opening boundary. -/
def windowedTest (s : State) : State :=
  if s.gov.run then
    if windowLimit s < s.timing.speed ∧ s.gov.prevBoundary.all (fun p => decide (p ≤ s.timing.speed)) then
      let t := s.setGov { s.gov with overCount := s.gov.overCount + 1 }
      if s.gov.overCount + 1 = 2 then detect .overspeed t else t
    else s.setGov { s.gov with overCount := 0 }
  else s

/-- R64, R66 to R68: what an arrival does. -/
def arrive (s : State) : State :=
  let g := govSet s
  match s.gov.state, s.gov.band with
  | .ascend, none | .descend, _ => enterHold s
  | .ascend, some k => if admitted s k then enterCross k s else enterWait k s
  | .cross, some k =>
    match nextBand g k s.gov.effTarget with
    | some j => enterWait j s
    | none => enterHold s
  | .retreat, some k =>
    if g.bands[k].high < s.gov.effTarget then enterWait k s
    else if near s.timing.speed s.gov.effTarget then enterHold s
    else climb s
  | _, _ => s

/-- The states in which arrival is tested (R62). -/
def arriving (s : State) : Bool :=
  s.gov.state == .ascend || s.gov.state == .cross || s.gov.state == .retreat || s.gov.state == .descend

/-- R62: the arrival count at a non-opening boundary. -/
def arrivalTest (s : State) : State :=
  if arriving s then
    if near s.timing.speed s.gov.target then
      if s.gov.arrivals + 1 = 2 then arrive (s.setGov { s.gov with arrivals := 0 })
      else s.setGov { s.gov with arrivals := s.gov.arrivals + 1 }
    else s.setGov { s.gov with arrivals := 0 }
  else s

/-- The governor at a non-opening boundary (R62, R73; the order in log 22). -/
def governorBoundary (s : State) : State :=
  let t := arrivalTest (windowedTest s)
  t.setGov { t.gov with prevBoundary := some s.timing.speed }

/-! ### Rest (R47, R62, R71, R81) -/

/-- R71: the run ends: the governor enters IDLE, with the kind of move AT_TARGET (the model's choice, log 76). -/
def enterIdle (s : State) : State :=
  let t := enterState .idle .atTarget 0 none s
  t.setGov { t.gov with run := false, startRunDown := false }

/-- R81, R84: the plan is DONE. -/
def donePlan (s : State) : State :=
  askLog (.planDone s.runner.plan.identity s.runner.retries) (cutQueue .planEnd (setRunnerState .done s))

/-- R47: the settled-since-rest class becomes absent at the at-rest finding. -/
def dropSettledClass (s : State) : State := recomputeClass (s.setGov { s.gov with settledSinceRest := none })

/-- R62, R71, R81: the at-rest finding ends a run-down, or is an arrival at a target of 10 rpm or less. A finding that stands already
when the governor enters such a state does neither; the next one does (the model's choice, log 82). -/
def restMove (s : State) : State :=
  if s.gov.state = .stopping ∨ s.gov.state = .trip then
    let t := enterIdle s
    if s.gov.state = .stopping ∧ s.runner.state = .running then donePlan t else t
  else if arriving s ∧ s.gov.target ≤ 10 then arrive s
  else s

/-- The governor and the runner at the at-rest finding; the spec gives its two effects no order (log 1). -/
def governorRest (s : State) : State := unordered dropSettledClass restMove s

/-! ### Other events handed to the governor -/

/-- R75: the selection has become NONE. -/
def referenceTest (s : State) : State :=
  if s.gov.state ≠ .idle ∧ s.tel.adopted.any (fun r => decide (30 ≤ r.speed)) then detect .referenceLost s else s

/-- R50, R76: the SPIN_PERMIT ALL flag has changed. -/
def spinPermitChanged (s : State) : State :=
  let t :=
    if !s.lines.spinPermit.all ∧ s.gov.state ≠ .idle then askLog (.interlockDrop s.runner.stepIndex s.gov.state) s else s
  recomputeCeiling t

/-- R75: the KNOCK SOME flag has become true. -/
def knockRaised (s : State) : State := if s.gov.state = .idle then s else detect .knock s

/-- R58: the governor at an adoption. -/
def adoptGovernor (s : State) : State :=
  let t := s.setGov { s.gov with settledSinceRest := none }
  refreshRamp (setCeiling (t.setGov { t.gov with classInForce := (govSet t).unsettled }))

end Sys2Proof.Machine
end

