-- ==== Sys2Proof/Machine/Estimates.lean ====
section
/-! DEFINITION. Handing an estimate update on, and the estimator's boundary report (R23, R36 to R39). -/

namespace Sys2Proof.Machine

/-- R93 to R95: the planner at an estimate update; a DOSE_EXHAUSTED report fails the BALANCE step. -/
def plannerUpdate (s : State) : State :=
  if plannerRuns s then
    match (runPlanner s).2 with
    | none => (runPlanner s).1
    | some full => stepFails (.doseExhausted full) (runPlanner s).1
  else s

/-- R36: the update goes to the governor (with the runner) and to the dosing unit. -/
def handUpdate (s : State) : State :=
  unordered governorEstimate plannerUpdate (s.setEst { s.est with owed := false })

/-- Hand owed updates on, `n` times at most. -/
def deliverTimes : Nat → State → State
  | 0, s => s.setEst { s.est with owed := false }
  | n + 1, s => if s.est.owed then deliverTimes n (handUpdate s) else s

/-- Hand on the estimate updates that are owed; a cut within one may owe another, and no more (log 5). -/
def deliver (s : State) : State := deliverTimes 4 s

/-- R37: raise EXCURSION when the count has reached 2, and hand it to the governor, which trips when not IDLE. -/
def excursionFault (before : Nat) (s : State) : State :=
  if before = 1 ∧ s.est.excursion = 2 then
    let t := raiseFault .excursion s
    if t.gov.state = .idle then t else detect .excursion t
  else s

/-- R38: at the third sample loss the condition becomes FAILED; the fault is raised and the condition handed on. -/
def sensorFault (s : State) : State :=
  if s.est.sampleLoss = 3 ∧ !s.est.sensorFailed then
    sensorCheck (raiseFault .sensorFailed (s.setEst { s.est with sensorFailed := true, sampleLoss := 0 }))
  else s

/-- R39: at recovery the cleared condition is handed to the governor. -/
def recover (r : BoundaryReport) (s : State) : State :=
  let t := countRecovery r s
  if t.est.sensorFailed = s.est.sensorFailed then t else sensorCheck t

/-- R23, R36: make the record of a report, raise its faults, let it join, and hand the update on. EXCURSION is raised before
SENSOR_FAILED (the model's choice, log 72). -/
def addRecord (r : BoundaryReport) (s : State) : State :=
  let set := s.settings.inForce.estimator
  let x := makeRecord set s.est r
  let t := s.setEst { s.est with excursion := excursionCount set s.est x, sampleLoss := lossCount s.est x }
  let t := sensorFault (excursionFault s.est.excursion t)
  deliver (closeReport r (joinWindow x t))

/-- R23: a boundary report reaches the estimator. -/
def estimatorReport (r : BoundaryReport) (s : State) : State :=
  let t := recover r (wrapMark r (deliver (changeover r.speed s)))
  if t.est.sensorFailed ∧ t.est.curSource = .tub then closeReport r t else addRecord r t

end Sys2Proof.Machine
end

