-- ==== Sys2Proof/Machine/Timing.lean ====
section
/-! DEFINITION. The timing unit: sources, selection, boundaries, speed and sampling (chapter 1). -/

namespace Sys2Proof.Machine

/-! ### Sources (R2 to R5) -/

/-- The record of a source. -/
def sourceRec (t : Timing) : Source → SourceRec
  | .index => t.index
  | .comm => t.comm

/-- Replace the record of a source. -/
def setSource (s : State) (src : Source) (r : SourceRec) : State :=
  match src with
  | .index => s.setTiming { s.timing with index := r }
  | .comm => s.setTiming { s.timing with comm := r }

/-- The other source. -/
def otherSource : Source → Source
  | .index => .comm
  | .comm => .index

/-- The accepted pulses of one revolution of a source: 1 for INDEX, P for COMM (R3). -/
def pulsesPerRev (s : State) : Source → Nat
  | .index => 1
  | .comm => s.settings.inForce.reference.p

/-- R2: a QUALIFIED pulse less than half the last interval after the last accepted one is noise. -/
def SourceRec.rejects (r : SourceRec) (now : Nat) : Bool :=
  match r.state, r.lastPulse, r.interval with
  | .off, _, _ => true
  | .qualified, some l, some i => decide (2 * (now - l) < i)
  | _, _, _ => false

/-- R3: the qualification count after a revolution of a QUALIFYING source. -/
def SourceRec.countAfter (r : SourceRec) (period : Nat) : Nat :=
  match r.state, r.refPeriod with
  | .qualifying, some ref =>
    if 100 * absDiff period ref ≤ Config.toleranceQual * ref then r.count + 1 else 0
  | _, _ => r.count

/-- R2 to R4: the record after an accepted pulse; `len` pulses make a revolution. -/
def SourceRec.accept (r : SourceRec) (len now : Nat) : SourceRec :=
  match r.state with
  | .off => r
  | .searching | .lost =>
    { state := .qualifying, count := 0, lastPulse := some now, interval := none, refPeriod := none, deadline := none,
      witnessed := false, revStart := now, revPulses := 0 }
  | .qualifying | .qualified =>
    let interval := now - r.lastPulse.getD now
    let whole := len ≤ r.revPulses + 1
    let count := if whole then r.countAfter (now - r.revStart) else r.count
    let state := if Config.qualCount ≤ count then SourceState.qualified else r.state
    { state := state, count := count, lastPulse := some now, interval := some interval,
      refPeriod := if whole then some (now - r.revStart) else r.refPeriod,
      deadline := if state = .qualified then some (now + Config.lossFactor * interval) else none,
      witnessed := false, revStart := if whole then now else r.revStart,
      revPulses := if whole then 0 else r.revPulses + 1 }

/-- R3, R4, R6: a source returns to SEARCHING. -/
def SourceRec.search (r : SourceRec) : SourceRec :=
  { r with state := .searching, count := 0, interval := none, refPeriod := none, deadline := none }

/-- R2, R4, R6: an accepted pulse in the source's record, as witness for the other, and as restart of the rest timer. -/
def takePulse (src : Source) (s : State) : State :=
  let t := setSource s src ((sourceRec s.timing src).accept (pulsesPerRev s src) s.now)
  let t := setSource t (otherSource src) { sourceRec t.timing (otherSource src) with witnessed := true }
  t.setTiming { t.timing with restStart := some s.now, atRest := false }

/-- The source is QUALIFIED. -/
def qualified (t : Timing) (src : Source) : Bool := (sourceRec t src).state == .qualified

/-! ### Selection (R7, R8) -/

/-- R7: the selection that the sources' states give. -/
def selectionNow (s : State) : Option Source :=
  let pref := s.settings.inForce.reference.preferred
  if qualified s.timing pref then some pref
  else if qualified s.timing (otherSource pref) then some (otherSource pref) else none

/-- R101: the anchored indication may have changed. -/
def anchorCheck (s : State) : State := passCheck s

/-- R7, R20: a revolution in progress was discarded: the estimator receives a gap mark. -/
def gapIf (b : Bool) (s : State) : State := if b then deliver (gapMark s) else s

/-- R7: the selected source is re-evaluated; one that is still QUALIFIED stays selected (R8). When the selection moves, the
revolution in progress is discarded, and the drum angle changes from its value in `old` (R100). -/
def reselect (old s : State) : State :=
  if s.timing.sel.any (qualified s.timing) ∨ selectionNow s = s.timing.sel then s
  else
    let t := s.setTiming { s.timing with sel := selectionNow s, rev := none }
    unordered3 (gapIf s.timing.rev.isSome) (fun u => if t.timing.sel.isNone then deliver (referenceTest u) else u)
      (fun u => deliver (anchorCheck u)) (followAngle old t)

/-! ### Speed (R14) -/

/-- R14: the speed of a period in µs; a period of 0 gives a free value (log 2). -/
def speedOf (s : State) (period : Nat) : Nat :=
  if period = 0 then Config.speedOfZeroPeriod s.choices
  else if 3000000 < period then 0 else 60000000 / period

/-- Set the measured speed of a period. -/
def measure (period : Nat) (s : State) : State :=
  let t := s.setTiming { s.timing with speed := speedOf s period, measured := true }
  if period = 0 then nextChoice t else t

/-- R14: whether a measurement is handed on: it changed, or it is the first. -/
def handsSpeed (old s : State) : Bool := !old.timing.measured || old.timing.speed != s.timing.speed

/-- R14: hand a change of the measured speed to the estimator, the governor and the dosing unit. -/
def handSpeed (old s : State) : State :=
  if handsSpeed old s then
    unordered3 (fun u => deliver (changeover s.timing.speed u)) (fun u => deliver (governorSpeed old.timing.speed u))
      (fun u => deliver (dosingSpeed s.timing.speed u)) s
  else s

/-! ### Sampling (R16) -/

/-- R16: the request for the next sample point, made when the measured speed is at least 60 rpm. -/
def samplePointNow (s : State) : State :=
  match s.timing.rev with
  | none => s
  | some r =>
    if s.timing.speed < Config.samplingFloor then
      s.setTiming { s.timing with rev := some { r with nextSample := r.nextSample + 1 } }
    else
      let anchored := isAnchored s.timing
      let t := s.setTiming { s.timing with rev := some { r with
        nextSample := r.nextSample + 1, requests := r.requests + 1, anchored := r.anchored && anchored } }
      sampleRequest { rev := s.timing.counter + 1, index := r.nextSample, angle := (drumAngle s).getD 0 / 256,
                      anchored := anchored } t

/-- R16: whether the progress of COMM has reached sample point `n` of a revolution with `pulses` pulses, `e` µs into an interval of
`i` µs. An interval of 0 µs has passed from the next µs on (the model's choice, log 56). -/
def commReached (p n pulses e i : Nat) : Bool :=
  if i = 0 then decide (n * p ≤ 32 * (pulses + if e = 0 then 0 else 1))
  else decide (n * p * i ≤ 32 * (pulses * i + min e i))

/-- R16: whether the progress has reached the next sample point. -/
def sampleDue (s : State) : Bool :=
  match s.timing.rev with
  | none => false
  | some r =>
    decide (r.nextSample ≤ 31) &&
      match s.timing.sel with
      | none => false
      | some .index => s.timing.index.refPeriod.any fun p => decide (r.nextSample * p ≤ 32 * since s r.start)
      | some .comm => s.timing.comm.interval.any
        (commReached s.settings.inForce.reference.p r.nextSample r.pulses (since s (s.timing.comm.lastPulse.getD s.now)))

/-- Request the sample points that are due, `n` at most, in index order. -/
def dueSamples : Nat → State → State
  | 0, s => s
  | n + 1, s => if sampleDue s then dueSamples n (samplePointNow s) else s

/-- R9, R15: a revolution begins, with its sample-0 request. -/
def beginRev (s : State) : State :=
  samplePointNow (s.setTiming { s.timing with rev := some {
    start := s.now, requests := 0, nextSample := 0, anchored := isAnchored s.timing, pulses := 0 } })

/-! ### Boundaries (R8, R9, R15) -/

/-- R15: an opening boundary: the speed of a period first, then the revolution begins. -/
def openingBoundary (period : Nat) (s : State) : State :=
  let t := handSpeed s (measure period s)
  beginRev (t.setGov { t.gov with prevBoundary := some t.timing.speed })

/-- R8: the preferred source, QUALIFIED, takes over at a boundary of the other. -/
def switchPreferred (s : State) : State :=
  let pref := s.settings.inForce.reference.preferred
  if s.timing.sel = some (otherSource pref) ∧ qualified s.timing pref then
    let t := s.setTiming { s.timing with sel := some pref, rev := none }
    deliver (anchorCheck (followAngle s t))
  else beginRev s

/-- R9, R15: a boundary that ends the revolution in progress. The gap mark of a counter wrap is handed on before the new speed
is computed (the model's choice, log 59). -/
def revolutionBoundary (src : Source) (r : Revolution) (s : State) : State :=
  let t := s.setTiming { s.timing with counter := s.timing.counter + 1 }
  let t := gapIf (decide (t.timing.counter = 0)) t
  let t := measure (since s r.start) t
  let report : BoundaryReport := {
    number := t.timing.counter, source := src, period := since s r.start, speed := t.timing.speed,
    anchored := r.anchored && isAnchored t.timing, requests := r.requests }
  let hands := handsSpeed s t
  switchPreferred (unordered3
    (estimatorReport report)
    (fun u => deliver (governorBoundary (if hands then governorSpeed s.timing.speed u else u)))
    (fun u => deliver (countSettle (if hands then dosingSpeed t.timing.speed u else u))) t)

/-- A boundary of the selected source, which opens when no revolution is in progress. -/
def boundary (src : Source) (period : Nat) (s : State) : State :=
  match s.timing.rev with
  | none => openingBoundary period s
  | some r => revolutionBoundary src r s

/-! ### Pulses (R2, R10, R13) -/

/-- R10: an INDEX pulse aligns a QUALIFIED COMM. -/
def align (s : State) : State :=
  if qualified s.timing .comm then
    let t := s.timing
    s.setTiming { t with
      align := if t.align = .unaligned ∨ t.c = s.settings.inForce.reference.p then .aligned else .misaligned,
      c := 0, commAngle := 0, commAngleAt := s.now, commFirst := true }
  else s

/-- R10: the alignment moves the grid of COMM boundaries while COMM is selected. -/
def gridMoves (s : State) : Bool :=
  qualified s.timing .comm && s.timing.sel == some .comm && s.timing.c % s.settings.inForce.reference.p != 0

/-- R10: discard the revolution whose grid has moved. -/
def discardRev (moved : Bool) (s : State) : State :=
  let b := moved && s.timing.rev.isSome
  gapIf b (if b then s.setTiming { s.timing with rev := none } else s)

/-- An accepted INDEX pulse (R2, R9, R10). COMM is aligned before the boundary, with its switch under R8, is taken (the model's
choice, log 58). -/
def indexAccepted (s : State) : State :=
  let moved := gridMoves s
  let t := align (takePulse .index s)
  let t := followAngle s t
  let t := if s.timing.sel = some .comm then unordered (discardRev moved) (fun u => deliver (anchorCheck u)) t else t
  let t := if qualified t.timing .index && !qualified s.timing .index then reselect t t else t
  if t.timing.sel = some .index then boundary .index ((sourceRec t.timing .index).interval.getD 0) t else t

/-- R1, R3, R13: the pulse count and angle of COMM at an accepted pulse: set at the qualifying pulse, moved on while QUALIFIED. The
angle 0 at a qualifying pulse that does not select COMM is the model's choice (log 57), and so is that the angle interpolated at the
first pulse after an alignment goes by the interval before that pulse (log 81) and is COMM's own, also with INDEX selected (log 91). -/
def commAdvance (old s : State) : State :=
  let t := s.timing
  if !qualified t .comm then s
  else if !qualified old.timing .comm then
    s.setTiming { t with c := 0, align := .unaligned, commAngle := 0, commAngleAt := s.now, commFirst := false }
  else
    let c := t.c + 1
    let angle := if t.commFirst then commAngleNow old else (t.commAngle + commStep s) % Config.fullTurn
    s.setTiming { t with
      c := c, commAngleAt := s.now, commFirst := false,
      commAngle := if t.align = .unaligned ∧ c % s.settings.inForce.reference.p = 0 then 0 else angle }

/-- R16: a COMM pulse moves the progress of the revolution in progress and requests the points it passes over. -/
def commProgress (s : State) : State :=
  match s.timing.rev with
  | some r => dueSamples 32 (s.setTiming { s.timing with rev := some { r with pulses := r.pulses + 1 } })
  | none => s

/-- An accepted COMM pulse (R2, R9, R13, R14, R16). The sample points that it passes over are judged under the speed from before it
(the model's choice, log 71). -/
def commAccepted (s : State) : State :=
  let t := followAngle s (commAdvance s (takePulse .comm s))
  let t := if qualified t.timing .comm && !qualified s.timing .comm then reselect t t else t
  if t.timing.sel = some .comm then
    let p := t.settings.inForce.reference.p
    let period := p * t.timing.comm.interval.getD 0
    let t := commProgress t
    if t.timing.c % p = 0 then boundary .comm period t
    else handSpeed t (measure period t)
  else t

/-! ### Silence, loss, rest, adoption (R3, R4, R6, R17, R18) -/

/-- R3: a QUALIFYING source has been silent for three intervals, or 3 s without one. -/
def silenceDue (s : State) (r : SourceRec) : Bool :=
  r.state == .qualifying &&
    decide ((r.interval.map fun i => Config.lossFactor * i).getD Config.restTime ≤ since s (r.lastPulse.getD s.now))

/-- R4: a witness that the drum still turns. -/
def witness (s : State) (r : SourceRec) : Bool :=
  r.witnessed || s.tel.adopted.any fun x => decide (Config.witnessSpeed ≤ x.speed)

/-- R4: a QUALIFIED source whose deadline has passed becomes LOST or returns to SEARCHING. -/
def loseSource (src : Source) (s : State) : State :=
  let r := sourceRec s.timing src
  if r.state = .qualified ∧ r.deadline.any fun d => decide (d ≤ s.now) then
    reselect s (setSource s src (if witness s r then { r with state := .lost, deadline := none } else r.search))
  else s

/-- R6: a source at the at-rest finding. -/
def SourceRec.atRest (r : SourceRec) : SourceRec :=
  match r.state with
  | .qualifying | .qualified | .lost => r.search
  | .off | .searching => r

/-- R6: the drum is found at rest. The governor is handed the selection NONE first, then the speed 0, then the at-rest finding (the
model's choice, log 70). -/
def foundAtRest (s : State) : State :=
  let t := s.setTiming { s.timing with
    index := s.timing.index.atRest, comm := s.timing.comm.atRest, atRest := true, restStart := none }
  let t := reselect s t
  let u := t.setTiming { t.timing with speed := 0, measured := true }
  deliver (governorRest (unordered3 (fun x => deliver (changeover 0 x)) (fun x => deliver (governorSpeed t.timing.speed x))
    (fun x => deliver (dosingSpeed 0 x)) u))

/-- R17: a source at an adoption: unchanged, returned to SEARCHING, or OFF; a changed source's whole record is emptied, the time of
its last accepted pulse too (the model's choice, log 60). -/
def SourceRec.adopt (r : SourceRec) (changed on : Bool) : SourceRec :=
  if changed then (if on then { SourceRec.empty with state := .searching } else .empty) else r

/-- R17: the timing unit at an adoption, from the settings that were in force. -/
def adoptTiming (old : ReferenceSettings) (s : State) : State :=
  let new := s.settings.inForce.reference
  let index := s.timing.index.adopt (decide (old.indexOn ≠ new.indexOn)) new.indexOn
  let comm := s.timing.comm.adopt (decide (old.commOn ≠ new.commOn ∨ (new.commOn = true ∧ old.p ≠ new.p))) new.commOn
  reselect s (s.setTiming { s.timing with index := index, comm := comm, restStart := some s.now })

/-- R18: start-up ends: each enabled source enters SEARCHING and the rest timer starts. -/
def openTiming (s : State) : State :=
  let ref := s.settings.inForce.reference
  s.setTiming { s.timing with
    index := SourceRec.empty.adopt true ref.indexOn, comm := SourceRec.empty.adopt true ref.commOn,
    restStart := some s.now }

end Sys2Proof.Machine
end

