-- ==== Sys2Proof/Machine/Interlocks.lean ====
section
/-! DEFINITION. Accepted changes, the interlock tests' hand-over, and the line unit at an adoption (R111, R118, R119). -/

namespace Sys2Proof.Machine

/-- R118: the changed SPIN_PERMIT and KNOCK flags go to the governor; the spec gives the two no order (log 1). -/
def governorFlags (old : Lines) (s : State) : State :=
  unordered
    (fun u => if s.lines.spinPermit.all = old.spinPermit.all then u else deliver (spinPermitChanged u))
    (fun u => if s.lines.knock.some && !old.knock.some then deliver (knockRaised u) else u) s

/-- R118: evaluate the three tests afresh and hand on what has changed. -/
def evaluateTests (s : State) : State :=
  let set := s.settings.inForce.lines
  let t := s.setLines { s.lines with
    spinPermit := testFlags s.lines set.spinPermit, dosePermit := testFlags s.lines set.dosePermit,
    knock := testFlags s.lines set.knock }
  unordered (governorFlags s.lines)
    (fun u => if t.lines.dosePermit.all = s.lines.dosePermit.all then u else deliver (passCheck u)) t

/-- R111: the debounce time has run: the candidate becomes the accepted value; an input's accepted change is tested. -/
def acceptChange (n : Fin 8) (s : State) : State :=
  match s.lines.line[n].debounce with
  | some d =>
    if s.settings.inForce.lines.debounce * 1000 ≤ since s d.start then
      let t := setLine s n { s.lines.line[n] with accepted := d.candidate, debounce := none }
      if s.lines.line[n].output then t else evaluateTests t
    else s
  | none => s

/-- R119: a line takes its direction: one that becomes an output drives its latch at once, one that becomes an input stops driving,
any other keeps its pin. -/
def LineRec.turn (l : LineRec) (now : Nat) (output : Bool) : LineRec :=
  if output = l.output then l
  else if output then ({ l with output := true, held := false } : LineRec).withPin now l.latch
  else { l with output := false, held := false }

/-- R119: a line at an adoption: its direction first, then a standing debounce record is made afresh. -/
def LineRec.adopt (l : LineRec) (now : Nat) (output : Bool) : LineRec :=
  let l := l.turn now output
  { l with debounce := l.debounce.map fun d => { d with start := now } }

/-- R119: the line unit at an adoption. -/
def adoptLines (s : State) : State :=
  evaluateTests (s.setLines { s.lines with
    line := Vector.ofFn fun n =>
      s.lines.line[n].adopt s.now (decide (n.val < 2) || s.settings.inForce.lines.outputs.getLsbD n) })

end Sys2Proof.Machine
end

