-- ==== Sys2Proof/Machine/Decoder.lean ====
section
/-! DEFINITION. The window decoder: windows, decode order, snoop points and access faults (chapter 7). -/

namespace Sys2Proof.Machine

/-- The state of a port. -/
def portOf (s : State) : Port → PortState
  | .c => s.cport
  | .d => s.dport

/-- Replace the state of a port. -/
def setPort (s : State) (p : Port) (v : PortState) : State :=
  match p with
  | .c => s.setCport v
  | .d => s.setDport v

/-- R123: the first address of a window. -/
def WindowEntry.first (w : WindowEntry) : Nat := w.base / 16 * 16

/-- R123: the last address of a window. -/
def WindowEntry.last (w : WindowEntry) : Nat := w.limit / 16 * 16 + 15

/-- R123: an entry is disabled when its base is above its limit. -/
def WindowEntry.enabled (w : WindowEntry) : Bool := decide (w.first ≤ w.last)

/-- R123: whether an enabled entry covers an address. -/
def WindowEntry.covers (w : WindowEntry) (a : Nat) : Bool := w.enabled && decide (w.first ≤ a) && decide (a ≤ w.last)

/-- R124: the rights of a port in a window. -/
def WindowEntry.rights (w : WindowEntry) (p : Port) : Rights :=
  match w.kind, p with
  | .pass, .c => w.cRights
  | .pass, .d => w.dRights
  | .command, .c => .readWrite
  | .command, .d => .none
  | .telemetry, .c => .read
  | .telemetry, .d => .readWrite
  | .planEdit, .c => .readWrite
  | .planEdit, .d => .none
  | .planView, _ => .read
  | .report, _ => .read

/-- R124: whether a right allows a write (or a read). -/
def Rights.allows (r : Rights) (write : Bool) : Bool :=
  match r with
  | .none => false
  | .read => !write
  | .readWrite => true

/-- R125: the write handling of an entry. -/
def WindowEntry.handles (w : WindowEntry) : Handling := if w.kind = .planEdit then .held else w.handling

/-- The snoop points (R139). -/
inductive SnoopPoint where
  | command (offset : Nat)
  | telemetry (offset : Nat)
  | commit
  | settings
deriving DecidableEq, Repr

/-- The outcome of the decode of one byte: discarded with a kind; a PLAN_EDIT or PLAN_VIEW byte at a window offset; or a byte that
goes to memory at its own address. -/
inductive Decoded where
  | discard (kind : AccessKind) (handling : Handling)
  | edit (offset : Nat)
  | view (offset : Nat)
  | memory (handling : Handling) (snoop : Option SnoopPoint)
deriving DecidableEq, Repr

/-- The kind of a forbidden access. -/
def forbidden (write : Bool) : AccessKind := if write then .forbiddenWrite else .forbiddenRead

/-- R139: the snoop point of an allowed write byte in a window. -/
def windowSnoop (k : WindowKind) (offset : Nat) : Option SnoopPoint :=
  match k with
  | .command => if offset < 16 then some (.command offset) else none
  | .telemetry => if offset < 16 then some (.telemetry offset) else none
  | _ => none

/-- R131: a byte judged by its window. -/
def decodeWindow (w : WindowEntry) (p : Port) (write : Bool) (a : Nat) : Decoded :=
  if (w.rights p).allows write then
    match w.kind with
    | .planEdit => .edit (a - w.first)
    | .planView => .view (a - w.first)
    | k => .memory w.handles (if write then windowSnoop k (a - w.first) else none)
  else .discard (forbidden write) w.handles

/-- R129: a byte of the settings region. -/
def decodeSettings (p : Port) (write : Bool) (a : Nat) : Decoded :=
  match p, write with
  | .d, true => .discard .forbiddenWrite .held
  | .c, true => .memory .held (if 0x7FFE ≤ a then some .settings else none)
  | _, false => .memory .held none

/-- R130: an address in a plan page. -/
def inPage (base a : Nat) : Bool := decide (base ≤ a) && decide (a < base + 256)

/-- R128: the decode of a byte, in the order of its five steps. -/
def decode (t : TrafficSettings) (p : Port) (write : Bool) (a : Nat) : Decoded :=
  if Config.memSize ≤ a then .discard .outOfMemory .held
  else if Config.settingsBase ≤ a then decodeSettings p write a
  else if inPage t.pageA a || inPage t.pageB a then .discard .hiddenPage .held
  else
    match t.windows.toList.find? (·.covers a) with
    | some w => decodeWindow w p write a
    | none => .memory .held none

/-- R137: hand over an access fault, one for each kind in a transaction. -/
def accessFault (p : Port) (k : AccessKind) (a : Nat) (s : State) : State :=
  let q := portOf s p
  if k ∈ q.reported then s else recordAccess p k a (setPort s p { q with reported := q.reported ++ [k] })

/-- R138 to R140: a snooped byte goes to its owner, which joins the touch set. -/
def snoop (p : Port) (point : SnoopPoint) (v : Byte) (s : State) : State :=
  let q := portOf s p
  match point with
  | .command o =>
    (setPort s p { q with touch := { q.touch with command := true } }).setCmd { s.cmd with
      image := s.cmd.image.setIfInBounds o v, written := s.cmd.written.setIfInBounds o true }
  | .telemetry o =>
    (setPort s p { q with touch := { q.touch with telemetry := true } }).setTel { s.tel with
      image := s.tel.image.setIfInBounds o v, written := s.tel.written.setIfInBounds o true }
  | .commit =>
    (setPort s p { q with touch := { q.touch with commit := true } }).setPages { s.pages with commitCode := v }
  | .settings => setPort s p { q with touch := { q.touch with settings := true } }

/-- Snoop a byte where there is a snoop point. -/
def snoopAt (p : Port) (point : Option SnoopPoint) (v : Byte) (s : State) : State :=
  match point with
  | some x => snoop p x v s
  | none => s

/-- The base of a plan page. -/
def pageBase (s : State) : Page → Nat
  | .a => s.settings.inForce.traffic.pageA
  | .b => s.settings.inForce.traffic.pageB

/-- The other plan page. -/
def otherPage : Page → Page
  | .a => .b
  | .b => .a

/-- R133: the staging page's base. -/
def stagingBase (s : State) : Nat := pageBase s (otherPage s.pages.active)

/-- The enabled REPORT window's base, when the table has one. -/
def reportBase (t : TrafficSettings) : Option Nat :=
  (t.windows.toList.find? fun w => w.kind == .report && w.enabled).map (·.first)

end Sys2Proof.Machine
end

