-- ==== Sys2Proof/Machine/Link.lean ====
section
/-! DEFINITION. The upstream ports and the memory link's port transfers (chapter 10). -/

namespace Sys2Proof.Machine

/-! ### Ports and their transfers -/

/-- The requester that a port is. -/
def requesterOf : Port → Requester
  | .c => .cport
  | .d => .dport

/-- R176: the 7-bit device address. -/
def deviceAddress (s : State) : BitVec 7 := 0x50#7 + BitVec.ofNat 7 s.link.straps.val

/-- Set the port's last answer (log 6). -/
def answer (p : Port) (r : Reply) (s : State) : State := setPort s p { portOf s p with reply := r }

/-- Change the transfer on the M-port. -/
def setTransfer (s : State) (t : Option Transfer) : State := s.setLink { s.link with transfer := t }

/-- The burst or read of a port's own that is on the M-port. -/
def ownTransfer (s : State) (p : Port) : Option Transfer :=
  match s.link.transfer with
  | some t =>
    match t.kind with
    | .burst | .read => if t.who = requesterOf p then some t else none
    | _ => none
  | none => none

/-- R179, R182: a port's open burst or read is to end with a stop. -/
def closeOwn (p : Port) (s : State) : State :=
  match ownTransfer s p with
  | some t => setTransfer s (some { t with closing := true })
  | none => s

/-- R185: set a requester's ageing count to 0. -/
def clearAge (r : Requester) (s : State) : State :=
  match r with
  | .dport => s.setLink { s.link with ageD := 0 }
  | .internal => s.setLink { s.link with ageI := 0 }
  | .cport => s.setLink { s.link with ageC := 0 }

/-- R178, R185: the stretched byte is let go; a request it had waiting is withdrawn. -/
def dropStretch (p : Port) (s : State) : State :=
  let q := portOf s p
  let t := setPort s p { q with stretch := none }
  match q.stretch with
  | some _ => if q.post.isEmpty ∧ (ownTransfer s p).isNone then clearAge (requesterOf p) t else t
  | none => t

/-- R178: a byte is stretched from now, or on from the moment its stretch began. -/
def stretchByte (p : Port) (w : Waiting) (a start : Nat) (s : State) : State :=
  setPort s p { portOf s p with stretch := some { what := w, addr := a, since := start }, reply := .none }

/-- R179, R182: whether a byte at a target continues a port's open transfer of one direction. -/
def continues (s : State) (p : Port) (write : Bool) (target : Nat) : Bool :=
  match ownTransfer s p with
  | some t =>
    (t.kind == (if write then .burst else .read)) && !t.busy && !t.closing && decide (t.count < Config.transferMax) &&
      decide (target = t.addr + 1) && decide (t.addr ≠ 0x7FFF)
  | none => false

/-- R179: a HELD write byte at its target waits for its memory write, in the open burst or in a new one. -/
def holdWrite (p : Port) (target : Nat) (v : Byte) (a start : Nat) (s : State) : State :=
  let t :=
    if continues s p true target then
      setTransfer s (s.link.transfer.map fun x => { x with addr := target, data := v, busy := true })
    else closeOwn p s
  stretchByte p (.held target v) a start t

/-- R182: a read byte waits for its value, in the open read or in a new one. -/
def askRead (p : Port) (target a start : Nat) (s : State) : State :=
  let t :=
    if continues s p false target then
      setTransfer s (s.link.transfer.map fun x => { x with addr := target, busy := true })
    else closeOwn p s
  stretchByte p (.read target) a start t

/-- R127: the pointer rises by 1 and stops at 0xFFFF. -/
def stepPointer (p : Port) (s : State) : State :=
  let q := portOf s p
  setPort s p { q with pointer := if q.pointer = 0xFFFF then 0xFFFF else q.pointer + 1 }

/-- The faults that can still be taken back once a port's stands: the older ones are no longer the last fault (log 68). -/
def faultStands (p : Port) : List BegunFault → List BegunFault
  | [] => []
  | e :: es => if e.port = p then (es.filter (·.port != p)).map BegunFault.cover else e :: faultStands p es

/-- R177: a read byte begins, and the pointer that it finds is noted; the byte before it was sent whole, and its access fault
stands (log 68). -/
def noteSending (p : Port) (s : State) : State :=
  setPort (s.setReport { s.report with begun := faultStands p s.report.begun }) p
    { portOf s p with sending := some (portOf s p).pointer }

/-- R137, R192: the access fault of a byte that may yet prove partial is recorded and can be taken back (log 68). -/
def ReportUnit.begin (r : ReportUnit) (f : AccessFault) (selected : Bool) : ReportUnit :=
  { r.record f selected with
    begun := { port := f.port, selected := selected, before := r.lastAccess, covered := false } :: r.begun }

/-- R137: the access fault of a discarded read byte, one for each kind in a transaction. -/
def readFault (p : Port) (k : AccessKind) (a : Nat) (s : State) : State :=
  if k ∈ (portOf s p).reported then s
  else
    (accessFault p k a s).setReport (s.report.begin { port := p, kind := k, addr := a } (countSelects s k))

/-- The last access fault and the faults that can still be taken back, as they would stand had a port's fault never been handed over
(log 68): `last` is the last access fault where nothing covers the newest. -/
def withoutFault (p : Port) (last : Option AccessFault) : List BegunFault → Option AccessFault × List BegunFault
  | [] => (last, [])
  | e :: es =>
    if e.port = p then (if e.covered then last else e.before, es)
    else
      let r := withoutFault p e.before es
      (last, { e with before := r.1 } :: r.2)

/-- R177: a partial byte is not decoded: the access fault that it handed over is taken back, from the selected faults beyond 65,535
where there are any and from the count otherwise. -/
def ReportUnit.takeBack (r : ReportUnit) (p : Port) : ReportUnit :=
  match r.begun.find? (·.port == p) with
  | some e =>
    let rest := withoutFault p r.lastAccess r.begun
    { r with
      accessCount := if e.selected ∧ r.accessOver = 0 then r.accessCount - 1 else r.accessCount
      accessOver := if e.selected then r.accessOver - 1 else r.accessOver
      lastAccess := rest.1
      begun := rest.2 }
  | none => r

/-- R177: a read byte cut off in the middle of its sending is dropped: the pointer does not count it, and it makes no access
fault. -/
def dropPartial (p : Port) (s : State) : State :=
  match (portOf s p).stretch, (portOf s p).sending with
  | none, some a =>
    setPort (s.setReport (s.report.takeBack p)) p { portOf s p with pointer := a, sending := none }
  | _, _ => s

/-- R136, R178: a write byte is refused with a NACK and the port ignores the bus. -/
def refuseWrite (p : Port) (s : State) : State :=
  setPort s p { portOf s p with txn := .ignoring, reply := .nack, stretch := none }

/-- R135, R178: a read byte is sent as 0xFF. -/
def refuseRead (p : Port) (s : State) : State :=
  setPort s p { portOf s p with reply := .byte 0xFF, stretch := none }

/-- R180: a POSTED byte joins the post buffer and is acknowledged. -/
def joinPost (p : Port) (target : Nat) (v : Byte) (s : State) : State :=
  let q := portOf s p
  setPort s p { q with post := q.post ++ [(target, v)], reply := .ack, stretch := none }

/-! ### Transactions (R140, R176, R177) -/

/-- R176: a transaction begins with the acknowledgement of the device address. -/
def beginTxn (p : Port) (read : Bool) (s : State) : State :=
  setPort s p { portOf s p with
    txn := if read then .reading else .addressing, addrHigh := none, touch := .empty, snapshot := none, viewPage := none,
    reported := [], editRefused := false, nacked := false, sending := none, heldStart := none, reply := .ack }

/-- R140, R161, R147: the hand-overs of a transaction's touch set that its owners have to act on: a command record whose sequence
has been written and is not the last taken, a COMMIT code, a telemetry record, a settings check value (log 7). -/
def handOver (touch : Touch) (s : State) : State :=
  s.setHand {
    command := s.hand.command ||
      (touch.command && s.cmd.written[0] && s.cmd.lastSeq != some s.cmd.image[0])
    telemetry := s.hand.telemetry || touch.telemetry
    commit := s.hand.commit || (touch.commit && s.pages.commitCode == 0x01)
    settings := s.hand.settings || touch.settings }

/-- R177: a transaction ends: a stretched byte is cut off, an open transfer closes, and the touch set is handed over. -/
def endTxn (p : Port) (s : State) : State :=
  if (portOf s p).txn = .idle then s
  else
    let touch := (portOf s p).touch
    let t := closeOwn p (dropStretch p s)
    handOver touch (setPort t p { portOf t p with
      txn := .idle, addrHigh := none, touch := .empty, snapshot := none, viewPage := none, reported := [],
      editRefused := false, nacked := false, sending := none, reply := .none })

/-- R200: the settings unit waits for quiet. -/
def waitsForQuiet (s : State) : Bool :=
  started s && s.settings.pending.isSome && s.gov.state == .idle && !planUnderWay s && !swapBusy s

/-- R176, R200: a start condition and address byte on an idle port. -/
def startOn (p : Port) (addr : BitVec 7) (read : Bool) (s : State) : State :=
  if started s ∧ addr = deviceAddress s then
    if waitsForQuiet s then setPort s p { portOf s p with heldStart := some read, reply := .none }
    else beginTxn p read s
  else answer p .nack s

/-- R177: a repeated start within a transaction. The device address is acknowledged at once, also while the settings unit waits for
quiet (the model's choice, log 85). -/
def restartTxn (p : Port) (addr : BitVec 7) (read : Bool) (s : State) : State :=
  if addr = deviceAddress s then
    let t := closeOwn p (dropStretch p s)
    setPort t p { portOf t p with
      txn := if read then .reading else .addressing, addrHigh := none, nacked := false, sending := none, reply := .ack }
  else answer p .nack (endTxn p s)

/-- R177: a memory address byte; the second sets the pointer. -/
def addressByte (p : Port) (v : Byte) (s : State) : State :=
  let q := portOf s p
  if q.txn = .addressing then
    match q.addrHigh with
    | none => setPort s p { q with addrHigh := some v, reply := .ack }
    | some h => setPort s p { q with addrHigh := none, pointer := h ++ v, txn := .writing, reply := .ack }
  else s

/-! ### Data bytes (R128, R146, R178 to R182) -/

/-- R139: the commit code is a snoop point of the PLAN_EDIT window. -/
def editSnoop (offset : Nat) : Option SnoopPoint := if offset = 0xF0 then some .commit else none

/-- R133, R146: a PLAN_EDIT write byte that is not, or no longer, held goes to the staging page. -/
def editWriteOn (p : Port) (offset : Nat) (v : Byte) (a start : Nat) (s : State) : State :=
  holdWrite p (stagingBase s + offset) v a start (snoopAt p (editSnoop offset) v s)

/-- A write data byte at the pointer. -/
def writeByte (p : Port) (v : Byte) (s : State) : State :=
  let a := (portOf s p).pointer.toNat
  let t := stepPointer p s
  match decode s.settings.inForce.traffic p true a with
  | .discard k .held => refuseWrite p (closeOwn p (accessFault p k a t))
  | .discard k .posted => answer p .ack (closeOwn p (accessFault p k a t))
  | .edit o => if swapBusy s then stretchByte p (.editWrite o v) a s.now (closeOwn p t) else editWriteOn p o v a s.now t
  | .view _ => t
  | .memory .held x => holdWrite p a v a s.now (snoopAt p x v t)
  | .memory .posted x =>
    let t := closeOwn p (snoopAt p x v t)
    if (portOf t p).post.length < Config.postRoom then joinPost p a v t else stretchByte p (.post a v) a s.now t

/-- The write data byte of a port that takes one: in WRITING, with no byte stretched. -/
def takeWriteByte (p : Port) (v : Byte) (s : State) : State :=
  if (portOf s p).txn = .writing ∧ (portOf s p).stretch = none then writeByte p v s else s

/-- The code of a mode (chapter 13). -/
def Mode.code : Mode → Nat
  | .off => 0
  | .run => 1
  | .brake => 2

/-- The code of a governor state (chapter 13). -/
def GovState.code : GovState → Nat
  | .idle => 0
  | .ascend => 1
  | .waitBand => 2
  | .cross => 3
  | .retreat => 4
  | .descend => 5
  | .hold => 6
  | .balance => 7
  | .stopping => 8
  | .trip => 9

/-- The sixteen bytes of a live command (chapter 13, Live command). -/
def liveBytes (l : LiveCommand) : List Byte :=
  le16 l.target ++ le16 l.ramp ++ le8 l.mode.code ++ le8 l.state.code ++ le16 l.number.toNat ++ List.replicate 8 0

/-- R134, R173: an overlay byte, from the snapshot taken at the transaction's first one. -/
def overlayByte (p : Port) (offset : Nat) (s : State) : State :=
  let q := portOf s p
  let l := q.snapshot.getD (liveCommand s.gov)
  setPort s p { q with snapshot := some l, reply := .byte ((liveBytes l).getD (offset - 0xE0) 0) }

/-- R133: the active page as the transaction's first PLAN_VIEW byte finds it. -/
def noteView (p : Port) (s : State) : State :=
  let q := portOf s p
  setPort s p { q with viewPage := some (q.viewPage.getD s.pages.active) }

/-- A read data byte at the pointer. -/
def readByteOn (p : Port) (s : State) : State :=
  let a := (portOf s p).pointer.toNat
  let t := stepPointer p (noteSending p s)
  match decode s.settings.inForce.traffic p false a with
  | .discard k _ => refuseRead p (closeOwn p (readFault p k a t))
  | .edit o =>
    if swapBusy s then
      if (portOf s p).editRefused then refuseRead p (closeOwn p t)
      else stretchByte p (.editRead o) a s.now (closeOwn p t)
    else askRead p (stagingBase s + o) a s.now t
  | .view o =>
    let t := noteView p t
    if 0xE0 ≤ o ∧ o ≤ 0xEF then overlayByte p o (closeOwn p t)
    else askRead p (pageBase s ((portOf t p).viewPage.getD s.pages.active) + o) a s.now t
  | .memory _ _ => askRead p a a s.now t

/-- The read data byte of a port that sends one: in READING, not after a NACK, with no byte stretched. -/
def takeReadByte (p : Port) (s : State) : State :=
  if (portOf s p).txn = .reading ∧ (portOf s p).stretch = none ∧ !(portOf s p).nacked then readByteOn p s else s

/-- R177, R182: the controller answers a read byte with a NACK. -/
def nackRead (p : Port) (s : State) : State :=
  if (portOf s p).txn = .reading ∧ (portOf s p).stretch = none then
    let t := closeOwn p s
    setPort t p { portOf t p with nacked := true, sending := none, reply := .none }
  else s

/-- R178: the byte on the M-port is the one the port stretches; a byte that was cut off has left its transfer closing. -/
def Transfer.carries (t : Transfer) : Bool := t.busy && !t.closing

/-- R178: whether the stretched byte of a port is on the M-port. -/
def onBus (s : State) (p : Port) : Bool := (ownTransfer s p).any (·.carries)

/-- R146, R178: the stretched byte of a port reaches the limit and is refused. -/
def stretchExpires (p : Port) (s : State) : State :=
  match (portOf s p).stretch with
  | some x =>
    if Config.stretchLimit ≤ since s x.since ∧ !onBus s p then
      let t := dropStretch p s
      match x.what with
      | .editWrite _ _ => refuseWrite p (accessFault p .editBusy x.addr t)
      | .editRead _ =>
        let t := refuseRead p (accessFault p .editBusy x.addr t)
        setPort t p { portOf t p with editRefused := true }
      | .post _ _ | .held _ _ => refuseWrite p (accessFault p .memoryTimeout x.addr t)
      | .read _ => refuseRead p (accessFault p .memoryTimeout x.addr t)
    else s
  | none => s

/-- R179, R182: 200 µs have passed with an open burst or read idle. -/
def idleClose (p : Port) (k : TransferKind) (s : State) : State :=
  match ownTransfer s p with
  | some t => if t.kind = k ∧ !t.busy ∧ Config.idleClose ≤ since s t.since then closeOwn p s else s
  | none => s

/-! ### Bytes on the M-port (R179, R181, R182) -/

/-- The port that a requester is. -/
def portOfRequester : Requester → Option Port
  | .cport => some .c
  | .dport => some .d
  | .internal => none

/-- R179: the memory has acknowledged a byte of a HELD burst. -/
def burstAck (p : Port) (t : Transfer) (s : State) : State :=
  let u := setTransfer (storeByte s t.addr t.data) (some { t with
    busy := false, count := t.count + 1, since := s.now,
    closing := t.closing || decide (Config.transferMax ≤ t.count + 1) })
  if (portOf s p).stretch.isSome ∧ t.carries = true then setPort u p { portOf u p with stretch := none, reply := .ack } else u

/-- R181: the entry that goes on in the same drain transfer. -/
def drainNext (post : List (Nat × Byte)) (addr count : Nat) : Option (Nat × Byte) :=
  match post with
  | e :: _ => if e.1 = addr + 1 ∧ addr ≠ 0x7FFF ∧ count < Config.transferMax then some e else none
  | [] => none

/-- R181: the memory has acknowledged an entry of a drain, which leaves the buffer. -/
def drainAck (p : Port) (t : Transfer) (s : State) : State :=
  let rest := (portOf s p).post.tail
  let u := setPort (storeByte s t.addr t.data) p { portOf s p with post := rest }
  match drainNext rest t.addr (t.count + 1) with
  | some e => setTransfer u (some { t with addr := e.1, data := e.2, count := t.count + 1, since := s.now })
  | none => setTransfer u (some { t with busy := false, count := t.count + 1, since := s.now, closing := true })

/-- The memory acknowledges a data byte of a port's write transfer. -/
def dataAck (s : State) : State :=
  match s.link.transfer with
  | some t =>
    match t.kind, portOfRequester t.who with
    | .burst, some p => if t.busy then burstAck p t s else s
    | .drain _, some p => if t.busy then drainAck p t s else s
    | _, _ => s
  | none => s

/-- R182: the byte of a port's read has come back and is sent upstream. That the 200 µs without the controller asking for the next byte
count from this moment is the model's choice (log 95). -/
def readBack (s : State) : State :=
  match s.link.transfer with
  | some t =>
    match t.kind, portOfRequester t.who with
    | .read, some p =>
      if t.busy then
        let u := setTransfer s (some { t with busy := false, count := t.count + 1, since := s.now })
        if (portOf s p).stretch.isSome ∧ t.carries = true then
          setPort u p { portOf u p with stretch := none, reply := .byte (readByte s t.addr) }
        else u
      else s
    | _, _ => s
  | none => s

/-- R185: a port's transfer that is to close ends with a stop, and its grant is released. -/
def endTransfer (s : State) : State :=
  match s.link.transfer with
  | some t => if t.closing ∧ !t.busy ∧ (portOfRequester t.who).isSome then setTransfer s none else s
  | none => s

/-- R184: 100 µs after a device address without acknowledgement the transfer is repeated, three times at most. -/
def retryAddress (s : State) : State :=
  match s.link.transfer with
  | some t =>
    if t.busy ∧ t.count = 0 ∧ t.retries < Config.retryMax ∧ Config.retryPause ≤ since s t.since then
      setTransfer s (some { t with retries := t.retries + 1, since := s.now })
    else s
  | none => s

/-! ### Requests and grants (R181, R185, R186) -/

/-- R181: the length of the run of consecutive entries that begins a post buffer, `n` at most. -/
def runLength : Nat → List (Nat × Byte) → Nat
  | 0, _ => 0
  | _ + 1, [] => 0
  | n + 1, e :: rest =>
    match rest with
    | f :: _ => if f.1 = e.1 + 1 ∧ e.1 ≠ 0x7FFF then 1 + runLength n rest else 1
    | [] => 1

/-- The transfer that a port requests (R180 to R182): its drain, or else its HELD byte or its read. -/
def portRequest (s : State) (p : Port) : Option Transfer :=
  let make (k : TransferKind) (addr : Nat) (v : Byte) : Transfer :=
    { who := requesterOf p, kind := k, addr := addr, data := v, busy := true, count := 0, closing := false, retries := 0,
      since := s.now }
  match (portOf s p).post with
  | e :: _ => some (make (.drain (runLength Config.transferMax (portOf s p).post)) e.1 e.2)
  | [] =>
    match (portOf s p).stretch with
    | some x =>
      match x.what with
      | .held target v => some (make .burst target v)
      | .read target => some (make .read target 0)
      | _ => none
    | none => none

end Sys2Proof.Machine
end

