-- ==== Sys2Proof/Machine/Operands.lean ====
section
/-! DEFINITION. Record formats: the settings block and its checks, plan pages and their checks, the report record and log entries
(R198, R150, chapter 13). -/

namespace Sys2Proof.Machine

/-- A number as a class; only the low three bits count (R205). -/
def toClass (n : Nat) : Class := ⟨n % 8, Nat.mod_lt _ (by decide)⟩

/-- The lowest bytes `a` to `b` of a range test. -/
def within (v a b : Nat) : Bool := decide (a ≤ v) && decide (v ≤ b)

/-! ### Settings block: fields -/

/-- The kinds of window entry by their codes. -/
def windowKind : Nat → WindowKind
  | 1 => .command
  | 2 => .telemetry
  | 3 => .planEdit
  | 4 => .planView
  | 5 => .report
  | _ => .pass

/-- The rights by their codes. -/
def rightsOf : Nat → Rights
  | 1 => .read
  | 2 => .readWrite
  | _ => .none

/-- Window entry `i` of a settings image. -/
def windowAt (l : List Byte) (i : Nat) : WindowEntry where
  kind := windowKind (byteAt l (8 * i))
  cRights := rightsOf (byteAt l (8 * i + 1))
  dRights := rightsOf (byteAt l (8 * i + 2))
  handling := if byteAt l (8 * i + 3) = 1 then .posted else .held
  base := wordAt l (8 * i + 4)
  limit := wordAt l (8 * i + 6)

/-- The traffic group. -/
def trafficOf (l : List Byte) : TrafficSettings where
  windows := Vector.ofFn fun i => windowAt l i.val
  pageA := wordAt l 0x040
  pageB := wordAt l 0x042
  fast := byteAt l 0x044 == 1
  countSel := l.getD 0x045 0

/-- The reference group. -/
def referenceOf (l : List Byte) : ReferenceSettings where
  indexOn := byteAt l 0x048 != 0
  commOn := byteAt l 0x049 != 0
  preferred := if byteAt l 0x04A = 1 then .comm else .index
  p := byteAt l 0x04B

/-- The estimator group. -/
def estimatorOf (l : List Byte) : EstimatorSettings where
  changeover := wordAt l 0x050
  settle := byteAt l 0x052
  holdLimit := byteAt l 0x053
  angleFloor := wordAt l 0x054
  excursion := wordAt l 0x056
  torque := wordAt l 0x058
  sens := Vector.ofFn fun i =>
    { speed := wordAt l (0x060 + 6 * i.val), sens := wordAt l (0x062 + 6 * i.val), lag := wordAt l (0x064 + 6 * i.val) }

/-- The governor group. -/
def governorOf (l : List Byte) : GovernorSettings where
  envelope := Vector.ofFn fun i =>
    { threshold := wordAt l (0x090 + 6 * i.val), ceiling := wordAt l (0x092 + 6 * i.val),
      ascent := wordAt l (0x094 + 6 * i.val) }
  bands := Vector.ofFn fun i =>
    { low := wordAt l (0x0C0 + 8 * i.val), high := wordAt l (0x0C2 + 8 * i.val), rate := wordAt l (0x0C4 + 8 * i.val),
      admission := toClass (byteAt l (0x0C6 + 8 * i.val)) }
  ceiling := wordAt l 0x0F0
  descend := wordAt l 0x0F2
  unsettled := toClass (byteAt l 0x0F4)
  interlock := byteAt l 0x0F5
  bandWait := byteAt l 0x0F6
  margin := byteAt l 0x0F7
  window := byteAt l 0x0F8
  ageLimit := wordAt l 0x0FA

/-- The dosing group; the nozzle offset is taken modulo 360 (R205). -/
def dosingOf (l : List Byte) : DosingSettings where
  enable := byteAt l 0x100 != 0
  span := byteAt l 0x101
  capacity := wordAt l 0x102
  nozzle := wordAt l 0x104 % 360
  lead := byteAt l 0x106
  lag := byteAt l 0x107
  flow := wordAt l 0x108
  dmin := wordAt l 0x10A
  dmax := wordAt l 0x10C
  retention := wordAt l 0x10E
  settle := byteAt l 0x110

/-- The line group. -/
def linesOf (l : List Byte) : LineSettings where
  outputs := (List.range 8).foldl (fun m n => if byteAt l (0x120 + n) = 1 then m ||| (1#8 <<< n) else m) 0
  debounce := byteAt l 0x128
  spinPermit := { mask := l.getD 0x12A 0, pattern := l.getD 0x12B 0 }
  dosePermit := { mask := l.getD 0x12C 0, pattern := l.getD 0x12D 0 }
  knock := { mask := l.getD 0x12E 0, pattern := l.getD 0x12F 0 }

/-- The settings of a block. -/
def settingsOf (l : List Byte) : Settings where
  traffic := trafficOf l
  reference := referenceOf l
  estimator := estimatorOf l
  governor := governorOf l
  dosing := dosingOf l
  lines := linesOf l
  reportPeriod := wordAt l 0x046
  checkValue := BitVec.ofNat 16 (wordAt l 0x1FE)

/-! ### Settings block: the checks of R198 -/

/-- The enabled special windows. -/
def specials (t : TrafficSettings) : List WindowEntry := t.windows.toList.filter fun w => w.kind != .pass && w.enabled

/-- Whether two address ranges share an address. -/
def overlap (a b c d : Nat) : Bool := decide (a ≤ d) && decide (c ≤ b)

/-- A relation between every element of a list and each later one. -/
def pairwise {α : Type} (r : α → α → Bool) : List α → Bool
  | [] => true
  | x :: rest => rest.all (r x) && pairwise r rest

/-- Check 2: known codes, no special kind enabled twice. -/
def check2 (l : List Byte) : Bool :=
  ((List.range 8).all fun i =>
    decide (byteAt l (8 * i) ≤ 5) && decide (byteAt l (8 * i + 1) ≤ 2) && decide (byteAt l (8 * i + 2) ≤ 2) &&
      decide (byteAt l (8 * i + 3) ≤ 1)) &&
    pairwise (fun a b => a.kind != b.kind) (specials (trafficOf l))

/-- Check 3: the size of a special window. -/
def sizeOk (w : WindowEntry) : Bool :=
  let n := w.last + 1 - w.first
  match w.kind with
  | .pass => true
  | .command | .telemetry => decide (16 ≤ n)
  | .planEdit | .planView => decide (n = 256)
  | .report => decide (320 ≤ n)

/-- Check 5: no special window shares an address with another, with a plan page or with the settings region. -/
def check5 (t : TrafficSettings) : Bool :=
  pairwise (fun a b => !overlap a.first a.last b.first b.last) (specials t) &&
    (specials t).all fun w =>
      !overlap w.first w.last t.pageA (t.pageA + 255) && !overlap w.first w.last t.pageB (t.pageB + 255) &&
        !overlap w.first w.last 0x7E00 0x7FFF

/-- Check 6: the page bases. -/
def check6 (t : TrafficSettings) : Bool :=
  decide (t.pageA % 256 = 0) && decide (t.pageB % 256 = 0) && decide (t.pageA ≠ t.pageB) && decide (t.pageA ≤ 0x7D00) &&
    decide (t.pageB ≤ 0x7D00)

/-- Check 9: estimator ranges. -/
def check9 (e : EstimatorSettings) : Bool :=
  within e.changeover 70 600 && within e.settle 4 16 && within e.holdLimit 8 255 && within e.angleFloor 0 4095 &&
    within e.excursion 100 11000

/-- Check 10: the sensitivity table. -/
def check10 (e : EstimatorSettings) : Bool :=
  pairwise (fun a b => decide (a.speed < b.speed)) e.sens.toList &&
    e.sens.toList.all fun p => decide (p.speed ≤ 1400) && decide (p.lag ≤ 359)

/-- Check 11: the envelope (R43). -/
def check11 (g : GovernorSettings) : Bool :=
  decide (g.envelope[0].threshold = 0) &&
    pairwise (fun a b => decide (a.threshold < b.threshold) && decide (b.ceiling ≤ a.ceiling)) g.envelope.toList &&
    g.envelope.toList.all fun r => decide (r.ceiling ≤ 1400) && within r.ascent 1 600

/-- Check 12: the band list (R45). -/
def check12 (g : GovernorSettings) : Bool :=
  (g.bands.toList.all fun b =>
    decide (b.low % 10 = 0) && decide (b.high % 10 = 0) && decide (b.low ≤ 1400) && decide (b.high ≤ 1400)) &&
    ((g.bands.toList.filter Band.enabled).all fun b => decide (40 ≤ b.low) && within b.rate 1 600) &&
    pairwise (fun a b => !overlap a.low a.high b.low b.high) (g.bands.toList.filter Band.enabled)

/-- Check 13: the ranges of R46; the unsettled class is judged on its whole byte. -/
def check13 (l : List Byte) (g : GovernorSettings) : Bool :=
  decide (g.ceiling ≤ 1400) && within g.descend 1 600 && decide (byteAt l 0x0F4 ≤ 7) && decide (g.interlock ≤ 120) &&
    within g.bandWait 1 255 && decide (g.margin ≤ 25) && within g.window 1 60 && within g.ageLimit 50 1000

/-- Check 14: the ranges of R106. -/
def check14 (d : DosingSettings) : Bool :=
  within d.span 40 85 && within d.capacity 1 600 && decide (d.lead ≤ 100) && decide (d.lag ≤ 100) && within d.flow 50 2000 &&
    within d.dmin 60 600 && within d.dmax 60 600 && decide (d.dmin < d.dmax) && decide (20 ≤ d.retention) &&
    decide (d.retention < d.dmin) && within d.settle 1 32

/-- Check 17: debounce and directions. -/
def check17 (l : List Byte) : Bool :=
  within (byteAt l 0x128) 1 50 && (List.range 8).all fun n => decide (byteAt l (0x120 + n) ≤ 1)

/-- The first failing check of a list numbered from `n`, 0 when all pass. -/
def firstFailing : Nat → List (Unit → Bool) → Nat
  | _, [] => 0
  | n, c :: rest => if c () then firstFailing (n + 1) rest else n

/-- R198: the number of the first check that fails, 0 for a valid image. -/
def settingsCheck (l : List Byte) : Nat :=
  let set := settingsOf l
  firstFailing 1 [
    fun _ => decide (crc16 (l.take 510) = wordAt l 510),
    fun _ => check2 l,
    fun _ => (specials set.traffic).all sizeOk,
    fun _ => (specials set.traffic).all fun w => decide (w.last ≤ 0x7DFF),
    fun _ => check5 set.traffic,
    fun _ => check6 set.traffic,
    fun _ => decide (byteAt l 0x044 ≤ 1),
    fun _ => decide (byteAt l 0x04A ≤ 1) && [12, 16, 24, 32, 48].contains set.reference.p,
    fun _ => check9 set.estimator,
    fun _ => check10 set.estimator,
    fun _ => check11 set.governor,
    fun _ => check12 set.governor,
    fun _ => check13 l set.governor,
    fun _ => check14 set.dosing,
    fun _ => decide (1 ≤ passVolume set.dosing set.dosing.dmax),
    fun _ => decide (6 * set.dosing.lead * set.dosing.dmax + 1000 * set.dosing.span < 360000),
    fun _ => check17 l,
    fun _ => within set.reportPeriod 100 2000]

/-! ### Plan pages (R77, R145, R150) -/

/-- A step kind by its code. -/
def stepKind : Nat → StepKind
  | 1 => .distribute
  | 2 => .spin
  | 3 => .balance
  | _ => .coast

/-- A failure action by its code. -/
def failAction : Nat → FailAction
  | 0 => .continue
  | 1 => .retry
  | 2 => .redistribute
  | _ => .abort

/-- The offset of step slot `i`. -/
def slot (i : Nat) : Nat := 0x20 + 16 * i

/-- Step `i` of a page's bytes. -/
def planStep (l : List Byte) (i : Nat) : PlanStep where
  kind := stepKind (byteAt l (slot i))
  target := wordAt l (slot i + 1)
  ramp := wordAt l (slot i + 3)
  hold := wordAt l (slot i + 5)
  accept := toClass (byteAt l (slot i + 7))
  floor := wordAt l (slot i + 8)
  dosing := byteAt l (slot i + 10) != 0
  action := failAction (byteAt l (slot i + 11))

/-- The header and steps of a page's bytes. -/
def planOf (l : List Byte) : Plan where
  identity := BitVec.ofNat 16 (wordAt l 0)
  stepCount := byteAt l 2
  budget := wordAt l 6
  maxRetries := byteAt l 3
  retryTarget := byteAt l 4
  steps := (List.range (byteAt l 2)).map (planStep l)

/-- Checks 8 to 10 of a step against the settings: the first that fails. -/
def stepSettingsCheck (set : Settings) (p : PlanStep) : Option Nat :=
  if set.governor.ceiling < p.target then some 8
  else if (bandAt set.governor p.target).isSome then some 9
  else if p.kind = .balance ∧ ¬(set.dosing.dmin ≤ p.target ∧ p.target ≤ set.dosing.dmax) then some 10
  else none

/-- R150: checks 5 to 11 of step `i`: the first that fails. -/
def stepCheck (set : Settings) (l : List Byte) (i : Nat) : Option Nat :=
  let p := planStep l i
  if !within (byteAt l (slot i)) 1 4 then some 5
  else if !within p.ramp 1 600 then some 6
  else if 600 < p.hold then some 7
  else
    match stepSettingsCheck set p with
    | some k => some k
    | none => if 7 < byteAt l (slot i + 7) ∨ 3 < byteAt l (slot i + 11) then some 11 else none

/-- The first failing step check of steps `i` on, `n` steps. -/
def stepsCheck (set : Settings) (l : List Byte) : Nat → Nat → Option (Nat × Nat)
  | _, 0 => none
  | i, n + 1 =>
    match stepCheck set l i with
    | some k => some (k, i)
    | none => stepsCheck set l (i + 1) n

/-- R150, R151: the first check that a page fails, with the step index of checks 5 to 11; `needed` is the volume that check 12
asks the budget to cover while a plan is under way. -/
def planCheck (set : Settings) (l : List Byte) (needed : Option Nat) : Option (Nat × Option Nat) :=
  if crc16 (l.take 0x1E ++ (l.drop 0x20).take 0xC0) ≠ wordAt l 0x1E then some (1, none)
  else if !within (byteAt l 2) 1 12 then some (2, none)
  else if 7 < byteAt l 3 then some (3, none)
  else if byteAt l 2 ≤ byteAt l 4 then some (4, none)
  else
    match stepsCheck set l 0 (byteAt l 2) with
    | some (k, i) => some (k, some i)
    | none => if needed.any fun v => decide (wordAt l 6 < v) then some (12, none) else none

/-! ### Codes of the records the device writes (chapter 13) -/

/-- The runner state's code. -/
def RunnerState.code : RunnerState → Nat
  | .none => 0
  | .running => 1
  | .waitResume => 2
  | .done => 3
  | .aborted => 4

/-- The end reason's code. -/
def EndReason.code : EndReason → Nat
  | .none => 0
  | .stopped => 1
  | .tripped => 2
  | .stepFailed => 3

/-- A source state's code. -/
def SourceState.code : SourceState → Nat
  | .off => 0
  | .searching => 1
  | .qualifying => 2
  | .qualified => 3
  | .lost => 4

/-- The estimate state's code. -/
def EstState.code : EstState → Nat
  | .none => 0
  | .forming => 1
  | .settled => 2
  | .held => 3

/-- The selected source's code. -/
def selCode : Option Source → Nat
  | none => 0
  | some .index => 1
  | some .comm => 2

/-- The command result's code. -/
def CmdResult.code : CmdResult → Nat
  | .none => 0
  | .taken => 1
  | .takenPartial => 2
  | .refusedState => 3
  | .refusedArgument => 4
  | .unknownCode => 5

/-- The settings status's code. -/
def SettingsStatus.code : SettingsStatus → Nat
  | .adopted => 0
  | .deferred => 1
  | .rejected => 2
  | .restricted => 3

/-- The commit result's code. -/
def CommitResult.code : CommitResult → Nat
  | .none => 0
  | .swapped => 1
  | .rejected => 2
  | .refusedRunning => 3
  | .busy => 4
  | .memory => 5

/-- The failure action's code. -/
def FailAction.code : FailAction → Nat
  | .continue => 0
  | .retry => 1
  | .redistribute => 2
  | .abort => 3

/-- The cut cause's code. -/
def CutCause.code : CutCause → Nat
  | .trip => 1
  | .planEnd => 2
  | .stepExit => 3
  | .drain => 4
  | .cancel => 5

/-- The state code of a head order. -/
def OrderState.code : OrderState → Nat
  | .queued => 0
  | .injecting => 1
  | .settling => 2

/-- The four flags of a test, in the order ALL, NONE, SOME, SOME_NOT. -/
def TestFlags.code (f : TestFlags) : Nat := bit f.all + 2 * bit f.none + 4 * bit f.some + 8 * bit f.someNot

/-- One bit for each line. -/
def lineBits (s : State) (f : LineRec → Bool) : Nat :=
  (List.finRange 8).foldl (fun m n => m + bit (f s.lines.line[n]) * 2 ^ n.val) 0

/-- A two-byte angle; an absent one is 0xFFFF (R206). -/
def angleBytes (a : Option Nat) : List Byte := le16 (a.getD 0xFFFF)

/-! ### The report record (chapter 13) -/

/-- Bytes 2 to 19: governor, plan, references, estimate state, plan identity, measured speed. -/
def reportHead (s : State) : List Byte :=
  le8 (s.gov.state.code + 16 * (modeOf s.gov).code) ++ le8 (s.runner.state.code + 16 * s.runner.endReason.code) ++
    le16 s.gov.target ++ le16 s.gov.ramp ++ le16 s.gov.number.toNat ++ le8 (s.runner.stepIndex + 16 * s.runner.retries) ++
    le8 (s.timing.index.state.code + 16 * s.timing.comm.state.code) ++
    le8 (selCode s.timing.sel + 4 * bit (isAnchored s.timing) + 8 * bit s.pages.valid + 16 * bit s.est.sensorFailed +
      32 * bit (swapBusy s)) ++
    le8 (s.est.est.state.code + 4 * bit (s.est.est.source == .tub) + 16 * s.est.est.cls.val) ++ le16 s.runner.doseUsed ++
    le16 (if s.pages.valid then s.runner.plan.identity.toNat else 0) ++ le16 s.timing.speed

/-- Bytes 20 to 41: estimate and dosing. -/
def reportMiddle (s : State) : List Byte :=
  let head := s.dosing.queue.head?
  le16 s.est.est.magnitude ++ angleBytes s.est.est.angle ++ le16 s.est.est.magSpread ++ le8 s.est.est.angSpread ++
    le8 (s.dosing.queue.length + 16 * (head.map fun o => o.chamber.val + 4 * o.state.code).getD 0) ++
    le16 ((head.map fun o => o.number.toNat).getD 0) ++ le16 ((head.map (·.ordered)).getD 0) ++
    le16 ((head.map (·.injected)).getD 0) ++ s.dosing.accounts.toList.flatMap le16

/-- The last access fault's bytes 54 to 56; kind 0 with port and address 0 when empty (R206). -/
def accessBytes (a : Option AccessFault) : List Byte :=
  match a with
  | some f => le8 (f.kind.number + 1 + 128 * bit (f.port == .d)) ++ le16 f.addr
  | none => [0, 0, 0]

/-- Bytes 42 to 61: lines, command, faults, settings, commit, log. What byte 47 shows while no sequence has been taken is not stated:
a free value (log 84). -/
def reportTail (s : State) : List Byte :=
  le8 (lineBits s (·.output)) ++ le8 (lineBits s (·.latch)) ++ le8 (lineBits s (·.accepted)) ++
    le16 (s.lines.spinPermit.code + 16 * s.lines.dosePermit.code + 256 * s.lines.knock.code) ++
    [s.cmd.lastSeq.getD (Config.absentSequence s.choices)] ++
    le8 (s.cmd.result.code + 16 * s.report.nextSlot) ++ [s.cmd.mask] ++ le16 s.report.latches.toNat ++
    le16 s.report.accessCount ++ accessBytes s.report.lastAccess ++
    le8 (s.settings.status.code + 16 * s.pages.result.code) ++ le8 s.settings.check ++
    le8 (s.pages.check + 16 * s.pages.stepIndex.getD 15) ++ le16 s.report.drops

/-- The 64 bytes of the report record with a report sequence at both ends. -/
def reportImage (s : State) (seq : Word16) : List Byte :=
  le16 seq.toNat ++ reportHead s ++ reportMiddle s ++ reportTail s ++ le16 seq.toNat

/-! ### Log entries (chapter 13) -/

/-- A step index in a byte of its own; absent as 0xFF (R206). -/
def stepByte (i : Option Nat) : List Byte := le8 (i.getD 0xFF)

/-- The reason's code and the byte 15 that goes with it. -/
def reasonBytes : FailReason → Nat × Nat
  | .notDistributed => (1, 0)
  | .belowFloor => (2, 0)
  | .notBalanced => (3, 0)
  | .doseExhausted full => (4, if full then 2 else 1)
  | .bandRefused k => (5, k.val)

/-- The kind byte and the four detail bytes of an entry. -/
def detailBytes : LogDetail → Nat × List Byte
  | .trip k step code => (1, le8 k.number ++ stepByte step ++ [code, 0])
  | .stepFailed step why a => (2, le8 step ++ le8 (reasonBytes why).1 ++ le8 a.code ++ le8 (reasonBytes why).2)
  | .planDone id retries => (3, le16 id.toNat ++ le8 retries ++ [0])
  | .planAborted why step id => (4, le8 why.code ++ le8 step ++ le16 id.toNat)
  | .doseDone n k o full =>
    (5, le16 n.toNat ++ le8 k.val ++ le8 (bit (o == .command) + 2 * bit full))
  | .doseCut n count cause full => (6, le16 n.toNat ++ le8 count ++ le8 (cause.code + 128 * bit full))
  | .interlockDrop step st => (7, le8 step ++ le8 st.code ++ [0, 0])
  | .settingsAdopted check => (8, le16 check.toNat ++ [0, 0])
  | .settingsRejected check restricted => (9, le8 check ++ le8 (if restricted then 2 else 1) ++ [0, 0])
  | .commit r check step id =>
    (10, le8 (r.code + 128 * bit id.isSome) ++ le8 (check + 16 * step.getD 15) ++ le16 ((id.map (·.toNat)).getD 0))
  | .restart drops => (11, le16 drops ++ [0, 0])

/-- The sixteen bytes of a log entry with its sequence. -/
def entryBytes (e : LogEntry) (seq : Word32) : List Byte :=
  le32 seq ++ le8 (detailBytes e.detail).1 ++ le8 e.cls.val ++ le16 e.speed ++ le32 e.counter ++ (detailBytes e.detail).2

/-! ### Telemetry and command records -/

/-- R205: a drive state by its code; an unknown one is FAULT (R169). -/
def driveState : Nat → DriveState
  | 0 => .ready
  | 1 => .running
  | 2 => .braking
  | _ => .fault

/-- R168: the telemetry record that an image holds. -/
def telemetryOf (v : Vector Byte 16) : TelRecord where
  seq := v[0]
  drive := driveState v[1].toNat
  speed := v[2].toNat + 256 * v[3].toNat
  ripple := v[4].toNat + 256 * v[5].toNat
  code := v[6]

/-- A two-byte argument of the command record. -/
def argWord (v : Vector Byte 16) (i : Nat) : Nat := wordAt v.toList i

end Sys2Proof.Machine
end

