-- ==== Sys2Proof/Machine/Internal.lean ====
section
/-! DEFINITION. The internal work and the arbiter (R185, R186, R190, R194). -/

namespace Sys2Proof.Machine

/-- The block that raises a transfer (R186). -/
def jobOwner : Job → JobOwner
  | .settingsRead _ | .startupRead _ | .logScan _ _ => .settings
  | .commitRecord _ | .carryRead _ | .carryWrite _ _ | .validate _ => .pages
  | .report _ _ | .logNext | .logWrite _ _ => .report

/-- The memory address of a transfer. -/
def jobAddr : Job → Nat
  | .settingsRead g | .startupRead g => Config.settingsBase + 16 * g
  | .logScan _ a | .commitRecord a | .carryRead a | .validate a => a
  | .carryWrite a _ | .report a _ | .logWrite a _ => a
  | .logNext => 0

/-- The bytes that a write transfer carries. -/
def jobData : Job → List Byte
  | .carryWrite _ l | .report _ l | .logWrite _ l => l
  | _ => []

/-- The job on the M-port with its orphan mark. -/
def jobOnBus (s : State) : Option (Job × Bool) :=
  match s.link.transfer with
  | some t => match t.kind with
    | .job j o => some (j, o)
    | _ => none
  | none => none

/-- R186: a block holds a transfer that has not ended. -/
def ownerBusy (s : State) (o : JobOwner) : Bool :=
  (s.link.internal.any fun j => jobOwner j == o) || (jobOnBus s).any fun j => jobOwner j.1 == o

/-- R185, R186: abandon the transfers that a test picks: those waiting are withdrawn, and with the last of them the internal work's
request, whose ageing count becomes 0 (log 34); one granted runs to its end as an orphan. -/
def abandonJobs (p : Job → Bool) (s : State) : State :=
  let left := s.link.internal.filter fun j => !p j
  s.setLink { s.link with
    internal := left,
    ageI := if left.isEmpty then 0 else s.link.ageI,
    transfer := s.link.transfer.map fun t => match t.kind with
      | .job j o => { t with kind := .job j (o || p j) }
      | _ => t }

/-! ### What each block raises next -/

/-- The settings unit's next transfer: the start-up read, else the log scan, else the re-read. -/
def settingsWant (s : State) : Option Job :=
  match s.settings.startup with
  | .drainWait | .pause _ _ => none
  | .reading _ => some (.startupRead ((s.settings.reading.getD []).length / 16))
  | .done | .scanning =>
    match s.settings.scan, reportBase s.settings.inForce.traffic with
    | some x, some b => some (.logScan x.slot (b + 64 + 16 * x.slot))
    | _, _ => s.settings.reading.map fun l => .settingsRead (l.length / 16)

/-- The plan page unit's next transfer (R147, R149, R150). -/
def pagesWant (s : State) : Option Job :=
  match s.pages.swap with
  | none => none
  | some w =>
    match w.phase with
    | .record => some (.commitRecord (stagingBase s + 0xF0))
    | .carryHeader | .carrySteps =>
      match w.carry with
      | none => some (.carryRead (pageBase s s.pages.active + w.offset))
      | some l => some (.carryWrite (stagingBase s + w.offset) l)
    | .validate => some (.validate (stagingBase s + w.offset))

/-- R194: the report unit's next transfer: a granule of a write under way, else a log entry, else the first granule of a PENDING
write. -/
def reportWant (s : State) : Option Job :=
  match started s && s.report.ring == .ready, reportBase s.settings.inForce.traffic with
  | true, some b =>
    match s.report.write with
    | .writing image g => some (.report (b + 16 * g) ((image.drop (16 * g)).take 16))
    | .idle => if s.report.queue.isEmpty then none else some .logNext
    | .pending =>
      if s.report.queue.isEmpty then some (.report b ((reportImage s (s.report.seq + 1)).take 16)) else some .logNext
  | _, _ => none

/-- R190: raising the first granule of a PENDING write spends the next report sequence and freezes the image. -/
def freezeReport (s : State) : State :=
  match s.report.write, reportWant s with
  | .pending, some (.report _ _) =>
    s.setReport { s.report with seq := s.report.seq + 1, write := .writing (reportImage s (s.report.seq + 1)) 0 }
  | _, _ => s

/-- A free order of at most three transfers. -/
def arrange (n : Nat) : List Job → List Job
  | [a, b] => if n % 2 = 0 then [a, b] else [b, a]
  | [a, b, c] =>
    match n % 6 with
    | 0 => [a, b, c]
    | 1 => [a, c, b]
    | 2 => [b, a, c]
    | 3 => [b, c, a]
    | 4 => [c, a, b]
    | _ => [c, b, a]
  | l => l

/-- A block's next transfer unless one of its own has not ended. -/
def wantOf (s : State) (o : JobOwner) (want : Option Job) : List Job := if ownerBusy s o then [] else want.toList

/-- R186: the blocks raise their next transfers; two that raise together enter the list in either order (log 1). -/
def raiseJobs (s : State) : State :=
  let jobs := wantOf s .settings (settingsWant s) ++ wantOf s .pages (pagesWant s) ++ wantOf s .report (reportWant s)
  let t := if ownerBusy s .report then s else freezeReport s
  let t := if jobs.length ≤ 1 then t else nextChoice t
  t.setLink { t.link with internal := t.link.internal ++ arrange (Config.order s.choices) jobs }

/-! ### The arbiter (R185) -/

/-- The waiting requesters in the fixed order. -/
def waitingRequesters (s : State) : List Requester :=
  (if (portRequest s .d).isSome then [.dport] else []) ++ (if s.link.internal.isEmpty then [] else [.internal]) ++
    (if (portRequest s .c).isSome then [.cport] else [])

/-- The ageing count of a requester. -/
def ageOf (l : MemoryLink) : Requester → Nat
  | .dport => l.ageD
  | .internal => l.ageI
  | .cport => l.ageC

/-- R185: an aged requester first, else the fixed order. -/
def chosen (s : State) : Option Requester :=
  match (waitingRequesters s).find? fun r => decide (4 ≤ ageOf s.link r) with
  | some r => some r
  | none => (waitingRequesters s).head?

/-- R185: the ageing count of a requester after a grant. -/
def ageAfter (s : State) (granted r : Requester) : Nat :=
  if r = granted then 0 else if r ∈ waitingRequesters s then ageOf s.link r + 1 else ageOf s.link r

/-- The transfer of a granted job. -/
def jobTransfer (s : State) (j : Job) : Transfer where
  who := .internal
  kind := .job j false
  addr := jobAddr j
  data := 0
  busy := true
  count := 0
  closing := false
  retries := 0
  since := s.now

/-- R194: a granted log transfer takes the oldest entry, the next sequence and the next slot. -/
def takeEntry (s : State) : State × Option Transfer :=
  match s.report.queue, reportBase s.settings.inForce.traffic with
  | e :: rest, some b =>
    (s.setReport { s.report with
      queue := rest, nextSeq := s.report.nextSeq + 1, nextSlot := (s.report.nextSlot + 1) % 16 },
     some (jobTransfer s (.logWrite (b + 64 + 16 * s.report.nextSlot) (entryBytes e s.report.nextSeq))))
  | _, _ => (s, none)

/-- The transfer that a grant gives. -/
def grantedTransfer (s : State) (r : Requester) : State × Option Transfer :=
  match r with
  | .dport => (s, portRequest s .d)
  | .cport => (s, portRequest s .c)
  | .internal =>
    match s.link.internal with
    | [] => (s, none)
    | .logNext :: rest => takeEntry (s.setLink { s.link with internal := rest })
    | j :: rest => (s.setLink { s.link with internal := rest }, some (jobTransfer s j))

/-- R183, R185: grant the M-port; a transfer that begins takes the speed in force, 400 kHz during start-up. -/
def grant (r : Requester) (s : State) : State :=
  let x := grantedTransfer s r
  x.1.setLink { x.1.link with
    transfer := x.2, ageD := ageAfter s r .dport, ageI := ageAfter s r .internal, ageC := ageAfter s r .cport,
    fast := started s && s.settings.inForce.traffic.fast }

/-- R185: grant a free M-port to a waiting requester. -/
def arbitrate (s : State) : State :=
  match s.link.transfer, chosen s with
  | none, some r => grant r s
  | _, _ => s

/-! ### The end of an internal transfer -/

/-- A job on the M-port that a test picks ends: a write is stored, the grant released, and its block acts unless it has
abandoned it. -/
def completeJob (p : Job → Bool) (act : Job → State → State) (s : State) : State :=
  match jobOnBus s with
  | some (j, orphan) =>
    if p j then
      let t := setTransfer (storeBytes s (jobAddr j) (jobData j)) none
      if orphan then t else act j t
    else s
  | none => s

/-- R190: a granule of the report record has been written. -/
def granuleWritten (s : State) : State :=
  match s.report.write with
  | .writing image g =>
    if g < 3 then s.setReport { s.report with write := .writing image (g + 1) }
    else s.setReport { s.report with write := if s.report.again then .pending else .idle, again := false }
  | _ => s

/-- R190: a granule of the report record failed: the write is abandoned. -/
def granuleFailed (s : State) : State :=
  s.setReport { s.report with write := if s.report.again then .pending else .idle, again := false }

/-- R203: abandon a report write in WRITING, its sequence spent, and withdraw the report unit's transfers. The again
flag of such a write is cleared (the model's choice, log 88). -/
def abandonReport (s : State) : State :=
  let t := abandonJobs (fun j => jobOwner j == .report) s
  match t.report.write with
  | .writing _ _ => t.setReport { t.report with write := .pending, again := false }
  | _ => t

end Sys2Proof.Machine
end

