-- ==== Sys2Proof/Machine/Pages.lean ====
section
/-! DEFINITION. The plan page unit: commits, the swap and the flip (chapter 8). -/

namespace Sys2Proof.Machine

/-- R156: a commit result is stored, is a trigger, and is logged. -/
def commitResult (r : CommitResult) (check : Nat) (step : Option Nat) (id : Option Word16) (s : State) : State :=
  askLog (.commit r check step id)
    (trigger (s.setPages { s.pages with result := r, check := check, stepIndex := step }))

/-- The swap ends with a result. -/
def endSwap (r : CommitResult) (check : Nat) (step : Option Nat) (id : Option Word16) (s : State) : State :=
  commitResult r check step id (s.setPages { s.pages with swap := none })

/-- R147: a commit is taken, or refused as BUSY. -/
def takeCommit (s : State) : State :=
  if swapBusy s then commitResult .busy 0 none none s
  else s.setPages { s.pages with swap := some {
    phase := .record, offset := 0, headerCarry := false, stepsCarry := false, amend := false, noted := none, carry := none,
    bytes := [] } }

/-- Change the swap record. -/
def setSwap (s : State) (w : Swap) : State := s.setPages { s.pages with swap := some w }

/-- R148: the commit record has been read. -/
def commitRecordDone (l : List Byte) (s : State) : State :=
  match s.pages.swap with
  | none => s
  | some w =>
    let header := byteAt l 1 != 0
    let steps := byteAt l 2 != 0
    let amend := byteAt l 3 != 0
    if planUnderWay s ∧ !amend then endSwap .refusedRunning 0 none none s
    else
      setSwap s { w with
        headerCarry := header, stepsCarry := steps, amend := amend,
        noted := if planUnderWay s then some s.runner.plan.identity else none,
        phase := if header then .carryHeader else if steps then .carrySteps else .validate,
        offset := if header then 0 else if steps then 0x20 else 0 }

/-- R149: a granule of the active page has been read. -/
def carryReadDone (l : List Byte) (s : State) : State :=
  match s.pages.swap with
  | none => s
  | some w => setSwap s { w with carry := some l }

/-- R149: a granule has been written into staging; the next granule or phase follows. -/
def carryWriteDone (s : State) : State :=
  match s.pages.swap with
  | none => s
  | some w =>
    let next := w.offset + 16
    if w.phase = .carryHeader ∧ next = 0x20 then
      if w.stepsCarry then setSwap s { w with carry := none, phase := .carrySteps, offset := 0x20 }
      else setSwap s { w with carry := none, phase := .validate, offset := 0 }
    else if next = 0xE0 then setSwap s { w with carry := none, phase := .validate, offset := 0 }
    else setSwap s { w with carry := none, offset := next }

/-- R152: the flip. -/
def flip (l : List Byte) (s : State) : State :=
  let t := s.setPages { s.pages with active := otherPage s.pages.active, valid := true }
  let t := t.setRunner { t.runner with plan := planOf l }
  endSwap .swapped 0 none (some (planOf l).identity) t

/-- R150, R151, R153: the last validation read has completed: the checks, the refusal at the flip, or the flip. -/
def validatePage (noted : Option Word16) (l : List Byte) (s : State) : State :=
  let id := (planOf l).identity
  let needed := if planUnderWay s then some (s.runner.doseUsed + outstanding s.dosing fun _ => true) else none
  match planCheck s.settings.inForce l needed with
  | some (k, i) => endSwap .rejected k i (some id) s
  | none =>
    if planUnderWay s ∧ noted ≠ some id then endSwap .refusedRunning 0 none (some id) s
    else flip l s

/-- R150: a validation read has completed. -/
def validationDone (l : List Byte) (s : State) : State :=
  match s.pages.swap with
  | none => s
  | some w =>
    let bytes := w.bytes ++ l
    if w.offset + 16 = 0xE0 then validatePage w.noted bytes s
    else setSwap s { w with bytes := bytes, offset := w.offset + 16 }

/-- R155, R156: a transfer of the swap failed; the identity is known once the header has been read for validation (log 23). -/
def swapFailed (s : State) : State :=
  match s.pages.swap with
  | none => s
  | some w =>
    endSwap .memory 0 none
      (if w.phase = .validate ∧ 16 ≤ w.bytes.length then some (planOf w.bytes).identity else none) s

/-- R158: the plan page unit at an adoption, from the traffic settings that were in force. -/
def adoptPages (old : TrafficSettings) (s : State) : State :=
  let new := s.settings.inForce.traffic
  if old.pageA ≠ new.pageA ∨ old.pageB ≠ new.pageB then
    s.setPages { s.pages with active := .a, valid := false }
  else if s.runner.plan.steps.any fun p => (stepSettingsCheck s.settings.inForce p).isSome then
    s.setPages { s.pages with valid := false }
  else s

end Sys2Proof.Machine
end

