-- ==== Sys2Proof/Machine/Startup.lean ====
section
/-! DEFINITION. The settings unit: re-reads, adoption, start-up, the log scan, and both resets (chapter 12). -/

namespace Sys2Proof.Machine

/-- R197: the settings status with its check number; a change is a trigger. -/
def setStatus (st : SettingsStatus) (check : Nat) (s : State) : State :=
  if s.settings.status = st ∧ s.settings.check = check then s
  else trigger (s.setSettings { s.settings with status := st, check := check })

/-- R200: the conditions of an adoption. -/
def mayAdopt (s : State) : Bool :=
  waitsForQuiet s && s.cport.txn == .idle && s.dport.txn == .idle && s.cport.post.isEmpty && s.dport.post.isEmpty

/-- R170: the last fresh adoption against the new age limit; an expiry at an adoption trips nothing. -/
def adoptAge (s : State) : State :=
  if s.tel.running ∧ s.tel.lastFresh.any fun t => decide (s.settings.inForce.governor.ageLimit * 1000 ≤ since s t) then
    s.setTel { s.tel with running := false }
  else s

/-- R189: a changed report period restarts the timer. -/
def adoptPeriod (old : Settings) (s : State) : State :=
  if started s ∧ old.reportPeriod ≠ s.settings.inForce.reportPeriod then
    s.setReport { s.report with periodStart := some s.now }
  else s

/-- The test that picks a log scan read. -/
def isScan : Job → Bool
  | .logScan _ _ => true
  | _ => false

/-- The test that picks a re-read. -/
def isReread : Job → Bool
  | .settingsRead _ => true
  | _ => false

/-- R203: the report unit at an adoption that adds, moves or removes the REPORT window. -/
def adoptRing (old : Settings) (s : State) : State :=
  if started s ∧ reportBase old.traffic ≠ reportBase s.settings.inForce.traffic then
    let t := abandonReport (abandonJobs isScan s)
    match reportBase s.settings.inForce.traffic with
    | none => (t.setReport { t.report with ring := .noWindow }).setSettings { t.settings with scan := none }
    | some _ =>
      (t.setReport { t.report with ring := .scanning }).setSettings { t.settings with scan := some { slot := 0, found := [] } }
  else s

/-- R201: every block takes the new settings; the report unit, the log entry, the estimator with the governor, and the line unit
act in a free order (log 1). That the plan page unit, the telemetry age, the timing unit and the report period come before them is the
model's choice (log 96). -/
def adoptSettings (new : Settings) (s : State) : State :=
  let old := s.settings.inForce
  let t := setStatus .adopted 0 (s.setSettings { s.settings with inForce := new, pending := none, restricted := false })
  let t := adoptAge (adoptPages old.traffic t)
  let t := if started s then adoptTiming old.reference t else t
  unordered (adoptRing old)
    (unordered3 (askLog (.settingsAdopted new.checkValue)) (fun u => adoptGovernor (deliver (adoptEstimator u))) adoptLines)
    (adoptPeriod old t)

/-- R199: a re-read begins; one in progress is abandoned. -/
def beginReread (s : State) : State :=
  let t := abandonJobs isReread s
  t.setSettings { t.settings with reading := some [] }

/-- R199: the image of a re-read is judged. -/
def judgeImage (l : List Byte) (s : State) : State :=
  match settingsCheck l with
  | 0 =>
    let t := s.setSettings { s.settings with pending := some l }
    if mayAdopt t then adoptSettings (settingsOf l) t else setStatus .deferred 0 t
  | k =>
    askLog (.settingsRejected k false) (setStatus .rejected k (s.setSettings { s.settings with pending := none }))

/-- R199: a granule of a re-read has been read. -/
def rereadDone (l : List Byte) (s : State) : State :=
  match s.settings.reading with
  | none => s
  | some bytes =>
    if bytes.length + 16 < 512 then s.setSettings { s.settings with reading := some (bytes ++ l) }
    else judgeImage (bytes ++ l) (s.setSettings { s.settings with reading := none })

/-- R200: adopt the pending image when the conditions hold. -/
def adoptPending (s : State) : State :=
  match s.settings.pending with
  | some l => if mayAdopt s then adoptSettings (settingsOf l) s else s
  | none => s

/-! ### Start-up (R202 to R204) -/

/-- R202: start-up ends: the ports open, the sources search, L0 and L1 are driven, the period timer starts; after a RESTART its
entry is asked for. -/
def openDevice (s : State) : State :=
  let t := driveAsked (openTiming s)
  let t := t.setReport { t.report with periodStart := some t.now }
  let t := if s.settings.restarting then askLog (.restart t.report.drops) t else t
  trigger (t.setSettings { t.settings with startup := .done, restarting := false, reading := none })

/-- R202, R203: after the settings are settled: the log scan, or the opening where it is skipped. The entry of the adoption or of the
rejection has joined the queue before, also where the table has no REPORT window (the model's reading, log 89). -/
def afterSettings (s : State) : State :=
  match reportBase s.settings.inForce.traffic with
  | some _ =>
    if s.settings.restarting then openDevice s
    else s.setSettings { s.settings with startup := .scanning, reading := none, scan := some { slot := 0, found := [] } }
  | none =>
    let t := if s.settings.restarting then s else s.setReport { s.report with nextSlot := 0, nextSeq := 1 }
    openDevice (t.setReport { t.report with ring := .noWindow })

/-- R202: start-up goes on in restricted mode with a check number. -/
def startRestricted (check : Nat) (s : State) : State :=
  askLog (.settingsRejected check true) (setStatus .restricted check s)

/-- R202: the start-up image is judged. -/
def judgeStartup (l : List Byte) (s : State) : State :=
  match settingsCheck l with
  | 0 => afterSettings (adoptSettings (settingsOf l) s)
  | k => afterSettings (startRestricted k s)

/-- R202: a granule of the start-up read has been read. -/
def startupReadDone (l : List Byte) (s : State) : State :=
  let bytes := s.settings.reading.getD [] ++ l
  if bytes.length < 512 then s.setSettings { s.settings with reading := some bytes } else judgeStartup bytes s

/-- R202: a start-up read has failed: a retry after 10 ms, or restricted mode after the tenth. -/
def startupFailed (s : State) : State :=
  match s.settings.startup with
  | .reading n =>
    if n < Config.startupRetries then
      s.setSettings { s.settings with startup := .pause n s.now, reading := none }
    else
      let t := startRestricted 0 s
      let t := if t.settings.restarting then t else t.setReport { t.report with nextSlot := 0, nextSeq := 1 }
      openDevice t
  | _ => s

/-- R202: 10 ms after a failed start-up read it begins again. -/
def startupRetry (s : State) : State :=
  match s.settings.startup with
  | .pause n t =>
    if Config.startupPause ≤ since s t then
      s.setSettings { s.settings with startup := .reading (n + 1), reading := some [] }
    else s
  | _ => s

/-- R203: one sequence is newer than another. -/
def newerSeq (a b : Word32) : Bool := within (a - b).toNat 1 2147483647

/-- R203: the newest of the entries that count, in slot order. -/
def newestEntry (l : List (Nat × Word32)) : Option (Nat × Word32) :=
  match l.find? fun e => l.all fun f => !newerSeq f.2 e.2 with
  | some e => some e
  | none => l.foldl (fun o e => match o with
    | none => some e
    | some x => if x.2 < e.2 then some e else some x) none

/-- R203: the scan ends: the log position is set, and at start-up the device opens. -/
def endScan (l : List (Nat × Word32)) (s : State) : State :=
  let t := s.setSettings { s.settings with scan := none }
  let t := match newestEntry l with
    | some e => t.setReport { t.report with nextSlot := (e.1 + 1) % 16, nextSeq := e.2 + 1, ring := .ready }
    | none => t.setReport { t.report with nextSlot := 0, nextSeq := 1, ring := .ready }
  if s.settings.startup = .scanning then openDevice t else t

/-- R203: a slot has been read (or its read has failed, and it is EMPTY): the scan goes on or ends. -/
def slotScanned (l : List Byte) (s : State) : State :=
  match s.settings.scan with
  | none => s
  | some x =>
    let found := if byteAt l 4 = 0 then x.found else x.found ++ [(x.slot, BitVec.ofNat 32 (longAt l 0))]
    if x.slot < 15 then s.setSettings { s.settings with scan := some { slot := x.slot + 1, found := found } }
    else endScan found s

/-! ### Resets (R187, R202, R204 and each chapter's reset values) -/

/-- R187: what a hard reset leaves of the transfer in progress: the bytes that a cut-off internal write had had acknowledged. -/
def cutOffWrite (acked : Nat) (s : State) : State :=
  match jobOnBus s with
  | some (j, _) => storeBytes s (jobAddr j) ((jobData j).take acked)
  | none => s

/-- R202: hard reset. -/
def resetHard (straps : Fin 4) (levels : BitVec 8) (acked : Nat) (s : State) : State :=
  { State.reset with
    now := s.now, mem := (cutOffWrite acked s).mem, choices := s.choices, pending := s.pending,
    lines := .reset levels, link := .reset straps s.now }

/-- R187: the transfer in progress at a RESTART completes or fails: its block or port has let it go. -/
def letGo (t : Transfer) : Transfer :=
  match t.kind with
  | .job j _ => { t with kind := .job j true }
  | .drain _ => t
  | .burst | .read => { t with closing := true }

/-- R187, R204: RESTART: every block takes its reset values but for what the RESTART keeps. A hand-over that its owner has not acted
on yet is dropped (the model's choice, log 79), and a log scan still in progress is dropped with its ring taken as ready at the position
that stands (the model's choice, log 90). -/
def resetSoft (levels : BitVec 8) (s : State) : State :=
  { State.reset with
    now := s.now, mem := s.mem, choices := s.choices, pending := s.pending,
    dosing := .reset s.dosing.nextNumber, lines := .reset levels,
    cport := .reset s.cport.post, dport := .reset s.dport.post,
    link := { s.link with
      transfer := s.link.transfer.map letGo, ageD := 0, ageI := 0, ageC := 0, internal := [] },
    settings := .reset .drainWait true,
    cmd := s.cmd,
    report := { s.report with
      latches := 0, begun := [], seq := 0, write := .pending, again := false, periodStart := none, ring := .ready } }

/-- R204: the settings read of a RESTART begins once both post buffers are empty. -/
def leaveDrainWait (s : State) : State :=
  if s.settings.startup = .drainWait ∧ s.cport.post = [] ∧ s.dport.post = [] then
    s.setSettings { s.settings with startup := .reading 0, reading := some [] }
  else s

/-! ### Failed transfers (R184) -/

/-- R184, R199, R203, R155, R190: what a failed internal transfer means for its block. -/
def jobFailed (j : Job) (s : State) : State :=
  match j with
  | .settingsRead _ => s.setSettings { s.settings with reading := none }
  | .startupRead _ => startupFailed s
  | .logScan _ _ => slotScanned [] s
  | .commitRecord _ | .carryRead _ | .carryWrite _ _ | .validate _ => swapFailed s
  | .report _ _ => granuleFailed s
  | .logNext | .logWrite _ _ => s

/-- R181: a failed drain loses the entries it took at its grant, or at a data byte the one entry, and raises
POSTED_WRITE_LOST. -/
def drainFailed (p : Port) (taken : Nat) (cause : FailCause) (s : State) : State :=
  let lost := match cause with
    | .dataByte _ => 1
    | _ => taken
  raiseFault .postedWriteLost (setPort s p { portOf s p with post := (portOf s p).post.drop lost })

/-- R184: the byte of a port's burst or read failed. -/
def byteFailed (p : Port) (s : State) : State :=
  match (portOf s p).stretch with
  | some x =>
    match x.what with
    | .held _ _ => refuseWrite p s
    | .read _ => refuseRead p s
    | _ => s
  | none => s

/-- R184: whether a cause can befall a transfer now: the device address after the third repetition, the memory address before any
byte, a data byte that the M-port sends. -/
def causeFits (t : Transfer) (cause : FailCause) : Bool :=
  t.busy &&
    match cause with
    | .deviceAddress => t.count == 0 && t.retries == Config.retryMax
    | .memoryAddress => t.count == 0
    | .dataByte acked =>
      match t.kind with
      | .job j _ => decide (acked < (jobData j).length)
      | .read => false
      | .burst | .drain _ => acked == t.count

/-- R184, R194: what a write leaves in memory that fails at a data byte: the bytes acknowledged before it; of a log entry none, for its
slot keeps the entry it held before (which of the two rules holds there is the model's reading, log 87). -/
def leftByFailure (j : Job) (acked : Nat) : List Byte :=
  match j with
  | .logWrite _ _ => []
  | _ => (jobData j).take acked

/-- R184: what a failed internal transfer leaves in memory; one that fails at an address byte leaves nothing. -/
def partialWrite (j : Job) (cause : FailCause) (s : State) : State :=
  match cause with
  | .dataByte acked => storeBytes s (jobAddr j) (leftByFailure j acked)
  | .deviceAddress | .memoryAddress => s

/-- R184: a transfer on the M-port fails. -/
def failTransfer (cause : FailCause) (s : State) : State :=
  match s.link.transfer with
  | none => s
  | some t =>
    if causeFits t cause then
      let u := raiseFault .memoryFault (setTransfer s none)
      match t.kind, portOfRequester t.who with
      | .job j orphan, _ =>
        let u := partialWrite j cause u
        if orphan then u else jobFailed j u
      | .drain taken, some p => drainFailed p taken cause u
      | .burst, some p | .read, some p => if t.carries then byteFailed p u else u
      | _, none => u
    else s

end Sys2Proof.Machine
end

