-- ==== Sys2Proof/Machine/Telemetry.lean ====
section
/-! DEFINITION. The telemetry checks: adoption, age, drive state and the speed cross-check (chapter 9). -/

namespace Sys2Proof.Machine

/-- R172: the two speeds disagree. -/
def speedsDisagree (drive measured : Nat) : Bool := decide (max 30 (measured / 10) < absDiff drive measured)

/-- R172: both counts become 0. -/
def clearCrossCounts (s : State) : State := s.setTel { s.tel with disagree := 0, agree := 0 }

/-- R172: the condition takes a value and both counts become 0; a standing condition is raised, and either is handed to the
dosing unit (R101). -/
def setStanding (standing : Bool) (s : State) : State :=
  let t := s.setTel { s.tel with standing := standing, disagree := 0, agree := 0 }
  if standing then passCheck (raiseFault .referenceDisagree t) else t

/-- R172: one comparison, with its result. -/
def crossCount (disagrees : Bool) (s : State) : State :=
  if s.tel.standing then
    if disagrees then s.setTel { s.tel with agree := 0 }
    else if s.tel.agree + 1 = 8 then setStanding false s
    else s.setTel { s.tel with agree := s.tel.agree + 1 }
  else if disagrees then
    if s.tel.disagree + 1 = 8 then setStanding true s
    else s.setTel { s.tel with disagree := s.tel.disagree + 1 }
  else s.setTel { s.tel with disagree := 0 }

/-- R172: the speed cross-check at a fresh adoption. -/
def crossCheck (drive : Nat) (s : State) : State :=
  match s.timing.sel with
  | none => clearCrossCounts s
  | some _ => crossCount (speedsDisagree drive s.timing.speed) s

/-- R171, R74: the drive-state check; the previous drive state then takes the adopted one. -/
def driveCheck (r : TelRecord) (s : State) : State :=
  let t := s.setTel { s.tel with prevDrive := some r.drive }
  if r.drive = .fault ∧ s.tel.prevDrive ≠ some .fault then deliver (detect .driveFault t) else t

/-- R168, R170: the record is adopted; a fresh one sets the adopted sequence and restarts the age timer. -/
def adoptRecord (r : TelRecord) (fresh : Bool) (s : State) : State :=
  s.setTel { s.tel with
    adopted := some r,
    adoptedSeq := if fresh then some r.seq else s.tel.adoptedSeq,
    lastFresh := if fresh then some s.now else s.tel.lastFresh,
    running := s.tel.running || fresh }

/-- R168 to R172: adopt the telemetry record that the image holds. The hand-overs have no order among them (log 1). -/
def adoptTelemetry (s : State) : State :=
  let r := telemetryOf s.tel.image
  let fresh := decide (s.tel.adoptedSeq ≠ some r.seq)
  unordered3 (takeTorque r.ripple) (driveCheck r) (fun u => if fresh then deliver (crossCheck r.speed u) else u)
    (adoptRecord r fresh s)

/-- R170: the age limit has passed since the last fresh adoption. -/
def ageOver (s : State) : Bool :=
  s.tel.running && s.tel.lastFresh.any fun t => decide (s.settings.inForce.governor.ageLimit * 1000 ≤ since s t)

/-- R170, R74: the timer passes from running to expired; during a run the governor detects TELEMETRY_STALE. -/
def ageExpires (s : State) : State :=
  if ageOver s then
    let t := s.setTel { s.tel with running := false }
    if t.gov.run then detect .telemetryStale t else t
  else s

end Sys2Proof.Machine
end

