-- ==== Sys2Proof/Machine/Commands.lean ====
section
/-! DEFINITION. The command block: taking a command up, and what each command record does (R161 to R167). -/

namespace Sys2Proof.Machine

/-- What a command gives: its result, its refused mask, and the state it leaves. -/
structure Taken where
  result : CmdResult
  mask : Byte
  state : State

/-- A command that passes its tests. -/
def taken (s : State) : Taken := { result := .taken, mask := 0, state := s }

/-- A command that fails a test changes no state outside the command block (R162). -/
def refusedWith (r : CmdResult) (s : State) : Taken := { result := r, mask := 0, state := s }

/-- R161: store the result and the refused mask; the report unit writes the report record. -/
def storeResult (r : CmdResult) (mask : Byte) (s : State) : State :=
  trigger (s.setCmd { s.cmd with result := r, mask := mask })

/-- R161: the image's sequence becomes the last one taken. -/
def markTaken (s : State) : State :=
  (s.setHand { s.hand with command := false }).setCmd { s.cmd with lastSeq := some s.cmd.image[0] }

/-- R161: take up the command record that has been handed over, when its code is the row's. -/
def takeUp (codes : Byte → Bool) (body : State → Taken) (s : State) : State :=
  if s.hand.command && codes s.cmd.image[1] then
    let x := body (markTaken s)
    storeResult x.result x.mask x.state
  else s

/-- R78: START_PLAN may be taken. -/
def mayStart (s : State) : Bool :=
  s.gov.state == .idle && !planUnderWay s && s.pages.valid && !tripLatched s && s.lines.spinPermit.all &&
    !s.settings.restricted && !swapBusy s

/-- R78: the plan starts at step 0. -/
def startPlan (s : State) : Taken :=
  if mayStart s then
    taken (stepEntry 0 (setRunnerState .running (s.setRunner { s.runner with
      stepIndex := 0, retries := 0, doseUsed := 0, endReason := .none })))
  else refusedWith .refusedState s

/-- R83: the governor's part of STOP. -/
def stopGovernor (s : State) : State :=
  if s.gov.state = .idle ∨ s.gov.state = .stopping ∨ s.gov.state = .trip then s else enterStopping (leaveStep s)

/-- R83. -/
def stopPlan (s : State) : Taken :=
  if planUnderWay s then taken (stopGovernor (abortPlan .stopped s)) else refusedWith .refusedState s

/-- R164. -/
def haltNow (s : State) : Taken := taken (detect .halt s)

/-- R82: RESUME may be taken. -/
def mayResume (s : State) : Bool :=
  s.runner.state == .waitResume && s.gov.state == .idle && !tripLatched s && s.lines.spinPermit.all && !swapBusy s

/-- R82. -/
def resumePlan (s : State) : Taken :=
  if mayResume s then taken (stepEntry s.runner.plan.retryTarget (setRunnerState .running s))
  else refusedWith .refusedState s

/-- R96: the state conditions of DOSE. -/
def mayDose (s : State) : Bool :=
  s.settings.inForce.dosing.enable && !s.settings.restricted && s.runner.state == .running && atTarget s &&
    inDosingRange s && decide (s.dosing.queue.length < 8) && s.dosing.drainSeen

/-- R96: the chamber and volume of DOSE are within their limits. -/
def doseFits (k volume : Nat) (s : State) : Bool :=
  if h : k < 4 then
    decide (1 ≤ volume) && decide (volume ≤ remainingCapacity s ⟨k, h⟩) && decide (volume ≤ remainingBudget s)
  else false

/-- R96. -/
def doseNow (s : State) : Taken :=
  let k := s.cmd.image[2].toNat
  let volume := argWord s.cmd.image 3
  if !mayDose s then refusedWith .refusedState s
  else if doseFits k volume s then taken (addOrder .command (Fin.ofNat 4 k) volume false s)
  else refusedWith .refusedArgument s

/-- R97. -/
def cancelDoses (s : State) : Taken := taken (cutQueue .cancel s)

/-- R113, R114. -/
def setLines (s : State) : Taken :=
  let mode := s.cmd.image[2]
  let data := s.cmd.image[3]
  let mask := refusedLines s mode data
  { result := if mask = 0 then .taken else .takenPartial, mask := mask, state := applyLines mode data s }

/-- R165: the accepted bits of a fault mask. -/
def acceptedFaults (s : State) (mask : BitVec 11) : BitVec 11 :=
  if s.gov.state = .idle then mask else mask &&& ~~~tripMask

/-- R165, R191: remove kinds from the fault latch set; a change of the set is a trigger. -/
def clearLatches (mask : BitVec 11) (s : State) : State :=
  if s.report.latches &&& mask = 0 then s
  else trigger (s.setReport { s.report with latches := s.report.latches &&& ~~~mask })

/-- R165. -/
def ackFaults (s : State) : Taken :=
  let word := argWord s.cmd.image 2
  if 2048 ≤ word then refusedWith .refusedArgument s
  else
    let mask := BitVec.ofNat 11 word
    let accepted := acceptedFaults s mask
    { result := if accepted = mask then .taken else if accepted = 0 then .refusedState else .takenPartial,
      mask := 0, state := clearLatches accepted s }

/-- R166. -/
def clearAccess (s : State) : Taken :=
  taken (s.setReport { s.report with accessCount := 0, accessOver := 0, lastAccess := none, begun := [] })

/-- R167: RESTART may be taken. -/
def mayRestart (s : State) : Bool := s.gov.state == .idle && !planUnderWay s

/-- R166: REPORT_NOW asks for a write after its result is stored; storing the result asks for the same write (R161), and the
report unit makes the two requests one (R189). -/
def reportNow (s : State) : Taken := taken s

/-- R162: a code that names no command. -/
def unknownCode (s : State) : Taken := refusedWith .unknownCode s

/-- R167, R204: RESTART stores its result and hands it over, and the block starts up again. -/
def restartNow (levels : BitVec 8) (s : State) : State :=
  if s.hand.command && s.cmd.image[1] == 0x0A then
    let t := markTaken s
    if mayRestart t then resetSoft levels (storeResult .taken 0 t) else storeResult .refusedState 0 t
  else s

end Sys2Proof.Machine
end

