-- ==== Sys2Proof/Machine/Settle.lean ====
section
/-! DEFINITION. What follows every event: estimate updates, held bytes and starts, the arbiter, and the command number. -/

namespace Sys2Proof.Machine

/-! ### Bytes and starts that have waited -/

/-- R146: the swap has ended, so a PLAN_EDIT byte held by it goes on, its stretch counted from its beginning (R178). -/
def releaseEdit (p : Port) (s : State) : State :=
  if swapBusy s then s
  else
    match (portOf s p).stretch with
    | some x =>
      match x.what with
      | .editWrite o v => editWriteOn p o v x.addr x.since s
      | .editRead o => askRead p (stagingBase s + o) x.addr x.since s
      | _ => s
    | none => s

/-- R180: a POSTED byte that waits for room joins the post buffer when there is room. -/
def releasePost (p : Port) (s : State) : State :=
  match (portOf s p).stretch with
  | some x =>
    match x.what with
    | .post target v => if (portOf s p).post.length < Config.postRoom then joinPost p target v s else s
    | _ => s
  | none => s

/-- R200: a held device address is acknowledged once the settings unit no longer waits for quiet. -/
def releaseStart (p : Port) (s : State) : State :=
  match (portOf s p).heldStart with
  | some read => if waitsForQuiet s then s else beginTxn p read s
  | none => s

/-- Everything that has waited on a port and need wait no more. -/
def releasePort (p : Port) (s : State) : State := releaseStart p (releasePost p (releaseEdit p s))

/-- After an event: what has waited goes on, the internal blocks raise their next transfers, and a free M-port is granted
(R146, R180, R185, R186, R200, R204). -/
def settle (s : State) : State := arbitrate (raiseJobs (leaveDrainWait (releasePort .d (releasePort .c s))))

/-! ### The command number (R60) -/

/-- The first four fields of the live command have changed. -/
def liveChanged (a b : Governor) : Bool :=
  a.target != b.target || a.ramp != b.ramp || modeOf a != modeOf b || a.state != b.state

/-- R60: one event that changes any of the first four fields raises the command number by 1. -/
def stamp (old s : State) : State :=
  if liveChanged old.gov s.gov then s.setGov { s.gov with number := s.gov.number + 1 } else s

/-! ### Events -/

/-- An event that happens `dt` µs after the one before it: its own effect, the updates it owes, the command number, and what follows
every event, so that a report image frozen there shows the new number (R60, R190). -/
def event (f : State → State) (dt : Nat) (s : State) : State :=
  let t := advance dt s
  settle (stamp t (deliver (f t)))

/-- An event that resets the governor, and the command number with it (R85). -/
def resetEvent (f : State → State) (dt : Nat) (s : State) : State := settle (deliver (f (advance dt s)))

/-- The only outcome of an event of this block. -/
def done (s : State) : Host.Outcome State Fault Refusal := .next s

end Sys2Proof.Machine
end

