-- ==== Sys2Proof/Machine/CommandEvents.lean ====
section
/-! DEFINITION. The commands of the command record: START_PLAN to UNKNOWN_CODE, each taken up under R161 with its code of
chapter 13. -/

namespace Sys2Proof.Machine

/-- START_PLAN (R78, R163). -/
def execStartPlan (dt : Nat) (s : State) : Host.Outcome State Fault Refusal :=
  done (event (takeUp (fun c => c == 0x01) startPlan) dt s)

/-- STOP (R83). -/
def execStop (dt : Nat) (s : State) : Host.Outcome State Fault Refusal :=
  done (event (takeUp (fun c => c == 0x02) stopPlan) dt s)

/-- HALT (R164). -/
def execHalt (dt : Nat) (s : State) : Host.Outcome State Fault Refusal :=
  done (event (takeUp (fun c => c == 0x03) haltNow) dt s)

/-- RESUME (R82). -/
def execResume (dt : Nat) (s : State) : Host.Outcome State Fault Refusal :=
  done (event (takeUp (fun c => c == 0x04) resumePlan) dt s)

/-- DOSE (R96). -/
def execDose (dt : Nat) (s : State) : Host.Outcome State Fault Refusal :=
  done (event (takeUp (fun c => c == 0x05) doseNow) dt s)

/-- DOSE_CANCEL (R97). -/
def execDoseCancel (dt : Nat) (s : State) : Host.Outcome State Fault Refusal :=
  done (event (takeUp (fun c => c == 0x06) cancelDoses) dt s)

/-- LINES (R113, R114). -/
def execLines (dt : Nat) (s : State) : Host.Outcome State Fault Refusal :=
  done (event (takeUp (fun c => c == 0x07) setLines) dt s)

/-- ACK_FAULTS (R165). -/
def execAckFaults (dt : Nat) (s : State) : Host.Outcome State Fault Refusal :=
  done (event (takeUp (fun c => c == 0x08) ackFaults) dt s)

/-- CLEAR_COUNTS (R166). -/
def execClearCounts (dt : Nat) (s : State) : Host.Outcome State Fault Refusal :=
  done (event (takeUp (fun c => c == 0x09) clearAccess) dt s)

/-- RESTART (R167, R204). -/
def execRestart (dt : Nat) (levels : BitVec 8) (s : State) : Host.Outcome State Fault Refusal :=
  done (resetEvent (restartNow levels) dt s)

/-- REPORT_NOW (R166). -/
def execReportNow (dt : Nat) (s : State) : Host.Outcome State Fault Refusal :=
  done (event (takeUp (fun c => c == 0x0B) reportNow) dt s)

/-- UNKNOWN_CODE (R162): a code that chapter 13 does not list. -/
def execUnknownCode (dt : Nat) (s : State) : Host.Outcome State Fault Refusal :=
  done (event (takeUp (fun c => c == 0x00 || decide (0x0B#8 < c)) unknownCode) dt s)

end Sys2Proof.Machine
end

