-- ==== Sys2Proof/Machine/DosingEvents.lean ====
section
/-! DEFINITION. The pass events of the dosing unit: PASS_START, NOMINAL_OPEN, PASS_CLOSE (R98 to R102). -/

namespace Sys2Proof.Machine

/-- The drum angle has reached a pass angle (R100); no angle is reached while it is invalid. -/
def angleReached (s : State) (a : Nat) : Bool :=
  match drumAngle s with
  | some cur => s.dosing.path.reached cur a
  | none => false

/-- A pass angle has been taken. -/
def takeAngle (a : Nat) (s : State) : State :=
  s.setDosing { s.dosing with path := s.dosing.path.cut ((drumAngle s).getD 0) a 1 }

/-- A pass angle has been taken, and one that coincides with it has not (log 14). -/
def keepAngle (a : Nat) (s : State) : State :=
  s.setDosing { s.dosing with path := s.dosing.path.cut ((drumAngle s).getD 0) a 0 }

/-- R100: the INJECTING head whose opening angle has been reached with no pass in progress. The opening angle is that of the speed in
force now, also for the step of the angle at the pulse that changed the speed (the model's choice, log 78). -/
def startingOrder (s : State) : Option DoseOrder :=
  match s.dosing.queue.head?, s.dosing.pass with
  | some o, none => if o.state = .injecting ∧ angleReached s (openingAngle s o.chamber) = true then some o else none
  | _, _ => none

/-- R100: a pass start: with the pass conditions the pass record is made and FILL driven high; without, the order waits. -/
def passStart (s : State) : State :=
  match startingOrder s with
  | some o =>
    if passConditions s then
      let t := keepAngle (openingAngle s o.chamber) s
      askFill true (t.setDosing { t.dosing with pass := some (passRecordFor s o) })
    else takeAngle (openingAngle s o.chamber) s
  | none => s

/-- R100: the drum angle reaches the nominal open angle of the pass in progress. That a second reaching, after a backward step over it,
does not renew the time of the first is the model's choice (log 94). -/
def nominalOpen (s : State) : State :=
  match s.dosing.pass with
  | some p =>
    if p.nominalAt.isNone ∧ angleReached s p.nominal = true then
      let t := keepAngle p.nominal s
      t.setDosing { t.dosing with pass := some { p with nominalAt := some s.now } }
    else s
  | none => s

/-- R99, R102: the pass in progress is to close: at its closing angle, or 1 ms after its start where its start found the close too
soon. That this is decided once, at the pass start, is the model's choice (log 77). -/
def closeDue (s : State) (p : PassRecord) : Bool :=
  if p.minClose then decide (1000 ≤ since s p.startAt) else angleReached s p.closing

/-- R102: a pass ends with FILL low and its full volume accounted. At a pulse that both passes the closing angle and acts on the dosing
unit otherwise, the row comes after the pulse's other effects (the model's choice, log 83). -/
def passClose (s : State) : State :=
  match s.dosing.pass with
  | some p => if closeDue s p then accountPass p p.volume (askFill false (takeAngle p.closing s)) else s
  | none => s

/-- PASS_START (R100). -/
def execPassStart (dt : Nat) (s : State) : Host.Outcome State Fault Refusal := done (event passStart dt s)

/-- NOMINAL_OPEN (R100). -/
def execNominalOpen (dt : Nat) (s : State) : Host.Outcome State Fault Refusal := done (event nominalOpen dt s)

/-- PASS_CLOSE (R102). -/
def execPassClose (dt : Nat) (s : State) : Host.Outcome State Fault Refusal := done (event passClose dt s)

end Sys2Proof.Machine
end

