-- ==== Sys2Proof/Machine/GovernorEvents.lean ====
section
/-! DEFINITION. The timer events of the spin governor: HOLD_EXPIRY to OVERSPEED_HISTORY_EXPIRY (chapter 4). -/

namespace Sys2Proof.Machine

/-- R69, R79: the hold timer has reached the hold time of the step in hand. -/
def holdDue (s : State) : Bool := s.gov.step.any fun p => heldFor s p.hold

/-- R79, R80. -/
def holdExpiry (s : State) : State := if holdDue s then judgeStep s else s

/-- R65: the band whose wait time has reached the band wait limit. -/
def bandWaitOver (s : State) : Option (Fin 6) :=
  match s.gov.state, s.gov.band with
  | .waitBand, some k => if (govSet s).bandWait * 1000000 ≤ (waitsNow s)[k] then some k else none
  | _, _ => none

/-- R65: the step fails with BAND_REFUSED. -/
def bandWaitExpiry (s : State) : State :=
  match bandWaitOver s with
  | some k => stepFails (.bandRefused k) s
  | none => s

/-- R69: the 5-second mark of a BALANCE step is due. -/
def markDue (s : State) : Bool := (s.gov.step.any fun p => p.kind == .balance) && heldFor s 5 && !s.gov.markFallen

/-- R80: the 5-second mark falls, with the success test. -/
def fiveSecondMark (s : State) : State :=
  if markDue s then balanceTest (s.setGov { s.gov with markFallen := true }) else s

/-- R73: the targets that have been out of force for the overspeed window leave the overspeed history. -/
def trimHistory (s : State) : State :=
  s.setGov { s.gov with history := s.gov.history.filter fun e => decide (since s e.2 < (govSet s).window * 1000000) }

/-- HOLD_EXPIRY (R79). -/
def execHoldExpiry (dt : Nat) (s : State) : Host.Outcome State Fault Refusal := done (event holdExpiry dt s)

/-- BAND_WAIT_EXPIRY (R65). -/
def execBandWaitExpiry (dt : Nat) (s : State) : Host.Outcome State Fault Refusal := done (event bandWaitExpiry dt s)

/-- FIVE_SECOND_MARK (R80). -/
def execFiveSecondMark (dt : Nat) (s : State) : Host.Outcome State Fault Refusal := done (event fiveSecondMark dt s)

/-- OVERSPEED_HISTORY_EXPIRY (R73). -/
def execOverspeedHistoryExpiry (dt : Nat) (s : State) : Host.Outcome State Fault Refusal := done (event trimHistory dt s)

end Sys2Proof.Machine
end

