-- ==== Sys2Proof/Machine/LineEvents.lean ====
section
/-! DEFINITION. The events of the line unit: PIN_LEVEL_CHANGE and ACCEPTED_CHANGE (R111). -/

namespace Sys2Proof.Machine

/-- R111: a pin takes a level from outside. -/
def pinChange (n : Fin 8) (level : Bool) (s : State) : State := setLine s n (s.lines.line[n].withOutside s.now level)

/-- PIN_LEVEL_CHANGE (R111). -/
def execPinLevelChange (dt : Nat) (line : Fin 8) (level : Bool) (s : State) : Host.Outcome State Fault Refusal :=
  done (event (pinChange line level) dt s)

/-- ACCEPTED_CHANGE (R111). -/
def execAcceptedChange (dt : Nat) (line : Fin 8) (s : State) : Host.Outcome State Fault Refusal :=
  done (event (acceptChange line) dt s)

end Sys2Proof.Machine
end

