-- ==== Sys2Proof/Machine/LinkEvents.lean ====
section
/-! DEFINITION. The events of the memory link: MEMORY_DATA_ACK to TRANSFER_FAILED (chapter 10). -/

namespace Sys2Proof.Machine

/-- MEMORY_DATA_ACK (R179, R181). -/
def execMemoryDataAck (dt : Nat) (s : State) : Host.Outcome State Fault Refusal := done (event dataAck dt s)

/-- MEMORY_READ_BYTE (R182). -/
def execMemoryReadByte (dt : Nat) (s : State) : Host.Outcome State Fault Refusal := done (event readBack dt s)

/-- TRANSFER_END (R185). -/
def execTransferEnd (dt : Nat) (s : State) : Host.Outcome State Fault Refusal := done (event endTransfer dt s)

/-- ADDRESS_RETRY (R184). -/
def execAddressRetry (dt : Nat) (s : State) : Host.Outcome State Fault Refusal := done (event retryAddress dt s)

/-- TRANSFER_FAILED (R184). -/
def execTransferFailed (dt : Nat) (cause : FailCause) (s : State) : Host.Outcome State Fault Refusal :=
  done (event (failTransfer cause) dt s)

end Sys2Proof.Machine
end

