-- ==== Sys2Proof/Machine/PageEvents.lean ====
section
/-! DEFINITION. The events of the plan page unit: COMMIT to VALIDATION_READ (chapter 8). -/

namespace Sys2Proof.Machine

/-- R147: a commit that has been handed over is taken or refused. -/
def commitNow (s : State) : State :=
  if s.hand.commit then takeCommit (s.setHand { s.hand with commit := false }) else s

/-- The sixteen bytes that an internal read has brought. -/
def bytesRead (j : Job) (s : State) : List Byte := readBytes s (jobAddr j) 16

/-- The commit record read. -/
def isCommitRecord : Job → Bool
  | .commitRecord _ => true
  | _ => false

/-- A carry-copy read. -/
def isCarryRead : Job → Bool
  | .carryRead _ => true
  | _ => false

/-- A carry-copy write. -/
def isCarryWrite : Job → Bool
  | .carryWrite _ _ => true
  | _ => false

/-- A validation read. -/
def isValidation : Job → Bool
  | .validate _ => true
  | _ => false

/-- COMMIT (R147). -/
def execCommit (dt : Nat) (s : State) : Host.Outcome State Fault Refusal := done (event commitNow dt s)

/-- COMMIT_RECORD_READ (R148). -/
def execCommitRecordRead (dt : Nat) (s : State) : Host.Outcome State Fault Refusal :=
  done (event (completeJob isCommitRecord fun j t => commitRecordDone (bytesRead j t) t) dt s)

/-- CARRY_READ (R149). -/
def execCarryRead (dt : Nat) (s : State) : Host.Outcome State Fault Refusal :=
  done (event (completeJob isCarryRead fun j t => carryReadDone (bytesRead j t) t) dt s)

/-- CARRY_WRITE (R149). -/
def execCarryWrite (dt : Nat) (s : State) : Host.Outcome State Fault Refusal :=
  done (event (completeJob isCarryWrite fun _ => carryWriteDone) dt s)

/-- VALIDATION_READ (R150). -/
def execValidationRead (dt : Nat) (s : State) : Host.Outcome State Fault Refusal :=
  done (event (completeJob isValidation fun j t => validationDone (bytesRead j t) t) dt s)

end Sys2Proof.Machine
end

