-- ==== Sys2Proof/Machine/PortEvents.lean ====
section
/-! DEFINITION. The events of the upstream links: UPSTREAM_START to READ_IDLE (chapters 7 and 10). -/

namespace Sys2Proof.Machine

/-- R176: a start condition with its address byte on an idle port; a port in a transaction takes it as a repeated start. -/
def upstreamStart (p : Port) (addr : BitVec 7) (read : Bool) (s : State) : State :=
  if (portOf s p).heldStart.isSome then s
  else if (portOf s p).txn = .idle then startOn p addr read s
  else restartTxn p addr read s

/-- R177: the end of a transaction; a device address that is still held is let go (R200). -/
def busEnd (p : Port) (s : State) : State :=
  if (portOf s p).heldStart.isSome then setPort s p { portOf s p with heldStart := none, reply := .none } else endTxn p s

/-- UPSTREAM_START (R176). -/
def execUpstreamStart (dt : Nat) (port : Port) (addr : BitVec 7) (read : Bool) (s : State) :
    Host.Outcome State Fault Refusal := done (event (upstreamStart port addr read) dt s)

/-- MEMORY_ADDRESS_BYTE (R177). -/
def execMemoryAddressByte (dt : Nat) (port : Port) (value : Byte) (s : State) : Host.Outcome State Fault Refusal :=
  done (event (addressByte port value) dt s)

/-- WRITE_DATA_BYTE (R128). -/
def execWriteDataByte (dt : Nat) (port : Port) (value : Byte) (s : State) : Host.Outcome State Fault Refusal :=
  done (event (takeWriteByte port value) dt s)

/-- READ_DATA_BYTE (R128). -/
def execReadDataByte (dt : Nat) (port : Port) (s : State) : Host.Outcome State Fault Refusal :=
  done (event (takeReadByte port) dt s)

/-- CONTROLLER_NACK (R177). -/
def execControllerNack (dt : Nat) (port : Port) (s : State) : Host.Outcome State Fault Refusal :=
  done (event (nackRead port) dt s)

/-- REPEATED_START (R177). On a port that waits in IDLE it is the next start condition. -/
def execRepeatedStart (dt : Nat) (port : Port) (addr : BitVec 7) (read : Bool) (s : State) :
    Host.Outcome State Fault Refusal := done (event (upstreamStart port addr read) dt s)

/-- STOP_CONDITION (R140, R177). -/
def execStopCondition (dt : Nat) (port : Port) (s : State) : Host.Outcome State Fault Refusal :=
  done (event (busEnd port) dt s)

/-- R177: a start or stop in the middle of a byte drops the partial byte and ends the transaction. The partial byte is the read byte
last begun, or one of which nothing has reached the port yet (log 68). -/
def midByte (x : PartialByte) (s : State) : State := busEnd x.port (if x.begun then dropPartial x.port s else s)

/-- MID_BYTE_CONDITION (R177). -/
def execMidByteCondition (dt : Nat) (cut : PartialByte) (s : State) : Host.Outcome State Fault Refusal :=
  done (event (midByte cut) dt s)

/-- STRETCH_LIMIT (R178). -/
def execStretchLimit (dt : Nat) (port : Port) (s : State) : Host.Outcome State Fault Refusal :=
  done (event (stretchExpires port) dt s)

/-- HELD_BURST_IDLE (R179). -/
def execHeldBurstIdle (dt : Nat) (port : Port) (s : State) : Host.Outcome State Fault Refusal :=
  done (event (idleClose port .burst) dt s)

/-- READ_IDLE (R182). -/
def execReadIdle (dt : Nat) (port : Port) (s : State) : Host.Outcome State Fault Refusal :=
  done (event (idleClose port .read) dt s)

end Sys2Proof.Machine
end

