-- ==== Sys2Proof/Machine/ReportEvents.lean ====
section
/-! DEFINITION. The events of the report unit: REPORT_PERIOD_EXPIRY to LOG_WRITE (chapter 11). -/

namespace Sys2Proof.Machine

/-- R189: the report period has passed since the timer last started. -/
def periodDue (s : State) : Bool :=
  s.report.periodStart.any fun t => decide (s.settings.inForce.reportPeriod * 1000 ≤ since s t)

/-- R189: the period timer triggers a report write and restarts. -/
def periodExpiry (s : State) : State :=
  if periodDue s then trigger (s.setReport { s.report with periodStart := some s.now }) else s

/-- A granule write of the report record. -/
def isReport : Job → Bool
  | .report _ _ => true
  | _ => false

/-- A log write. -/
def isLogWrite : Job → Bool
  | .logWrite _ _ => true
  | _ => false

/-- REPORT_PERIOD_EXPIRY (R189). -/
def execReportPeriodExpiry (dt : Nat) (s : State) : Host.Outcome State Fault Refusal := done (event periodExpiry dt s)

/-- REPORT_GRANULE_WRITE (R190). -/
def execReportGranuleWrite (dt : Nat) (s : State) : Host.Outcome State Fault Refusal :=
  done (event (completeJob isReport fun _ => granuleWritten) dt s)

/-- LOG_WRITE (R194): the entry is in memory, and the report unit raises its next transfer. -/
def execLogWrite (dt : Nat) (s : State) : Host.Outcome State Fault Refusal :=
  done (event (completeJob isLogWrite fun _ t => t) dt s)

end Sys2Proof.Machine
end

