-- ==== Sys2Proof/Machine/SettingsEvents.lean ====
section
/-! DEFINITION. The events of the settings unit: SETTINGS_REREAD to LOG_SCAN_READ, and hard reset (chapter 12). -/

namespace Sys2Proof.Machine

/-- R199: a check value that has been handed over begins a re-read. -/
def rereadNow (s : State) : State :=
  if s.hand.settings then beginReread (s.setHand { s.hand with settings := false }) else s

/-- A start-up read. -/
def isStartup : Job → Bool
  | .startupRead _ => true
  | _ => false

/-- SETTINGS_REREAD (R199). -/
def execSettingsReread (dt : Nat) (s : State) : Host.Outcome State Fault Refusal := done (event rereadNow dt s)

/-- SETTINGS_READ (R199). -/
def execSettingsRead (dt : Nat) (s : State) : Host.Outcome State Fault Refusal :=
  done (event (completeJob isReread fun j t => rereadDone (readBytes t (jobAddr j) 16) t) dt s)

/-- ADOPTION (R200, R201). -/
def execAdoption (dt : Nat) (s : State) : Host.Outcome State Fault Refusal := done (event adoptPending dt s)

/-- HARD_RESET (R187, R202). -/
def execHardReset (dt : Nat) (straps : Fin 4) (levels : BitVec 8) (acked : Nat) (s : State) :
    Host.Outcome State Fault Refusal := done (resetEvent (resetHard straps levels acked) dt s)

/-- STARTUP_SETTINGS_READ (R202). -/
def execStartupSettingsRead (dt : Nat) (s : State) : Host.Outcome State Fault Refusal :=
  done (event (completeJob isStartup fun j t => startupReadDone (readBytes t (jobAddr j) 16) t) dt s)

/-- STARTUP_READ_RETRY (R202). -/
def execStartupReadRetry (dt : Nat) (s : State) : Host.Outcome State Fault Refusal := done (event startupRetry dt s)

/-- LOG_SCAN_READ (R203). -/
def execLogScanRead (dt : Nat) (s : State) : Host.Outcome State Fault Refusal :=
  done (event (completeJob isScan fun j t => slotScanned (readBytes t (jobAddr j) 16) t) dt s)

end Sys2Proof.Machine
end

