-- ==== Sys2Proof/Machine/TelemetryEvents.lean ====
section
/-! DEFINITION. The events of the telemetry checks: TELEMETRY_ADOPT and TELEMETRY_AGE_EXPIRY (chapter 9). -/

namespace Sys2Proof.Machine

/-- R168: a telemetry record that has been handed over is adopted. -/
def telemetryNow (s : State) : State :=
  if s.hand.telemetry then adoptTelemetry (s.setHand { s.hand with telemetry := false }) else s

/-- TELEMETRY_ADOPT (R168). -/
def execTelemetryAdopt (dt : Nat) (s : State) : Host.Outcome State Fault Refusal := done (event telemetryNow dt s)

/-- TELEMETRY_AGE_EXPIRY (R170). -/
def execTelemetryAgeExpiry (dt : Nat) (s : State) : Host.Outcome State Fault Refusal := done (event ageExpires dt s)

end Sys2Proof.Machine
end

