-- ==== Sys2Proof/Machine/TimingEvents.lean ====
section
/-! DEFINITION. The events of the timing unit and the S-port: INDEX_PULSE to SPORT_READ_COMPLETE (chapters 1 and 2). -/

namespace Sys2Proof.Machine

/-- R2: a pulse on INDEX is rejected as noise with no effect, or accepted. -/
def indexPulse (s : State) : State := if s.timing.index.rejects s.now then s else indexAccepted s

/-- R2: a pulse on COMM is rejected as noise with no effect, or accepted. -/
def commPulse (s : State) : State := if s.timing.comm.rejects s.now then s else commAccepted s

/-- R3: a QUALIFYING source that has been silent returns to SEARCHING. -/
def searchAgain (src : Source) (s : State) : State :=
  if silenceDue s (sourceRec s.timing src) then setSource s src (sourceRec s.timing src).search else s

/-- R6: the rest timer has run for 3 s. -/
def restDue (s : State) : Bool := s.timing.restStart.any fun t => decide (Config.restTime ≤ since s t)

/-- INDEX_PULSE (R2). -/
def execIndexPulse (dt : Nat) (s : State) : Host.Outcome State Fault Refusal := done (event indexPulse dt s)

/-- COMM_PULSE (R13). -/
def execCommPulse (dt : Nat) (s : State) : Host.Outcome State Fault Refusal := done (event commPulse dt s)

/-- QUALIFYING_SILENCE (R3). -/
def execQualifyingSilence (dt : Nat) (src : Source) (s : State) : Host.Outcome State Fault Refusal :=
  done (event (searchAgain src) dt s)

/-- LOSS_DEADLINE (R4). -/
def execLossDeadline (dt : Nat) (src : Source) (s : State) : Host.Outcome State Fault Refusal :=
  done (event (loseSource src) dt s)

/-- REST_TIMER_EXPIRY (R6). -/
def execRestTimerExpiry (dt : Nat) (s : State) : Host.Outcome State Fault Refusal :=
  done (event (fun t => if restDue t then foundAtRest t else t) dt s)

/-- SAMPLE_POINT (R16). -/
def execSamplePoint (dt : Nat) (s : State) : Host.Outcome State Fault Refusal :=
  done (event (fun t => if sampleDue t then samplePointNow t else t) dt s)

/-- SPORT_READ_COMPLETE (R20). -/
def execSportReadComplete (dt : Nat) (frame : SportFrame) (s : State) : Host.Outcome State Fault Refusal :=
  done (event (readComplete frame) dt s)

end Sys2Proof.Machine
end

