-- ==== Sys2Proof/Machine/Dispatch.lean ====
section
/-! DEFINITION. One arm for each command of the table, each one direct call of its meaning. -/

namespace Sys2Proof.Machine

/-- The effect of a command on everything but the queue. -/
def exec (i : Instr) (s : State) : Host.Outcome State Fault Refusal :=
  match i with
  | .indexPulse dt => Sys2Proof.Machine.execIndexPulse dt s
  | .commPulse dt => Sys2Proof.Machine.execCommPulse dt s
  | .qualifyingSilence dt src => Sys2Proof.Machine.execQualifyingSilence dt src s
  | .lossDeadline dt src => Sys2Proof.Machine.execLossDeadline dt src s
  | .restTimerExpiry dt => Sys2Proof.Machine.execRestTimerExpiry dt s
  | .samplePoint dt => Sys2Proof.Machine.execSamplePoint dt s
  | .sportReadComplete dt frame => Sys2Proof.Machine.execSportReadComplete dt frame s
  | .holdExpiry dt => Sys2Proof.Machine.execHoldExpiry dt s
  | .bandWaitExpiry dt => Sys2Proof.Machine.execBandWaitExpiry dt s
  | .fiveSecondMark dt => Sys2Proof.Machine.execFiveSecondMark dt s
  | .overspeedHistoryExpiry dt => Sys2Proof.Machine.execOverspeedHistoryExpiry dt s
  | .passStart dt => Sys2Proof.Machine.execPassStart dt s
  | .nominalOpen dt => Sys2Proof.Machine.execNominalOpen dt s
  | .passClose dt => Sys2Proof.Machine.execPassClose dt s
  | .pinLevelChange dt line level => Sys2Proof.Machine.execPinLevelChange dt line level s
  | .acceptedChange dt line => Sys2Proof.Machine.execAcceptedChange dt line s
  | .upstreamStart dt port addr read => Sys2Proof.Machine.execUpstreamStart dt port addr read s
  | .memoryAddressByte dt port value => Sys2Proof.Machine.execMemoryAddressByte dt port value s
  | .writeDataByte dt port value => Sys2Proof.Machine.execWriteDataByte dt port value s
  | .readDataByte dt port => Sys2Proof.Machine.execReadDataByte dt port s
  | .controllerNack dt port => Sys2Proof.Machine.execControllerNack dt port s
  | .repeatedStart dt port addr read => Sys2Proof.Machine.execRepeatedStart dt port addr read s
  | .stopCondition dt port => Sys2Proof.Machine.execStopCondition dt port s
  | .midByteCondition dt cut => Sys2Proof.Machine.execMidByteCondition dt cut s
  | .stretchLimit dt port => Sys2Proof.Machine.execStretchLimit dt port s
  | .heldBurstIdle dt port => Sys2Proof.Machine.execHeldBurstIdle dt port s
  | .readIdle dt port => Sys2Proof.Machine.execReadIdle dt port s
  | .memoryDataAck dt => Sys2Proof.Machine.execMemoryDataAck dt s
  | .memoryReadByte dt => Sys2Proof.Machine.execMemoryReadByte dt s
  | .transferEnd dt => Sys2Proof.Machine.execTransferEnd dt s
  | .addressRetry dt => Sys2Proof.Machine.execAddressRetry dt s
  | .transferFailed dt cause => Sys2Proof.Machine.execTransferFailed dt cause s
  | .commit dt => Sys2Proof.Machine.execCommit dt s
  | .commitRecordRead dt => Sys2Proof.Machine.execCommitRecordRead dt s
  | .carryRead dt => Sys2Proof.Machine.execCarryRead dt s
  | .carryWrite dt => Sys2Proof.Machine.execCarryWrite dt s
  | .validationRead dt => Sys2Proof.Machine.execValidationRead dt s
  | .telemetryAdopt dt => Sys2Proof.Machine.execTelemetryAdopt dt s
  | .telemetryAgeExpiry dt => Sys2Proof.Machine.execTelemetryAgeExpiry dt s
  | .startPlan dt => Sys2Proof.Machine.execStartPlan dt s
  | .stop dt => Sys2Proof.Machine.execStop dt s
  | .halt dt => Sys2Proof.Machine.execHalt dt s
  | .resume dt => Sys2Proof.Machine.execResume dt s
  | .dose dt => Sys2Proof.Machine.execDose dt s
  | .doseCancel dt => Sys2Proof.Machine.execDoseCancel dt s
  | .lines dt => Sys2Proof.Machine.execLines dt s
  | .ackFaults dt => Sys2Proof.Machine.execAckFaults dt s
  | .clearCounts dt => Sys2Proof.Machine.execClearCounts dt s
  | .restart dt levels => Sys2Proof.Machine.execRestart dt levels s
  | .reportNow dt => Sys2Proof.Machine.execReportNow dt s
  | .unknownCode dt => Sys2Proof.Machine.execUnknownCode dt s
  | .settingsReread dt => Sys2Proof.Machine.execSettingsReread dt s
  | .settingsRead dt => Sys2Proof.Machine.execSettingsRead dt s
  | .adoption dt => Sys2Proof.Machine.execAdoption dt s
  | .hardReset dt straps levels acked => Sys2Proof.Machine.execHardReset dt straps levels acked s
  | .startupSettingsRead dt => Sys2Proof.Machine.execStartupSettingsRead dt s
  | .startupReadRetry dt => Sys2Proof.Machine.execStartupReadRetry dt s
  | .logScanRead dt => Sys2Proof.Machine.execLogScanRead dt s
  | .reportPeriodExpiry dt => Sys2Proof.Machine.execReportPeriodExpiry dt s
  | .reportGranuleWrite dt => Sys2Proof.Machine.execReportGranuleWrite dt s
  | .logWrite dt => Sys2Proof.Machine.execLogWrite dt s

end Sys2Proof.Machine
end

