-- ==== Sys2Proof/Safety.lean ====
section
/-! DEFINITION. The safety properties of the block: what every step is meant to keep. -/

namespace Sys2Proof.Safety

open Sys2Proof.Machine

/-- A step that stops has failed; the block is safe when every step has a next state. -/
def Proceeds (s : State) : Prop := ∃ t, step s = .next t

/-- The FRAM is in its canonical form (log 8). -/
def memoryForm (s : State) : Bool := Memory.wf s.mem

/-- The bounded lists keep their bounds: the log queue 8 (R194), each post buffer 32 (R180), the S-port waiting list 4 (R20) and
the revolution window 16 (R28). -/
def buffersBounded (s : State) : Bool :=
  decide (s.report.queue.length ≤ 8) && decide (s.cport.post.length ≤ Config.postRoom) &&
    decide (s.dport.post.length ≤ Config.postRoom) && decide (s.est.waiting.length ≤ 4) &&
    decide (s.est.window.length ≤ 16)

/-- The law of the queue (R91, R92): at most 8 orders; the head is INJECTING or SETTLING, every order behind it QUEUED. -/
def queueLaw (s : State) : Bool :=
  decide (s.dosing.queue.length ≤ 8) &&
    match s.dosing.queue with
    | [] => true
    | o :: rest => o.state != .queued && rest.all fun x => x.state == .queued

/-- The law of the orders (R98 to R101): no order has more injected than ordered, and a pass in progress belongs to an INJECTING
head that has room for its volume, with the governor in HOLD or BALANCE. -/
def orderLaw (s : State) : Bool :=
  (s.dosing.queue.all fun o => decide (o.injected ≤ o.ordered)) &&
    match s.dosing.pass with
    | none => true
    | some p =>
      match s.dosing.queue with
      | o :: _ => o.state == .injecting && decide (o.injected + p.volume ≤ o.ordered) && atTarget s
      | [] => false

/-- In IDLE, STOPPING and TRIP the granted target is 0 (R60) and no step is in hand (R63, R72, R83). -/
def restLaw (s : State) : Bool :=
  match s.gov.state with
  | .idle | .stopping | .trip => s.gov.target == 0 && s.gov.step.isNone
  | _ => true

/-- L0 and L1 are outputs (R109); the owner of L0 has last asked for high exactly while a pass is in progress (R100 to R102) and
the owner of L1 exactly while the governor is not IDLE (R61); outside start-up each latch is at the level asked for (R110). -/
def lineLaw (s : State) : Bool :=
  s.lines.line[0].output && s.lines.line[1].output &&
    (s.lines.askFill.getD false == s.dosing.pass.isSome) && (s.lines.askLock == some (s.gov.state != .idle)) &&
    (!started s ||
      ((s.lines.line[0].latch == s.dosing.pass.isSome) && (s.lines.line[1].latch == (s.gov.state != .idle))))

end Sys2Proof.Safety
end

