-- ==== Sys2Proof/Certificates/Slice0/Obligations.lean ====
section
/-! DEFINITION. The statements for the provers. Each says what the block does at one kind of event, or what every event keeps.

`s.est.owed = false` (no estimate update is left over from an earlier event) is a premise of the statements that say what an event
leaves unchanged; Obligations.EveryCommandProceeds states that every event ends so. -/

namespace Sys2Proof.Statement

open Sys2Proof.Machine

/-- The pulse event of a source. -/
def pulse : Source → Nat → Instr
  | .index, dt => .indexPulse dt
  | .comm, dt => .commPulse dt

/-- Every byte of the FRAM reads as before. -/
def MemoryKept (s t : State) : Prop := ∀ a, readByte t a = readByte s a

/-- The blocks that run the machine are as before. -/
def MachineKept (s t : State) : Prop :=
  t.timing = s.timing ∧ t.est = s.est ∧ t.gov = s.gov ∧ t.runner = s.runner ∧ t.dosing = s.dosing ∧ t.lines = s.lines

/-- The settings and their status are as before. -/
def SettingsKept (s t : State) : Prop :=
  t.settings.inForce = s.settings.inForce ∧ t.settings.restricted = s.settings.restricted ∧
    t.settings.pending = s.settings.pending ∧ t.settings.status = s.settings.status ∧ t.settings.check = s.settings.check ∧
    t.settings.scan = s.settings.scan

/-- The page mapping, the swap record, the copy's validity and the commit result are as before. -/
def PagesKept (s t : State) : Prop :=
  t.pages.active = s.pages.active ∧ t.pages.swap = s.pages.swap ∧ t.pages.valid = s.pages.valid ∧
    t.pages.result = s.pages.result ∧ t.pages.check = s.pages.check ∧ t.pages.stepIndex = s.pages.stepIndex

/-- The fault latch set is as before. -/
def LatchesKept (s t : State) : Prop := t.report.latches = s.report.latches

/-- The access fault count and the last access fault are as before. -/
def AccessKept (s t : State) : Prop :=
  t.report.accessCount = s.report.accessCount ∧ t.report.lastAccess = s.report.lastAccess

/-- The command block, the telemetry checks and the hand-overs are as before. -/
def RecordsKept (s t : State) : Prop := t.cmd = s.cmd ∧ t.tel = s.tel ∧ t.hand = s.hand

/-- The commands that may store to the FRAM. -/
def mayStore : Instr → Bool
  | .memoryDataAck _ | .transferFailed _ _ | .carryWrite _ | .reportGranuleWrite _ | .logWrite _ | .hardReset _ _ _ _ => true
  | _ => false

end Sys2Proof.Statement

open Sys2Proof Sys2Proof.Machine Sys2Proof.Safety Sys2Proof.Statement

/-! ### The block as a whole -/

/-- A step runs the command at the front of the queue with the queue's rest; on an empty queue the block idles (the model's choice,
log 9). -/
def Obligations.StepRunsFrontCommand : Prop :=
  (∀ (c : Instr) (rest : List Instr) (s : State), step (s.setPending (c :: rest)) = exec c (s.setPending rest)) ∧
  ∀ s : State, s.pending = [] → step s = .next s

/-- Every command has a next state; it leaves the queue, lets its own time pass (log 4) and hands on every estimate update
(R36, log 5). -/
def Obligations.EveryCommandProceeds : Prop :=
  ∀ (c : Instr) (s : State),
    ∃ t, exec c s = .next t ∧ t.pending = s.pending ∧ t.now = s.now + c.dt ∧ t.est.owed = false

/-- The laws of Safety.lean hold right after reset. -/
def Obligations.ResetIsSafe : Prop :=
  memoryForm State.reset = true ∧ buffersBounded State.reset = true ∧ queueLaw State.reset = true ∧
    orderLaw State.reset = true ∧ restLaw State.reset = true ∧ lineLaw State.reset = true

/-- Every step keeps the FRAM in its canonical form (log 8). -/
def Obligations.MemoryFormKept : Prop :=
  ∀ s t : State, memoryForm s = true → step s = .next t → memoryForm t = true

/-- Every step keeps the bounds of the log queue, the post buffers, the S-port waiting list and the revolution window
(R20, R28, R180, R194). -/
def Obligations.BufferBoundsKept : Prop :=
  ∀ s t : State, buffersBounded s = true → step s = .next t → buffersBounded t = true

/-- Every step keeps the law of the dose queue: at most 8 orders, and every order behind the head QUEUED (R91, R92). -/
def Obligations.DoseQueueLawKept : Prop :=
  ∀ s t : State, queueLaw s = true → step s = .next t → queueLaw t = true

/-- Every step keeps the law of the orders: no order has more injected than ordered, and a pass in progress belongs to an INJECTING
head with room for its volume, at a target (R98 to R102). -/
def Obligations.OrderLawKept : Prop :=
  ∀ s t : State, orderLaw s = true → step s = .next t → orderLaw t = true

/-- Every step keeps the law of rest: in IDLE, STOPPING and TRIP the granted target is 0 and no step is in hand. -/
def Obligations.RestLawKept : Prop :=
  ∀ s t : State, restLaw s = true → step s = .next t → restLaw t = true

/-- Every step keeps the law of L0 and L1: outside start-up FILL is driven high exactly while a pass is in progress and LOCK_REQ
exactly while the governor is not IDLE (R61, R100 to R102, R109, R110). -/
def Obligations.LineLawKept : Prop :=
  ∀ s t : State, lineLaw s = true → step s = .next t → lineLaw t = true

/-! ### Frames: memory -/

/-- A command that stores nothing leaves every byte of the FRAM as it was. -/
def Obligations.NoStoreLeavesMemory : Prop :=
  ∀ (c : Instr) (s t : State), mayStore c = false → exec c s = .next t → MemoryKept s t

/-- The commands that store change no byte outside the bytes that the transfer on the M-port stores: one byte at its address for a
port's write, the transfer's bytes at its address for an internal write, the acknowledged ones of them when it fails or is cut
off. A log write that fails changes none: its slot keeps the entry it held before (R194; that this holds also where the write fails at a
later data byte is the model's reading, log 87). -/
def Obligations.StoresStayInTheirTransfer : Prop :=
  ∀ (s t : State) (a : Nat), memoryForm s = true →
    (∀ dt, exec (.memoryDataAck dt) s = .next t → (∀ x, s.link.transfer = some x → a ≠ x.addr) →
      readByte t a = readByte s a) ∧
    (∀ c dt, c = .carryWrite dt ∨ c = .reportGranuleWrite dt ∨ c = .logWrite dt → exec c s = .next t →
      (∀ j o, jobOnBus s = some (j, o) → a < jobAddr j ∨ jobAddr j + (jobData j).length ≤ a) →
      readByte t a = readByte s a) ∧
    (∀ dt acked, exec (.transferFailed dt (.dataByte acked)) s = .next t →
      (∀ j o, jobOnBus s = some (j, o) → a < jobAddr j ∨ jobAddr j + acked ≤ a) → readByte t a = readByte s a) ∧
    (∀ dt cause b l o, jobOnBus s = some (.logWrite b l, o) → exec (.transferFailed dt cause) s = .next t →
      readByte t a = readByte s a) ∧
    (∀ dt cause, cause = .deviceAddress ∨ cause = .memoryAddress → exec (.transferFailed dt cause) s = .next t →
      readByte t a = readByte s a) ∧
    (∀ dt straps levels acked, exec (.hardReset dt straps levels acked) s = .next t →
      (∀ j o, jobOnBus s = some (j, o) → a < jobAddr j ∨ jobAddr j + acked ≤ a) → readByte t a = readByte s a)

/-! ### Frames: the other state -/

/-- What the commands of the timing unit, the S-port and the governor's timers leave: the command block, the telemetry checks, the
hand-overs, the settings, the pages and the access faults; some of them much more. -/
def Obligations.TimingAndGovernorFrame : Prop :=
  ∀ (s t : State) (dt : Nat),
    (∀ c src frame, c = .indexPulse dt ∨ c = .commPulse dt ∨ c = .qualifyingSilence dt src ∨ c = .lossDeadline dt src ∨
        c = .restTimerExpiry dt ∨ c = .samplePoint dt ∨ c = .sportReadComplete dt frame ∨ c = .holdExpiry dt ∨
        c = .bandWaitExpiry dt ∨ c = .fiveSecondMark dt ∨ c = .overspeedHistoryExpiry dt → exec c s = .next t →
      RecordsKept s t ∧ SettingsKept s t ∧ PagesKept s t ∧ AccessKept s t) ∧
    (∀ c frame, c = .sportReadComplete dt frame ∨ c = .holdExpiry dt ∨ c = .bandWaitExpiry dt ∨ c = .fiveSecondMark dt ∨
        c = .overspeedHistoryExpiry dt → exec c s = .next t → t.timing = s.timing) ∧
    (∀ c src frame, c = .qualifyingSilence dt src ∨ c = .samplePoint dt ∨ c = .sportReadComplete dt frame →
        s.est.owed = false → exec c s = .next t →
      t.gov = s.gov ∧ t.runner = s.runner ∧ t.dosing = s.dosing ∧ t.lines = s.lines ∧ LatchesKept s t) ∧
    (∀ src, s.est.owed = false → exec (.qualifyingSilence dt src) s = .next t → t.est = s.est) ∧
    (s.est.owed = false → exec (.overspeedHistoryExpiry dt) s = .next t →
      t.est = s.est ∧ t.runner = s.runner ∧ t.dosing = s.dosing ∧ t.lines = s.lines ∧ LatchesKept s t)

/-- What the commands of the dosing unit, of the line unit and of the report unit leave. -/
def Obligations.DosingLineReportFrame : Prop :=
  ∀ (s t : State) (dt : Nat),
    (∀ c n level, c = .passStart dt ∨ c = .nominalOpen dt ∨ c = .passClose dt ∨ c = .pinLevelChange dt n level ∨
        c = .acceptedChange dt n ∨ c = .reportPeriodExpiry dt ∨ c = .reportGranuleWrite dt ∨ c = .logWrite dt →
        exec c s = .next t →
      t.timing = s.timing ∧ RecordsKept s t ∧ SettingsKept s t ∧ PagesKept s t ∧ AccessKept s t) ∧
    (∀ c n level, c = .passStart dt ∨ c = .nominalOpen dt ∨ c = .pinLevelChange dt n level → s.est.owed = false →
        exec c s = .next t → t.est = s.est ∧ t.gov = s.gov ∧ t.runner = s.runner ∧ LatchesKept s t) ∧
    (s.est.owed = false → exec (.nominalOpen dt) s = .next t → t.lines = s.lines) ∧
    (∀ n level, s.est.owed = false → exec (.pinLevelChange dt n level) s = .next t →
      t.dosing = s.dosing ∧ ∀ k, k ≠ n → t.lines.line[k] = s.lines.line[k]) ∧
    (∀ c, c = .reportPeriodExpiry dt ∨ c = .reportGranuleWrite dt ∨ c = .logWrite dt → s.est.owed = false →
      exec c s = .next t → MachineKept s t ∧ LatchesKept s t)

/-- What the commands of the upstream ports and of the memory link leave: all the machine's blocks, the settings and the pages;
the records, the hand-overs, the latches and the access faults except where the command is the one that changes them. -/
def Obligations.PortAndLinkFrame : Prop :=
  ∀ (s t : State) (dt : Nat) (p : Port), s.est.owed = false →
    (∀ c addr read v x, c = .upstreamStart dt p addr read ∨ c = .memoryAddressByte dt p v ∨ c = .writeDataByte dt p v ∨
        c = .readDataByte dt p ∨ c = .controllerNack dt p ∨ c = .repeatedStart dt p addr read ∨ c = .stopCondition dt p ∨
        c = .midByteCondition dt x ∨ c = .stretchLimit dt p ∨ c = .heldBurstIdle dt p ∨ c = .readIdle dt p ∨
        c = .memoryDataAck dt ∨ c = .memoryReadByte dt ∨ c = .transferEnd dt ∨ c = .addressRetry dt → exec c s = .next t →
      MachineKept s t ∧ SettingsKept s t ∧ PagesKept s t ∧ LatchesKept s t) ∧
    (∀ c addr read v x, c = .upstreamStart dt p addr read ∨ c = .memoryAddressByte dt p v ∨ c = .readDataByte dt p ∨
        c = .controllerNack dt p ∨ c = .repeatedStart dt p addr read ∨ c = .stopCondition dt p ∨
        c = .midByteCondition dt x ∨ c = .stretchLimit dt p ∨ c = .heldBurstIdle dt p ∨ c = .readIdle dt p ∨
        c = .memoryDataAck dt ∨ c = .memoryReadByte dt ∨ c = .transferEnd dt ∨ c = .addressRetry dt → exec c s = .next t →
      t.cmd = s.cmd ∧ t.tel = s.tel) ∧
    (∀ c v, c = .memoryAddressByte dt p v ∨ c = .writeDataByte dt p v ∨ c = .readDataByte dt p ∨ c = .controllerNack dt p ∨
        c = .stretchLimit dt p ∨ c = .heldBurstIdle dt p ∨ c = .readIdle dt p ∨ c = .memoryDataAck dt ∨
        c = .memoryReadByte dt ∨ c = .transferEnd dt ∨ c = .addressRetry dt → exec c s = .next t → t.hand = s.hand) ∧
    (∀ c addr read v, c = .upstreamStart dt p addr read ∨ c = .memoryAddressByte dt p v ∨ c = .controllerNack dt p ∨
        c = .repeatedStart dt p addr read ∨ c = .stopCondition dt p ∨ c = .midByteCondition dt ⟨p, false⟩ ∨
        c = .heldBurstIdle dt p ∨ c = .readIdle dt p ∨ c = .memoryDataAck dt ∨ c = .memoryReadByte dt ∨ c = .transferEnd dt ∨ c = .addressRetry dt →
      exec c s = .next t → AccessKept s t)

/-- What the commands of the plan page unit and of the settings unit leave, and what a failed transfer leaves. -/
def Obligations.PageAndSettingsFrame : Prop :=
  ∀ (s t : State) (dt : Nat),
    (∀ c, c = .commit dt ∨ c = .commitRecordRead dt ∨ c = .carryRead dt ∨ c = .carryWrite dt ∨ c = .validationRead dt →
        s.est.owed = false → exec c s = .next t →
      t.timing = s.timing ∧ t.est = s.est ∧ t.gov = s.gov ∧ t.dosing = s.dosing ∧ t.lines = s.lines ∧ t.cmd = s.cmd ∧
        t.tel = s.tel ∧ SettingsKept s t ∧ LatchesKept s t ∧ AccessKept s t ∧ t.runner.state = s.runner.state ∧
        t.runner.stepIndex = s.runner.stepIndex ∧ t.runner.retries = s.runner.retries ∧
        t.runner.doseUsed = s.runner.doseUsed ∧ t.runner.endReason = s.runner.endReason) ∧
    (∀ c, c = .commit dt ∨ c = .commitRecordRead dt ∨ c = .carryRead dt ∨ c = .carryWrite dt → s.est.owed = false →
      exec c s = .next t → t.runner = s.runner ∧ t.pages.active = s.pages.active ∧ t.pages.valid = s.pages.valid) ∧
    (∀ c, c = .commitRecordRead dt ∨ c = .carryRead dt ∨ c = .carryWrite dt ∨ c = .validationRead dt →
      exec c s = .next t → t.hand = s.hand) ∧
    (∀ c, c = .settingsRead dt ∨ c = .adoption dt ∨ c = .startupSettingsRead dt ∨ c = .startupReadRetry dt ∨
        c = .logScanRead dt → exec c s = .next t → t.cmd = s.cmd ∧ t.hand = s.hand ∧ AccessKept s t) ∧
    (∀ c, c = .settingsReread dt ∨ c = .startupReadRetry dt → s.est.owed = false → exec c s = .next t →
      MachineKept s t ∧ t.cmd = s.cmd ∧ t.tel = s.tel ∧ SettingsKept s t ∧ PagesKept s t ∧ LatchesKept s t ∧
        AccessKept s t) ∧
    (∀ cause, s.est.owed = false → exec (.transferFailed dt cause) s = .next t →
      t.est = s.est ∧ t.gov = s.gov ∧ t.runner = s.runner ∧ t.dosing = s.dosing ∧ RecordsKept s t ∧ AccessKept s t ∧
        t.settings.inForce = s.settings.inForce)

/-- What the commands of the telemetry checks and of the command record leave (RESTART, which resets the block, apart). -/
def Obligations.TelemetryAndCommandFrame : Prop :=
  ∀ (s t : State) (dt : Nat),
    (∀ c, c = .telemetryAdopt dt ∨ c = .telemetryAgeExpiry dt → exec c s = .next t →
      t.timing = s.timing ∧ t.cmd = s.cmd ∧ SettingsKept s t ∧ PagesKept s t ∧ AccessKept s t ∧
        t.hand.command = s.hand.command ∧ t.hand.commit = s.hand.commit ∧ t.hand.settings = s.hand.settings) ∧
    (∀ c, c = .startPlan dt ∨ c = .stop dt ∨ c = .halt dt ∨ c = .resume dt ∨ c = .dose dt ∨ c = .doseCancel dt ∨
        c = .lines dt ∨ c = .ackFaults dt ∨ c = .clearCounts dt ∨ c = .reportNow dt ∨ c = .unknownCode dt →
        exec c s = .next t →
      t.timing = s.timing ∧ t.tel = s.tel ∧ SettingsKept s t ∧ PagesKept s t ∧ t.cmd.image = s.cmd.image ∧
        t.cmd.written = s.cmd.written ∧ t.hand.telemetry = s.hand.telemetry ∧ t.hand.commit = s.hand.commit ∧
        t.hand.settings = s.hand.settings) ∧
    (∀ c, c = .lines dt ∨ c = .ackFaults dt ∨ c = .clearCounts dt ∨ c = .reportNow dt ∨ c = .unknownCode dt →
        s.est.owed = false → exec c s = .next t →
      t.est = s.est ∧ t.gov = s.gov ∧ t.runner = s.runner ∧ t.dosing = s.dosing) ∧
    (∀ c, c = .ackFaults dt ∨ c = .clearCounts dt ∨ c = .reportNow dt ∨ c = .unknownCode dt → s.est.owed = false →
      exec c s = .next t → t.lines = s.lines) ∧
    (∀ c, c = .lines dt ∨ c = .clearCounts dt ∨ c = .reportNow dt ∨ c = .unknownCode dt → s.est.owed = false →
      exec c s = .next t → LatchesKept s t) ∧
    (∀ c, c = .startPlan dt ∨ c = .stop dt ∨ c = .halt dt ∨ c = .resume dt ∨ c = .dose dt ∨ c = .doseCancel dt ∨
        c = .lines dt ∨ c = .ackFaults dt ∨ c = .reportNow dt ∨ c = .unknownCode dt →
      exec c s = .next t → AccessKept s t)

/-! ### Timing unit and S-port (chapters 1 and 2) -/

/-- R2, R3: the first accepted pulse of a SEARCHING or LOST source that is not selected makes it QUALIFYING with a count of 0,
records the pulse's time, is a witness for the other source, restarts the rest timer and ends the at-rest finding; the selection,
the counter and the speed stay. A pulse of an OFF source, and a QUALIFIED pulse less than half the last interval after the last
accepted one, has no effect of any kind. -/
def Obligations.PulseBeginsQualifyingOrIsRejected : Prop :=
  (∀ (src : Source) (dt : Nat) (s : State),
    (sourceRec s.timing src).state = .searching ∨ (sourceRec s.timing src).state = .lost → s.timing.sel ≠ some src →
    ∃ t, exec (pulse src dt) s = .next t ∧
      (sourceRec t.timing src).state = .qualifying ∧ (sourceRec t.timing src).count = 0 ∧
      (sourceRec t.timing src).lastPulse = some (s.now + dt) ∧ (sourceRec t.timing src).interval = none ∧
      (sourceRec t.timing src).refPeriod = none ∧ (sourceRec t.timing src).deadline = none ∧
      (sourceRec t.timing (otherSource src)).witnessed = true ∧ t.timing.restStart = some (s.now + dt) ∧
      t.timing.atRest = false ∧ t.timing.sel = s.timing.sel ∧ t.timing.counter = s.timing.counter ∧
      t.timing.speed = s.timing.speed) ∧
  ∀ (src : Source) (dt : Nat) (s : State), s.est.owed = false →
    ((sourceRec s.timing src).state = .off ∨
      (sourceRec s.timing src).state = .qualified ∧ ∃ l i, (sourceRec s.timing src).lastPulse = some l ∧
        (sourceRec s.timing src).interval = some i ∧ 2 * (s.now + dt - l) < i) →
    ∃ t, exec (pulse src dt) s = .next t ∧ MachineKept s t ∧ RecordsKept s t ∧ SettingsKept s t ∧ PagesKept s t ∧
      LatchesKept s t ∧ AccessKept s t ∧ MemoryKept s t

/-- R8, R9, R10, R13 to R16: with INDEX preferred and selected, an accepted INDEX pulse ends the revolution in progress: the counter rises
by 1 (wrapping), the measured speed is 60,000,000 divided by the revolution period in µs, rounded down, and the next revolution begins,
with the request of sample 0 when that speed is at least 60 rpm (that sample 0 is passed over below 60 rpm is the model's choice,
log 30). With COMM selected, an accepted COMM pulse adds 1 to the COMM count c and keeps the alignment state. A pulse at which c becomes a
multiple of P is a boundary: it opens a revolution where none is in progress, with the counter as it was, and else ends the one in
progress as above, after which a QUALIFIED preferred INDEX takes over with no revolution in progress (that it does not take over at an
opening boundary is the model's choice, log 11). At an opening boundary, and at every other pulse, the speed is 60,000,000 divided by P
intervals, 0 for more than 3 s. An accepted INDEX pulse while COMM is QUALIFIED aligns COMM: ALIGNED at the first or where c is P, else
MISALIGNED, with c then 0; with COMM selected the counter and the speed stay, and the revolution is discarded where c was no multiple of
P. -/
def Obligations.BoundaryEndsRevolution : Prop :=
  (∀ (dt l i : Nat) (r : Revolution) (s : State),
    s.timing.index.state = .qualified → s.timing.sel = some .index → s.settings.inForce.reference.preferred = .index →
    s.timing.index.lastPulse = some l → s.timing.index.interval = some i → i ≤ 2 * (s.now + dt - l) →
    s.timing.rev = some r → r.start < s.now + dt → s.now + dt ≤ r.start + 3000000 →
    ∃ t u, exec (.indexPulse dt) s = .next t ∧ t.timing.counter = s.timing.counter + 1 ∧
      t.timing.speed = 60000000 / (s.now + dt - r.start) ∧ t.timing.measured = true ∧ t.timing.sel = some .index ∧
      t.timing.index.state = .qualified ∧ t.timing.index.lastPulse = some (s.now + dt) ∧
      t.timing.index.interval = some (s.now + dt - l) ∧
      t.timing.index.deadline = some (s.now + dt + 3 * (s.now + dt - l)) ∧
      t.timing.rev = some u ∧ u.start = s.now + dt ∧ u.nextSample = 1 ∧ u.pulses = 0 ∧
      u.requests = if 60 ≤ t.timing.speed then 1 else 0) ∧
  (∀ (dt l i : Nat) (s : State),
    s.timing.comm.state = .qualified → s.timing.sel = some .comm → s.timing.comm.lastPulse = some l →
    s.timing.comm.interval = some i → i ≤ 2 * (s.now + dt - l) → 0 < s.settings.inForce.reference.p → l < s.now + dt →
    let p := s.settings.inForce.reference.p
    let period := p * (s.now + dt - l)
    let begun := fun t : State => t.timing.sel = some .comm ∧ ∃ u, t.timing.rev = some u ∧ u.start = s.now + dt ∧
      u.nextSample = 1 ∧ u.pulses = 0 ∧ u.requests = if 60 ≤ t.timing.speed then 1 else 0
    ∃ t, exec (.commPulse dt) s = .next t ∧ t.timing.c = s.timing.c + 1 ∧ t.timing.align = s.timing.align ∧
      t.timing.comm.state = .qualified ∧ t.timing.comm.lastPulse = some (s.now + dt) ∧
      t.timing.comm.interval = some (s.now + dt - l) ∧
      t.timing.comm.deadline = some (s.now + dt + 3 * (s.now + dt - l)) ∧ t.timing.measured = true ∧
      ((s.timing.c + 1) % p ≠ 0 → t.timing.counter = s.timing.counter ∧ t.timing.sel = some .comm ∧
        t.timing.speed = (if 3000000 < period then 0 else 60000000 / period) ∧
        (s.timing.rev = none → t.timing.rev = none) ∧
        ∀ r, s.timing.rev = some r → ∃ u, t.timing.rev = some u ∧ u.start = r.start ∧ u.pulses = r.pulses + 1 ∧
          r.nextSample ≤ u.nextSample) ∧
      ((s.timing.c + 1) % p = 0 → s.timing.rev = none → t.timing.counter = s.timing.counter ∧
        t.timing.speed = (if 3000000 < period then 0 else 60000000 / period) ∧ begun t) ∧
      ∀ r, (s.timing.c + 1) % p = 0 → s.timing.rev = some r → r.start < s.now + dt → s.now + dt ≤ r.start + 3000000 →
        t.timing.counter = s.timing.counter + 1 ∧ t.timing.speed = 60000000 / (s.now + dt - r.start) ∧
          (s.settings.inForce.reference.preferred = .comm ∨ s.timing.index.state ≠ .qualified → begun t) ∧
          (s.settings.inForce.reference.preferred = .index → s.timing.index.state = .qualified →
            t.timing.sel = some .index ∧ t.timing.rev = none)) ∧
  ∀ (dt : Nat) (s : State), s.timing.index.rejects (s.now + dt) = false → s.timing.comm.state = .qualified →
    ∃ t, exec (.indexPulse dt) s = .next t ∧ t.timing.c = 0 ∧
      t.timing.align = (if s.timing.align = .unaligned ∨ s.timing.c = s.settings.inForce.reference.p then .aligned
        else .misaligned) ∧
      (s.timing.sel = some .comm → t.timing.sel = some .comm ∧ t.timing.counter = s.timing.counter ∧
        t.timing.speed = s.timing.speed ∧
        t.timing.rev = if s.timing.c % s.settings.inForce.reference.p = 0 then s.timing.rev else none)

/-- R3: a QUALIFYING source that has had no pulse for three of its intervals (3 s without an interval) returns to SEARCHING with
its count 0, its interval and its reference period absent; sooner, nothing of the timing unit changes (that an event that comes before
its moment changes nothing is the model's choice, log 4). -/
def Obligations.QualifyingSilenceReturnsToSearching : Prop :=
  ∀ (src : Source) (dt l : Nat) (s : State),
    (sourceRec s.timing src).state = .qualifying → (sourceRec s.timing src).lastPulse = some l →
    ∃ t, exec (.qualifyingSilence dt src) s = .next t ∧ sourceRec t.timing (otherSource src) = sourceRec s.timing (otherSource src) ∧
      (if (match (sourceRec s.timing src).interval with | some i => 3 * i | none => 3000000) ≤ s.now + dt - l then
        (sourceRec t.timing src).state = .searching ∧ (sourceRec t.timing src).count = 0 ∧
          (sourceRec t.timing src).interval = none ∧ (sourceRec t.timing src).refPeriod = none
      else t.timing = s.timing)

/-- R4, R7: when the loss deadline of a QUALIFIED source has passed, the source becomes LOST where there is a witness (a pulse of the
other source since its own last one, or an adopted drive speed of at least 30 rpm) and returns to SEARCHING where there is none; if it
was selected, the selection moves to the other source where that one is QUALIFIED, else to NONE, and the revolution in progress is
discarded with the counter as it was. -/
def Obligations.LossDeadlineLosesSource : Prop :=
  ∀ (src : Source) (dt d : Nat) (s : State),
    (sourceRec s.timing src).state = .qualified → (sourceRec s.timing src).deadline = some d → d ≤ s.now + dt →
    ∃ t, exec (.lossDeadline dt src) s = .next t ∧ t.timing.counter = s.timing.counter ∧
      (sourceRec t.timing src).deadline = none ∧
      ((sourceRec s.timing src).witnessed = true ∨ (∃ x, s.tel.adopted = some x ∧ 30 ≤ x.speed) →
        (sourceRec t.timing src).state = .lost) ∧
      ((sourceRec s.timing src).witnessed = false → (∀ x, s.tel.adopted = some x → x.speed < 30) →
        (sourceRec t.timing src).state = .searching ∧ (sourceRec t.timing src).count = 0 ∧
          (sourceRec t.timing src).interval = none ∧ (sourceRec t.timing src).refPeriod = none) ∧
      (s.timing.sel = some src →
        t.timing.sel = (if (sourceRec s.timing (otherSource src)).state = .qualified then some (otherSource src) else none) ∧
          t.timing.rev = none)

/-- R6: when the rest timer has run for 3 s the drum is at rest: every source that is QUALIFYING, QUALIFIED or LOST is SEARCHING with
its count 0 and its interval and reference period absent, the selection is NONE, the measured speed is 0, and a revolution in progress
is discarded. -/
def Obligations.RestTimerFindsDrumAtRest : Prop :=
  ∀ (dt t0 : Nat) (s : State), s.timing.restStart = some t0 → 3000000 ≤ s.now + dt - t0 →
    ∃ t, exec (.restTimerExpiry dt) s = .next t ∧ t.timing.atRest = true ∧ t.timing.restStart = none ∧
      t.timing.speed = 0 ∧ t.timing.sel = none ∧ (s.timing.sel ≠ none → t.timing.rev = none) ∧
      ∀ src, if (sourceRec s.timing src).state = .off ∨ (sourceRec s.timing src).state = .searching then
          sourceRec t.timing src = sourceRec s.timing src
        else (sourceRec t.timing src).state = .searching ∧ (sourceRec t.timing src).count = 0 ∧
          (sourceRec t.timing src).interval = none ∧ (sourceRec t.timing src).refPeriod = none

/-- R71: the at-rest finding ends a run-down: in STOPPING and in TRIP the governor enters IDLE, with the target 0. -/
def Obligations.RestEndsRunDown : Prop :=
  ∀ (dt t0 : Nat) (s : State), s.timing.restStart = some t0 → 3000000 ≤ s.now + dt - t0 → restLaw s = true →
    s.gov.state = .stopping ∨ s.gov.state = .trip →
    ∃ t, exec (.restTimerExpiry dt) s = .next t ∧ t.gov.state = .idle ∧ t.gov.target = 0 ∧ t.gov.run = false

/-- R16, R19, R20: a sample point that the revolution's progress has reached is requested when the measured speed is at least 60 rpm, with
the revolution's number, the sample index, the drum angle in whole degrees and the anchored flag; an idle S-port starts its read at
once, with SCS low and the bytes of the read's frame on SDO (how these outputs are held is the model's choice, log 69), a busy one keeps
it waiting, and with four waiting it is not read. Below 60 rpm no request is made (that the point is then passed over is the model's
choice, log 30). -/
def Obligations.SamplePointIsRequested : Prop :=
  ∀ (dt : Nat) (r : Revolution) (s : State), s.est.owed = false → s.timing.rev = some r →
    sampleDue (advance dt s) = true →
    ∃ t, exec (.samplePoint dt) s = .next t ∧
      (60 ≤ s.timing.speed →
        t.timing.rev = some { r with
          nextSample := r.nextSample + 1, requests := r.requests + 1, anchored := r.anchored && isAnchored s.timing } ∧
        (s.est.reading = none → t.est.reading = some ({
            rev := s.timing.counter + 1, index := r.nextSample, angle := (drumAngle (advance dt s)).getD 0 / 256,
            anchored := isAnchored s.timing }, false) ∧ t.est.waiting = s.est.waiting ∧
          t.est.pins = { scs := false, sck := false, sdo := 0x9C :: .replicate 7 0 }) ∧
        (s.est.reading ≠ none → t.est.reading = s.est.reading ∧ t.est.pins = s.est.pins ∧
          t.est.waiting = if s.est.waiting.length < 4 then s.est.waiting ++ [{
            rev := s.timing.counter + 1, index := r.nextSample, angle := (drumAngle (advance dt s)).getD 0 / 256,
            anchored := isAnchored s.timing }] else s.est.waiting)) ∧
      (s.timing.speed < 60 →
        t.timing.rev = some { r with nextSample := r.nextSample + 1 } ∧ t.est.reading = s.est.reading ∧
          t.est.waiting = s.est.waiting ∧ t.est.pins = s.est.pins)

/-- R19, R20: a read that completes files a good sample (status bit set, each axis within -8,000 to +8,000 mg) under its request where
the collection is that revolution's and no gap has made it void, and discards any other; SCS goes high, or the oldest waiting request
starts its read with the next frame (how these outputs are held, with SCS low from one read to the next, is the model's choice, log 69).
With no collection in hand the sample is discarded. -/
def Obligations.SportReadFilesGoodSample : Prop :=
  ∀ (dt : Nat) (f : SportFrame) (q : SampleRequest) (gap : Bool) (s : State), s.est.owed = false →
    s.est.reading = some (q, gap) →
    ∃ t, exec (.sportReadComplete dt f) s = .next t ∧
      t.est.waiting = s.est.waiting.drop 1 ∧ t.est.reading = (s.est.waiting.head?.map fun w => (w, false)) ∧
      (s.est.waiting = [] → t.est.pins = { scs := true, sck := false, sdo := [] }) ∧
      (s.est.waiting ≠ [] → t.est.pins = { scs := false, sck := false, sdo := 0x9C :: .replicate 7 0 }) ∧
      (s.est.collection = none → t.est.collection = none) ∧
      ∀ c, s.est.collection = some c →
      (if c.rev = q.rev ∧ gap = false ∧ f.status.getLsbD 0 = true ∧
          (-8000 ≤ axis f.xLow f.xHigh ∧ axis f.xLow f.xHigh ≤ 8000) ∧
          (-8000 ≤ axis f.yLow f.yHigh ∧ axis f.yLow f.yHigh ≤ 8000) ∧
          (-8000 ≤ axis f.zLow f.zHigh ∧ axis f.zLow f.zHigh ≤ 8000) then
        t.est.collection = some { c with samples := c.samples ++
          [{ index := q.index, x := axis f.xLow f.xHigh, y := axis f.yLow f.yHigh, angle := q.angle }] }
      else t.est.collection = some c)

/-- R10, R12, R13: the drum angle, in steps of 1/256 degree, with INDEX selected and with COMM selected. That it is rounded down to a
step is the model's choice (log 55), and so is that the COMM angle stops one step short of the next pulse's after an alignment too
(log 21), and that the first pulse after an alignment takes the angle by the interval before it (log 81). -/
def Obligations.DrumAngle : Prop :=
  (∀ (dt : Nat) (s t : State), s.timing.index.rejects (s.now + dt) = false → exec (.indexPulse dt) s = .next t →
    t.timing.sel = some .index → drumAngle t = some 0) ∧
  (∀ (l p : Nat) (s : State), s.timing.sel = some .index → s.timing.index.lastPulse = some l →
    s.timing.index.refPeriod = some p →
    (s.now - l < p → drumAngle s = some (360 * 256 * (s.now - l) / p)) ∧
    (p ≤ s.now - l → 0 < s.now - l → drumAngle s = some (359 * 256 + 255))) ∧
  (∀ (dt : Nat) (s t : State), s.timing.index.rejects (s.now + dt) = false → s.timing.comm.state = .qualified →
    exec (.indexPulse dt) s = .next t → t.timing.sel = some .comm → drumAngle t = some 0) ∧
  (∀ (dt : Nat) (s t : State), s.timing.comm.rejects (s.now + dt) = false → s.timing.comm.state = .qualified →
    s.timing.sel = some .comm → exec (.commPulse dt) s = .next t → t.timing.sel = some .comm →
    drumAngle t = some (
      if s.timing.align = .unaligned ∧ (s.timing.c + 1) % s.settings.inForce.reference.p = 0 then 0
      else if s.timing.commFirst then (drumAngle (advance dt s)).getD 0 % (360 * 256)
      else (s.timing.commAngle + 360 * 256 / s.settings.inForce.reference.p) % (360 * 256))) ∧
  ∀ (i : Nat) (s : State), s.timing.sel = some .comm → s.timing.comm.interval = some i → 0 < i →
    drumAngle s = some ((s.timing.commAngle +
      min (360 * 256 / s.settings.inForce.reference.p * (s.now - s.timing.commAngleAt) / i)
        (360 * 256 / s.settings.inForce.reference.p - 1)) % (360 * 256))

/-- R26: a TORQUE record. The magnitude is the torque times the factor (in 1/256 g per mNm) to the nearest gram, at most 4,095. That
an exact half gram rounds up is the model's choice (log 61): R26 does not say. -/
def Obligations.TorqueRecordMagnitude : Prop :=
  ∀ (set : EstimatorSettings) (e : Estimator) (r : BoundaryReport), e.curSource = .torque →
    (∀ q, e.revTorque = some q → ∃ n, (makeRecord set e r).magnitude = min n 4095 ∧
      512 * n ≤ 2 * q * set.torque + 256 ∧ 2 * q * set.torque < 512 * n + 256 ∧ (makeRecord set e r).tag ≠ .missing) ∧
    (e.revTorque = none → (makeRecord set e r).magnitude = 0 ∧ (makeRecord set e r).tag = .missing) ∧
    (makeRecord set e r).source = .torque ∧ (makeRecord set e r).angle = none ∧ (makeRecord set e r).peak = none ∧
    (makeRecord set e r).good = none

/-! ### Spin governor and plan runner (chapters 3 and 4) -/

/-- R79 to R81, R71: at the hold expiry a step that meets its kind's condition succeeds: after the last step of the plan the governor
enters STOPPING with the target 0 and no step in hand, with the runner's state and step index as they were; after an earlier one,
where no dose order is waiting to be cut, the next step of the plan copy is in hand with its hold timer, marks and retreat counts afresh. -/
def Obligations.HoldExpirySuccessAdvancesPlan : Prop :=
  ∀ (dt h : Nat) (p : PlanStep) (s : State), s.est.owed = false → s.gov.step = some p → s.gov.holdStart = some h →
    p.hold * 1000000 ≤ s.now + dt - h →
    (match p.kind with
      | .distribute => (s.est.est.state = .settled ∨ s.est.est.state = .held) ∧ s.est.est.cls ≤ p.accept
      | .spin => p.floor ≤ s.timing.speed
      | .coast => True
      | .balance => 5000000 ≤ s.now + dt - h ∧ s.est.est.state = .settled ∧ s.est.est.cls ≤ p.accept) →
    ∃ t, exec (.holdExpiry dt) s = .next t ∧
      (s.runner.plan.stepCount ≤ s.runner.stepIndex + 1 →
        t.gov.state = .stopping ∧ t.gov.target = 0 ∧ t.gov.step = none ∧ t.runner.state = s.runner.state ∧
          t.runner.stepIndex = s.runner.stepIndex) ∧
      (∀ q, s.runner.stepIndex + 1 < s.runner.plan.stepCount → s.runner.plan.steps[s.runner.stepIndex + 1]? = some q →
        s.dosing.queue = [] → s.dosing.pass = none → s.gov.state ≠ .idle →
        t.gov.step = some q ∧ t.runner.stepIndex = s.runner.stepIndex + 1 ∧ t.runner.state = s.runner.state ∧
          t.gov.markFallen = false ∧ t.gov.retreats = .replicate 6 0 ∧ t.gov.waits = .replicate 6 0 ∧
          (t.gov.holdStart = none ∨ t.gov.holdStart = some (s.now + dt)))

/-- R65, R79, R81, R84: a step that fails its test at the hold expiry, or whose band wait time has reached the band wait limit, with
the action ABORT, ends the plan: the runner is ABORTED with STEP_FAILED, the governor is in STOPPING with the target 0 and no step in
hand. RETRY and REDISTRIBUTE are taken so when no retry is left. -/
def Obligations.StepFailureAbortsPlan : Prop :=
  ∀ (dt : Nat) (p : PlanStep) (s : State), s.gov.step = some p →
    p.action = .abort ∨ ((p.action = .retry ∨ p.action = .redistribute) ∧ s.runner.plan.maxRetries ≤ s.runner.retries) →
    (∀ h, s.gov.holdStart = some h → p.hold * 1000000 ≤ s.now + dt - h →
      (match p.kind with
        | .distribute => ¬((s.est.est.state = .settled ∨ s.est.est.state = .held) ∧ s.est.est.cls ≤ p.accept)
        | .spin => s.timing.speed < p.floor
        | .coast => False
        | .balance => ¬(5000000 ≤ s.now + dt - h ∧ s.est.est.state = .settled ∧ s.est.est.cls ≤ p.accept)) →
      ∃ t, exec (.holdExpiry dt) s = .next t ∧ t.runner.state = .aborted ∧ t.runner.endReason = .stepFailed ∧
        t.gov.state = .stopping ∧ t.gov.target = 0 ∧ t.gov.step = none) ∧
    (∀ (k : Fin 6) (w : Nat), s.gov.state = .waitBand → s.gov.band = some k → s.gov.waitSince = some w →
      s.settings.inForce.governor.bandWait * 1000000 ≤ s.gov.waits[k] + (s.now + dt - w) →
      ∃ t, exec (.bandWaitExpiry dt) s = .next t ∧ t.runner.state = .aborted ∧ t.runner.endReason = .stepFailed ∧
        t.gov.state = .stopping ∧ t.gov.target = 0 ∧ t.gov.step = none)

/-- R69, R73, R80: the 5-second mark of a BALANCE step falls once: when the estimate is SETTLED at or better than the accept class,
the step succeeds, which after the last step of the plan is the run-down; otherwise the mark has fallen and the step goes on as it was.
The targets that have been out of force for the overspeed window leave the overspeed history; the others, and everything else of the
governor, stay. -/
def Obligations.BalanceMarkAndOverspeedHistory : Prop :=
  (∀ (dt h : Nat) (p : PlanStep) (s : State), s.est.owed = false → s.gov.step = some p → p.kind = .balance →
    s.gov.holdStart = some h → 5000000 ≤ s.now + dt - h → s.gov.markFallen = false →
    ∃ t, exec (.fiveSecondMark dt) s = .next t ∧
      (s.est.est.state = .settled ∧ s.est.est.cls ≤ p.accept → s.runner.plan.stepCount ≤ s.runner.stepIndex + 1 →
        t.gov.state = .stopping ∧ t.gov.target = 0 ∧ t.gov.step = none) ∧
      (¬(s.est.est.state = .settled ∧ s.est.est.cls ≤ p.accept) →
        t.gov = { s.gov with markFallen := true } ∧ t.runner = s.runner)) ∧
  ∀ (dt : Nat) (s : State), s.est.owed = false →
    ∃ t, exec (.overspeedHistoryExpiry dt) s = .next t ∧
      t.gov = { s.gov with
        history := s.gov.history.filter fun e => decide (s.now + dt - e.2 < s.settings.inForce.governor.window * 1000000) }

/-- R52: with a valid band list (R45) the effective target of a ceiling is at or below it and lies inside no enabled band; a ceiling
outside every band is its own effective target. -/
def Obligations.EffectiveTargetAvoidsBands : Prop :=
  ∀ (g : GovernorSettings) (v : Nat), check12 g = true →
    effectiveTarget g v ≤ v ∧
    (∀ k : Fin 6, g.bands[k].low ≤ g.bands[k].high →
      effectiveTarget g v < g.bands[k].low ∨ g.bands[k].high < effectiveTarget g v) ∧
    ((∀ k : Fin 6, g.bands[k].low ≤ g.bands[k].high → v < g.bands[k].low ∨ g.bands[k].high < v) →
      effectiveTarget g v = v)

/-! ### Dosing unit (chapter 5) -/

/-- R98, R100: a forward step of the drum angle, of at most 180 degrees, reaches what it passes over and lands on; a backward step reaches
nothing; and what the steps of one moment reach stays reached (log 14). When the drum angle has reached the opening angle of an
INJECTING head with no pass in progress, the pass conditions decide: with them the pass record is made, for the full pass volume or what
the order still lacks, and FILL is driven high; without, no pass is made and the order waits. When the angle reaches the nominal open
angle of the pass in progress, its time is noted. -/
def Obligations.PassStartAndNominalOpen : Prop :=
  (∀ (path : AnglePath) (now a b c x : Nat), a < 92160 → b < 92160 → x < 92160 →
    (forward a b ≤ 46080 → 0 < forward a x → forward a x ≤ forward a b → (path.jump now a b).reached b x = true) ∧
    (46080 < forward a b → path.since = now → (path.jump now a b).reached b x = path.reached a x) ∧
    ((path.jump now a b).reached b x = true → ((path.jump now a b).jump now b c).reached c x = true)) ∧
  (∀ (dt : Nat) (o : DoseOrder) (rest : List DoseOrder) (s : State), s.est.owed = false → started s = true →
    s.lines.line[0].output = true → s.dosing.queue = o :: rest → o.state = .injecting → s.dosing.pass = none →
    angleReached (advance dt s) (openingAngle s o.chamber) = true →
    ∃ t, exec (.passStart dt) s = .next t ∧ t.dosing.queue = s.dosing.queue ∧ t.dosing.accounts = s.dosing.accounts ∧
      (passConditions s = true → ∃ p, t.dosing.pass = some p ∧ p.chamber = o.chamber ∧
        p.volume = min (passVolume s.settings.inForce.dosing s.timing.speed) (o.ordered - o.injected) ∧
        p.opening = openingAngle s o.chamber ∧ p.nominal = nominalOpenAngle s.settings.inForce.dosing o.chamber ∧
        p.startAt = s.now + dt ∧ p.nominalAt = none ∧ t.lines.line[0].latch = true) ∧
      (passConditions s = false → t.dosing.pass = none ∧ t.lines = s.lines)) ∧
  ∀ (dt : Nat) (p : PassRecord) (s : State), s.est.owed = false → s.dosing.pass = some p → p.nominalAt = none →
    angleReached (advance dt s) p.nominal = true →
    ∃ t, exec (.nominalOpen dt) s = .next t ∧ t.dosing.pass = some { p with nominalAt := some (s.now + dt) } ∧
      t.dosing.queue = s.dosing.queue ∧ t.dosing.accounts = s.dosing.accounts

/-- R99, R102: a pass closes when the drum angle reaches its closing angle, or 1 ms after its start where it closes by time: FILL is
asked low, the pass record becomes absent, and the pass volume is added to the chamber's account, to the runner's dose used and to the
order. A completed order's stale mark is the revolution in progress. -/
def Obligations.PassCloseAccountsVolume : Prop :=
  ∀ (dt : Nat) (p : PassRecord) (o : DoseOrder) (rest : List DoseOrder) (s : State), s.est.owed = false →
    s.dosing.pass = some p → s.dosing.queue = o :: rest →
    (if p.minClose then 1000 ≤ s.now + dt - p.startAt else angleReached (advance dt s) p.closing = true) →
    ∃ t, exec (.passClose dt) s = .next t ∧ t.dosing.pass = none ∧ t.lines.askFill = some false ∧
      t.dosing.accounts[p.chamber] = s.dosing.accounts[p.chamber] + p.volume ∧
      (∀ k, k ≠ p.chamber → t.dosing.accounts[k] = s.dosing.accounts[k]) ∧
      t.runner.doseUsed = s.runner.doseUsed + p.volume ∧
      (o.injected + p.volume ≠ o.ordered → t.dosing.queue = { o with injected := o.injected + p.volume } :: rest) ∧
      (o.injected + p.volume = o.ordered → t.est.staleMark = some (s.timing.counter + 1))

/-! ### Line unit (chapter 6) -/

/-- R111: a pin that takes a new level makes its debounce record afresh, with that level as candidate, or drops it when the level is
the accepted value; a level that the pin has already changes nothing. Output, latch and accepted value stay. That an output whose
pin is given a level other than its latch is from then on held against its drive is the model's convention (R112, log 66). -/
def Obligations.PinChangeStartsDebounce : Prop :=
  ∀ (dt : Nat) (n : Fin 8) (level : Bool) (s : State), s.est.owed = false →
    ∃ t, exec (.pinLevelChange dt n level) s = .next t ∧
      (s.lines.line[n].pin = level → t.lines = s.lines) ∧
      (s.lines.line[n].pin ≠ level → t.lines.line[n] = { s.lines.line[n] with
        pin := level,
        held := s.lines.line[n].output && level != s.lines.line[n].latch,
        debounce := if level = s.lines.line[n].accepted then none else some { candidate := level, start := s.now + dt } })

/-- R111, R118: when the debounce time has run the candidate becomes the accepted value; an input's debounce record is dropped and the
three tests are evaluated on the new values. -/
def Obligations.AcceptedChangeReachesTests : Prop :=
  ∀ (dt : Nat) (n : Fin 8) (d : Debounce) (s : State), s.lines.line[n].debounce = some d →
    s.settings.inForce.lines.debounce * 1000 ≤ s.now + dt - d.start →
    ∃ t, exec (.acceptedChange dt n) s = .next t ∧ t.lines.line[n].accepted = d.candidate ∧
      (s.lines.line[n].output = false → t.lines.line[n].debounce = none ∧
        t.lines.spinPermit = testFlags t.lines s.settings.inForce.lines.spinPermit ∧
        t.lines.dosePermit = testFlags t.lines s.settings.inForce.lines.dosePermit ∧
        t.lines.knock = testFlags t.lines s.settings.inForce.lines.knock)

/-- R117: the four flags of a test over its tested lines (R116: mask bit set and direction INPUT; a line matches when its accepted
value equals its pattern bit). -/
def Obligations.InterlockTestFlags : Prop :=
  ∀ (ls : Lines) (x : TestSetting),
    let tested := fun n : Fin 8 => x.mask.getLsbD n = true ∧ ls.line[n].output = false
    let agree := fun n : Fin 8 => ls.line[n].accepted = x.pattern.getLsbD n
    ((testFlags ls x).all = true ↔ ∀ n, tested n → agree n) ∧
    ((testFlags ls x).none = true ↔ ∀ n, tested n → ¬agree n) ∧
    ((testFlags ls x).some = true ↔ ∃ n, tested n ∧ agree n) ∧
    ((testFlags ls x).someNot = true ↔ ∃ n, tested n ∧ ¬agree n) ∧
    ((∃ n, tested n) → (testFlags ls x).someNot = !(testFlags ls x).all ∧ (testFlags ls x).some = !(testFlags ls x).none) ∧
    ((testFlags ls x).all = true ∧ (testFlags ls x).none = true ↔ ∀ n, ¬tested n) ∧
    ((∀ n, ¬tested n) → testFlags ls x = { all := true, none := true, some := false, someNot := false })

/-! ### Window decoder and upstream ports (chapters 7 and 10) -/

/-- R132: an address below 0x7E00 in no plan page and in no enabled window is the default pass: both ports may write and read it, a
write byte is HELD for its own address and a read byte asks for its own address, with no snoop. With no enabled entry that is all of
memory below the settings region but for the plan pages. -/
def Obligations.DefaultPass : Prop :=
  (∀ (t : TrafficSettings) (p : Port) (write : Bool) (a : Nat), a < 0x7E00 →
    inPage t.pageA a = false → inPage t.pageB a = false →
    ((∀ i : Fin 8, t.windows[i].enabled = true → a < t.windows[i].first ∨ t.windows[i].last < a) ∨
      ∀ i : Fin 8, t.windows[i].enabled = false) →
    decode t p write a = .memory .held none) ∧
  (∀ (dt : Nat) (p : Port) (v : Byte) (s : State),
    decode s.settings.inForce.traffic p true (portOf s p).pointer.toNat = .memory .held none →
    (portOf s p).txn = .writing → (portOf s p).stretch = none → (portOf s p).heldStart = none →
    ∃ t x, exec (.writeDataByte dt p v) s = .next t ∧ (portOf t p).stretch = some x ∧
      x.what = .held (portOf s p).pointer.toNat v ∧ (portOf t p).touch = (portOf s p).touch ∧ t.cmd = s.cmd ∧ t.tel = s.tel) ∧
  (∀ (dt : Nat) (p : Port) (s : State),
    decode s.settings.inForce.traffic p false (portOf s p).pointer.toNat = .memory .held none →
    (portOf s p).txn = .reading → (portOf s p).stretch = none → (portOf s p).heldStart = none →
    (portOf s p).nacked = false →
    ∃ t x, exec (.readDataByte dt p) s = .next t ∧ (portOf t p).stretch = some x ∧
      x.what = .read (portOf s p).pointer.toNat)

/-- R128 to R131, R139: the decode of a byte, in order: beyond the memory; the settings region; a plan page; the first enabled window
that covers it, by its rights; a write byte of the first 16 of a COMMAND or TELEMETRY window goes to memory and to its snoop point. -/
def Obligations.DecodeOrder : Prop :=
  ∀ (t : TrafficSettings) (p : Port) (write : Bool) (a : Nat),
    (0x8000 ≤ a → decode t p write a = .discard .outOfMemory .held) ∧
    (0x7E00 ≤ a → a < 0x8000 →
      decode t p write a =
        if write = true then
          (if p = .d then .discard .forbiddenWrite .held
          else .memory .held (if 0x7FFE ≤ a then some .settings else none))
        else .memory .held none) ∧
    (a < 0x7E00 → (t.pageA ≤ a ∧ a < t.pageA + 256 ∨ t.pageB ≤ a ∧ a < t.pageB + 256) →
      decode t p write a = .discard .hiddenPage .held) ∧
    (a < 0x7E00 → inPage t.pageA a = false → inPage t.pageB a = false → ∀ i : Fin 8, t.windows[i].covers a = true →
      (∀ j : Fin 8, j < i → t.windows[j].covers a = false) →
      (((t.windows[i].rights p).allows write = false → decode t p write a =
          .discard (if write then .forbiddenWrite else .forbiddenRead) t.windows[i].handles) ∧
        ((t.windows[i].rights p).allows write = true →
          (t.windows[i].kind = .planEdit → decode t p write a = .edit (a - t.windows[i].first)) ∧
          (t.windows[i].kind = .planView → decode t p write a = .view (a - t.windows[i].first)) ∧
          (t.windows[i].kind = .command → decode t p write a = .memory t.windows[i].handling
            (if write = true ∧ a - t.windows[i].first < 16 then some (.command (a - t.windows[i].first)) else none)) ∧
          (t.windows[i].kind = .telemetry → decode t p write a = .memory t.windows[i].handling
            (if write = true ∧ a - t.windows[i].first < 16 then some (.telemetry (a - t.windows[i].first)) else none)) ∧
          (t.windows[i].kind = .pass ∨ t.windows[i].kind = .report → decode t p write a = .memory t.windows[i].handling none))))

/-- R176, R177, R200: a start on an idle port with the device's address (0x50 plus the straps) begins a transaction with an
acknowledgement; while the settings unit waits for quiet the address is held instead; before start-up ends, or with another address,
it is not acknowledged. A repeated start in a transaction keeps the touch set and the pointer and drops a stretched byte (that it is
acknowledged during the wait for quiet too is the model's choice, log 85); with another address it ends the transaction. -/
def Obligations.StartBeginsTransaction : Prop :=
  ∀ (dt : Nat) (p : Port) (addr : BitVec 7) (read : Bool) (s : State) (c : Instr), s.est.owed = false →
    c = .upstreamStart dt p addr read ∨ c = .repeatedStart dt p addr read → (portOf s p).heldStart = none →
    ((portOf s p).txn = .idle → (portOf s p).stretch = none) →
    ∃ t, exec c s = .next t ∧ (portOf t p).pointer = (portOf s p).pointer ∧ (portOf t p).post = (portOf s p).post ∧
      ((portOf s p).txn = .idle →
        (started s = true → addr = 0x50#7 + BitVec.ofNat 7 s.link.straps.val →
          if waitsForQuiet s then (portOf t p).heldStart = some read ∧ (portOf t p).txn = .idle ∧ (portOf t p).reply = .none
          else (portOf t p).txn = (if read then .reading else .addressing) ∧ (portOf t p).reply = .ack ∧
            (portOf t p).touch = .empty ∧ (portOf t p).snapshot = none ∧ (portOf t p).reported = [] ∧
            (portOf t p).addrHigh = none) ∧
        (started s = false ∨ addr ≠ 0x50#7 + BitVec.ofNat 7 s.link.straps.val →
          (portOf t p).txn = .idle ∧ (portOf t p).reply = .nack)) ∧
      ((portOf s p).txn ≠ .idle →
        (addr = 0x50#7 + BitVec.ofNat 7 s.link.straps.val →
          (portOf t p).txn = (if read then .reading else .addressing) ∧ (portOf t p).reply = .ack ∧
            (portOf t p).touch = (portOf s p).touch ∧ (portOf t p).snapshot = (portOf s p).snapshot ∧
            (portOf t p).addrHigh = none ∧ (portOf t p).nacked = false ∧ (portOf t p).stretch = none) ∧
        (addr ≠ 0x50#7 + BitVec.ofNat 7 s.link.straps.val →
          (portOf t p).txn = .idle ∧ (portOf t p).reply = .nack ∧ (portOf t p).touch = .empty))

/-- R127, R177: the two memory address bytes of a write are acknowledged; the second sets the pointer, high byte first, and the port
takes write bytes from then on. -/
def Obligations.AddressBytesSetPointer : Prop :=
  ∀ (dt : Nat) (p : Port) (v : Byte) (s : State), (portOf s p).txn = .addressing → (portOf s p).stretch = none →
    (portOf s p).heldStart = none →
    ∃ t, exec (.memoryAddressByte dt p v) s = .next t ∧
      ((portOf s p).addrHigh = none → portOf t p = { portOf s p with addrHigh := some v, reply := .ack }) ∧
      (∀ h, (portOf s p).addrHigh = some h →
        portOf t p = { portOf s p with addrHigh := none, pointer := h ++ v, txn := .writing, reply := .ack })

/-- R127, R136, R139, R146, R179, R180: a write byte by its decode: a HELD discard is a NACK after which the port ignores the bus, a
POSTED discard is acknowledged; a POSTED byte joins the post buffer where there is room and is stretched where there is none; a HELD
byte, and a PLAN_EDIT byte at its place in the staging page, is stretched until the memory has it, a PLAN_EDIT byte during a swap
until the swap has ended. The pointer rises by 1 and stops at 0xFFFF, at once for a byte that is stretched too (the model's choice,
log 29); a snooped byte goes to its owner. -/
def Obligations.WriteByteFollowsDecode : Prop :=
  ∀ (dt : Nat) (p : Port) (v : Byte) (s : State), (portOf s p).txn = .writing → (portOf s p).stretch = none →
    (portOf s p).heldStart = none → s.est.owed = false →
    let a := (portOf s p).pointer.toNat
    let d := decode s.settings.inForce.traffic p true a
    ∃ t, exec (.writeDataByte dt p v) s = .next t ∧
      (portOf t p).pointer = (if (portOf s p).pointer = 0xFFFF then 0xFFFF else (portOf s p).pointer + 1) ∧
      (∀ k, d = .discard k .held → (portOf t p).txn = .ignoring ∧ (portOf t p).reply = .nack) ∧
      (∀ k, d = .discard k .posted → (portOf t p).txn = .writing ∧ (portOf t p).reply = .ack) ∧
      (∀ k h, d = .discard k h → (portOf t p).post = (portOf s p).post ∧ (portOf t p).stretch = none ∧
        (k ∉ (portOf s p).reported → t.report.lastAccess = some { port := p, kind := k, addr := a } ∧
          (portOf t p).reported = (portOf s p).reported ++ [k]) ∧
        (k ∈ (portOf s p).reported → AccessKept s t)) ∧
      (∀ x, d = .memory .posted x → (portOf s p).post.length < 32 →
        (portOf t p).post = (portOf s p).post ++ [(a, v)] ∧ (portOf t p).reply = .ack ∧ (portOf t p).stretch = none) ∧
      (∀ x, d = .memory .posted x → 32 ≤ (portOf s p).post.length →
        (portOf t p).stretch = some { what := .post a v, addr := a, since := s.now + dt } ∧ (portOf t p).reply = .none) ∧
      (∀ x, d = .memory .held x →
        (portOf t p).stretch = some { what := .held a v, addr := a, since := s.now + dt } ∧ (portOf t p).reply = .none) ∧
      (∀ o, d = .edit o → swapBusy s = false → (portOf t p).stretch =
        some { what := .held (stagingBase s + o) v, addr := a, since := s.now + dt } ∧
        (o = 0xF0 → (portOf t p).touch.commit = true ∧
          ((∀ q, (portOf s q).stretch = none) → t.pages.commitCode = v))) ∧
      (∀ o, d = .edit o → swapBusy s = true →
        (portOf t p).stretch = some { what := .editWrite o v, addr := a, since := s.now + dt }) ∧
      (∀ h o, d = .memory h (some (.command o)) → (portOf t p).touch.command = true ∧
        t.cmd.image = s.cmd.image.setIfInBounds o v ∧ t.cmd.written = s.cmd.written.setIfInBounds o true) ∧
      (∀ h o, d = .memory h (some (.telemetry o)) → (portOf t p).touch.telemetry = true ∧
        t.tel.image = s.tel.image.setIfInBounds o v ∧ t.tel.written = s.tel.written.setIfInBounds o true) ∧
      (∀ h, d = .memory h (some .settings) → (portOf t p).touch.settings = true)

/-- R127, R133 to R135, R146, R173, R182: a read byte by its decode: a discarded one is sent as 0xFF; a PLAN_VIEW byte at offset 0xE0 to
0xEF comes from the live command as the transaction first found it; any other waits for the memory at its own place or, through
PLAN_EDIT and PLAN_VIEW, at its place in the staging or the active page; a PLAN_EDIT byte during a swap waits for its end. The pointer
rises by 1 and stops at 0xFFFF, at once for a byte that is stretched too (the model's choice, log 29); the one before is kept while the
byte is sent (log 68). -/
def Obligations.ReadByteFollowsDecode : Prop :=
  ∀ (dt : Nat) (p : Port) (s : State), (portOf s p).txn = .reading → (portOf s p).stretch = none →
    (portOf s p).heldStart = none → (portOf s p).nacked = false → s.est.owed = false →
    let a := (portOf s p).pointer.toNat
    let d := decode s.settings.inForce.traffic p false a
    ∃ t, exec (.readDataByte dt p) s = .next t ∧ (portOf t p).txn = .reading ∧
      (portOf t p).pointer = (if (portOf s p).pointer = 0xFFFF then 0xFFFF else (portOf s p).pointer + 1) ∧
      (portOf t p).sending = some (portOf s p).pointer ∧
      (∀ k h, d = .discard k h → (portOf t p).reply = .byte 0xFF ∧ (portOf t p).stretch = none ∧
        (k ∉ (portOf s p).reported → t.report.lastAccess = some { port := p, kind := k, addr := a })) ∧
      (∀ h x, d = .memory h x → (portOf t p).stretch = some { what := .read a, addr := a, since := s.now + dt }) ∧
      (∀ o, d = .edit o → swapBusy s = false →
        (portOf t p).stretch = some { what := .read (stagingBase s + o), addr := a, since := s.now + dt }) ∧
      (∀ o, d = .edit o → swapBusy s = true →
        ((portOf s p).editRefused = false →
          (portOf t p).stretch = some { what := .editRead o, addr := a, since := s.now + dt }) ∧
        ((portOf s p).editRefused = true → (portOf t p).reply = .byte 0xFF ∧ (portOf t p).stretch = none)) ∧
      (∀ o, d = .view o → 0xE0 ≤ o → o ≤ 0xEF → ∃ l,
        (portOf t p).snapshot = some l ∧ ((portOf s p).snapshot = none → l = liveCommand s.gov) ∧
          (∀ m, (portOf s p).snapshot = some m → l = m) ∧
          (portOf t p).reply = .byte ((liveBytes l).getD (o - 0xE0) 0) ∧ (portOf t p).stretch = none) ∧
      (∀ o, d = .view o → o < 0xE0 ∨ 0xEF < o → ∃ g, (portOf t p).viewPage = some g ∧
        ((portOf s p).viewPage = none → g = s.pages.active) ∧ (∀ g', (portOf s p).viewPage = some g' → g = g') ∧
        (portOf t p).stretch = some { what := .read (pageBase s g + o), addr := a, since := s.now + dt })

/-- R140, R161, R147, R177: the controller's NACK ends the bytes of a read; a stop condition, and a start or stop in the middle of a
byte, ends the transaction: the port is idle, nothing stays stretched, and the touch set is handed over (that the hand-overs are kept as
flags, with the tests of the sequence and of the commit code made here, is the model's choice, log 7). The pointer stays, also where a
stretched byte is cut off, which it has counted (the model's choice, log 29). A read byte cut in the middle of its sending is neither
counted by the pointer nor decoded: a read byte sent without stretching and then cut leaves the pointer and the access faults as it found
them (that an operand says whether the byte cut is the read byte last begun is the model's choice, log 68). -/
def Obligations.NackAndStopEndBytes : Prop :=
  ∀ (dt : Nat) (p : Port) (s : State), (portOf s p).heldStart = none →
    ((portOf s p).txn = .reading → (portOf s p).stretch = none →
      ∃ t, exec (.controllerNack dt p) s = .next t ∧ (portOf t p).nacked = true ∧ (portOf t p).reply = .none ∧
        (portOf t p).txn = .reading) ∧
    (∀ c begun, c = .stopCondition dt p ∨ c = .midByteCondition dt ⟨p, begun⟩ → (portOf s p).txn ≠ .idle →
      ∃ t, exec c s = .next t ∧ (portOf t p).txn = .idle ∧ (portOf t p).stretch = none ∧
        (portOf t p).touch = .empty ∧ (portOf t p).post = (portOf s p).post ∧
        (c = .stopCondition dt p ∨ begun = false ∨ (portOf s p).stretch ≠ none ∨ (portOf s p).sending = none →
          (portOf t p).pointer = (portOf s p).pointer ∧ AccessKept s t) ∧
        (c = .midByteCondition dt ⟨p, true⟩ → (portOf s p).stretch = none → ∀ a, (portOf s p).sending = some a →
          (portOf t p).pointer = a) ∧
        t.hand.command = (s.hand.command ||
          ((portOf s p).touch.command && s.cmd.written[0] && s.cmd.lastSeq != some s.cmd.image[0])) ∧
        t.hand.telemetry = (s.hand.telemetry || (portOf s p).touch.telemetry) ∧
        t.hand.commit = (s.hand.commit || ((portOf s p).touch.commit && s.pages.commitCode == 0x01)) ∧
        t.hand.settings = (s.hand.settings || (portOf s p).touch.settings)) ∧
    ∀ (dt' : Nat) (t u : State), (portOf s p).txn = .reading → (portOf s p).stretch = none → (portOf s p).nacked = false →
      s.est.owed = false → exec (.readDataByte dt p) s = .next u → (portOf u p).stretch = none →
      exec (.midByteCondition dt' ⟨p, true⟩) u = .next t →
      (portOf t p).txn = .idle ∧ (portOf t p).pointer = (portOf s p).pointer ∧ AccessKept s t

/-- R146, R178: a byte stretched for 20 ms that is not on the M-port is refused: a write byte with a NACK after which the port ignores the
bus, a read byte as 0xFF; the access fault is EDIT_BUSY for a PLAN_EDIT byte and MEMORY_TIMEOUT for any other, with the byte's own
upstream address. -/
def Obligations.StretchLimitRefusesByte : Prop :=
  ∀ (dt : Nat) (p : Port) (x : Stretch) (s : State), (portOf s p).stretch = some x → (portOf s p).heldStart = none →
    20000 ≤ s.now + dt - x.since → onBus s p = false →
    ∃ t k, exec (.stretchLimit dt p) s = .next t ∧ (portOf t p).stretch = none ∧
      k = (match x.what with | .editWrite _ _ | .editRead _ => .editBusy | _ => .memoryTimeout) ∧
      (k ∉ (portOf s p).reported → t.report.lastAccess = some { port := p, kind := k, addr := x.addr }) ∧
      (match x.what with
        | .editWrite _ _ | .post _ _ | .held _ _ => (portOf t p).txn = .ignoring ∧ (portOf t p).reply = .nack
        | .editRead _ | .read _ => (portOf t p).txn = (portOf s p).txn ∧ (portOf t p).reply = .byte 0xFF)

/-! ### Memory link (chapter 10) -/

/-- R179, R182, R184, R185: a burst or read of a port that has been idle for 200 µs is to close (that those of a read count from the return
of its last byte is the model's choice, log 95); a port's transfer that is to close ends, and a transfer then on the M-port is a new one; 100 µs after a device address that was not acknowledged the transfer is repeated,
three times at most. Every event ends with the arbiter. It leaves a busy M-port, and one for which no requester waits. A free one it grants:
to the first of the waiting requesters with an ageing count of 4 or more, where there is one, else to the first of all that wait, in the
order D-port, internal work, C-port. The grant sets the count of the granted one to 0, adds 1 to that of every other that waited and leaves
the rest; a port's transfer is the one it asked for, the internal work's the oldest of its list. -/
def Obligations.TransfersEndRetryAndAreGranted : Prop :=
  (∀ (dt : Nat) (x : Transfer) (p : Port) (s : State), s.link.transfer = some x →
    (x.who = requesterOf p → x.busy = false → 200 ≤ s.now + dt - x.since →
      (x.kind = .burst → ∃ t y, exec (.heldBurstIdle dt p) s = .next t ∧ t.link.transfer = some y ∧ y.closing = true ∧
        y.kind = .burst ∧ y.who = x.who ∧ y.addr = x.addr) ∧
      (x.kind = .read → ∃ t y, exec (.readIdle dt p) s = .next t ∧ t.link.transfer = some y ∧ y.closing = true ∧
        y.kind = .read ∧ y.who = x.who ∧ y.addr = x.addr)) ∧
    (x.who = requesterOf p → x.closing = true → x.busy = false →
      ∃ t, exec (.transferEnd dt) s = .next t ∧ ∀ y, t.link.transfer = some y →
        y.count = 0 ∧ y.closing = false ∧ y.busy = true ∧ y.retries = 0 ∧ y.since = s.now + dt) ∧
    (x.busy = true → x.count = 0 → x.retries < 3 → 100 ≤ s.now + dt - x.since →
      ∃ t y, exec (.addressRetry dt) s = .next t ∧ t.link.transfer = some y ∧ y.retries = x.retries + 1 ∧
        y.since = s.now + dt ∧ y.addr = x.addr ∧ y.kind = x.kind ∧ y.who = x.who ∧ y.busy = true) ∧
    (3 ≤ x.retries → ∃ t y, exec (.addressRetry dt) s = .next t ∧ t.link.transfer = some y ∧ y.retries = x.retries ∧
      y.since = x.since)) ∧
  (∀ (c : Instr) (s : State), ∃ u, exec c s = .next (arbitrate u)) ∧
  ∀ s : State,
    let waits := fun r : Requester => match r with
      | .dport => (portRequest s .d).isSome = true
      | .internal => s.link.internal ≠ []
      | .cport => (portRequest s .c).isSome = true
    let rank := fun r : Requester => match r with
      | .dport => 0
      | .internal => 1
      | .cport => 2
    (s.link.transfer ≠ none → arbitrate s = s) ∧ ((∀ r, ¬waits r) → arbitrate s = s) ∧
    ∀ r, s.link.transfer = none → waits r →
      (4 ≤ ageOf s.link r ∧ ∀ q, waits q → 4 ≤ ageOf s.link q → rank r ≤ rank q) ∨
          (∀ q, waits q → ageOf s.link q < 4 ∧ rank r ≤ rank q) →
      ageOf (arbitrate s).link r = 0 ∧
        (∀ q, q ≠ r → waits q → ageOf (arbitrate s).link q = ageOf s.link q + 1) ∧
        (∀ q, ¬waits q → ageOf (arbitrate s).link q = ageOf s.link q) ∧
        (∀ x, (arbitrate s).link.transfer = some x → x.who = r) ∧
        (∀ p, r = requesterOf p → (arbitrate s).link.transfer = portRequest s p) ∧
        ∀ j rest, r = .internal → s.link.internal = j :: rest → (arbitrate s).link.internal = rest ∧
          (j ≠ .logNext → ∃ x, (arbitrate s).link.transfer = some x ∧ x.kind = .job j false)

/-- R179, R181, R182: the memory's acknowledgement of a port's write byte stores it; of a HELD byte the controller gets its
acknowledgement, of a drained one the entry leaves the post buffer. A byte that has come back from the memory is sent upstream. The
acknowledgement of a byte that was cut off, which has left its transfer closing, does not answer the HELD byte that waits after it; that
such a byte is still stored is the model's choice (log 31). A POSTED byte that has waited for room joins the buffer when an entry
leaves it. -/
def Obligations.MemoryBytesCompletePortTransfers : Prop :=
  ∀ (dt : Nat) (x : Transfer) (p : Port) (s : State), s.link.transfer = some x → x.who = requesterOf p → x.busy = true →
    (portOf s p).heldStart = none →
    (x.kind = .burst → memoryForm s = true → x.addr < 0x8000 →
      ∃ t, exec (.memoryDataAck dt) s = .next t ∧ readByte t x.addr = x.data ∧
        ((portOf s p).stretch.isSome = true → x.closing = false → (portOf t p).stretch = none ∧ (portOf t p).reply = .ack) ∧
        (x.closing = true → ∀ y a v, (portOf s p).stretch = some y → y.what = .held a v → (portOf t p).stretch = some y)) ∧
    (∀ n, x.kind = .drain n → memoryForm s = true → x.addr < 0x8000 →
      ∃ t, exec (.memoryDataAck dt) s = .next t ∧ readByte t x.addr = x.data ∧
        ((portOf s p).stretch = none → (portOf t p).post = (portOf s p).post.drop 1) ∧
        ∀ y, (portOf s p).stretch = some y →
          (∀ a v, y.what = .held a v ∨ y.what = .read a →
            (portOf t p).post = (portOf s p).post.drop 1 ∧ (portOf t p).stretch = some y) ∧
          (∀ a v, y.what = .post a v → (portOf s p).post.length ≤ 32 → (portOf s p).post ≠ [] →
            (portOf t p).post = (portOf s p).post.drop 1 ++ [(a, v)] ∧ (portOf t p).stretch = none ∧
              (portOf t p).reply = .ack)) ∧
    (x.kind = .read → (portOf s p).stretch.isSome = true → x.closing = false →
      ∃ t, exec (.memoryReadByte dt) s = .next t ∧ (portOf t p).stretch = none ∧
        (portOf t p).reply = .byte (readByte s x.addr))

/-- R181, R184, R191: a transfer that fails latches MEMORY_FAULT: a HELD byte of a port is refused with a NACK, a read byte is sent as
0xFF (a byte that was cut off has left its transfer closing, and answers nothing), and a drain latches POSTED_WRITE_LOST and loses the
one entry at a data byte, and all the entries it took at the device address. That it loses all of them at a memory address byte too is
the model's choice (log 28): R181 does not name that case. Of an internal write that fails at a data byte, a log write apart (R194,
log 87), the bytes already acknowledged are in memory. -/
def Obligations.FailedTransferLatchesMemoryFault : Prop :=
  ∀ (dt : Nat) (cause : FailCause) (x : Transfer) (s : State), s.link.transfer = some x → causeFits x cause = true →
    ∃ t, exec (.transferFailed dt cause) s = .next t ∧ isLatched t .memoryFault = true ∧
      (∀ j o acked, x.kind = .job j o → isLogWrite j = false → cause = .dataByte acked → memoryForm s = true →
        ∀ (i : Nat) (h : i < (jobData j).length), i < acked → jobAddr j + i < 0x8000 →
          readByte t (jobAddr j + i) = (jobData j)[i]) ∧
      ∀ p, x.who = requesterOf p → (portOf s p).heldStart = none →
        (x.kind = .burst → x.closing = false → ∀ y a v, (portOf s p).stretch = some y → y.what = .held a v →
          (portOf t p).txn = .ignoring ∧ (portOf t p).reply = .nack ∧ (portOf t p).stretch = none) ∧
        (x.kind = .read → x.closing = false → ∀ y a, (portOf s p).stretch = some y → y.what = .read a →
          (portOf t p).txn = (portOf s p).txn ∧ (portOf t p).reply = .byte 0xFF ∧ (portOf t p).stretch = none) ∧
        (∀ n, x.kind = .drain n → (portOf s p).stretch = none → isLatched t .postedWriteLost = true ∧
          (portOf t p).post = (portOf s p).post.drop (match cause with | .dataByte _ => 1 | _ => n))

/-! ### Plan page unit (chapter 8) -/

/-- R147: a commit that has been handed over is taken when no swap is in flight, and the swap begins with the commit record; during a
swap it is refused as BUSY and the swap goes on. -/
def Obligations.CommitBeginsSwapOrIsBusy : Prop :=
  ∀ (dt : Nat) (s : State), s.hand.commit = true →
    ∃ t, exec (.commit dt) s = .next t ∧ t.hand.commit = false ∧ t.pages.active = s.pages.active ∧
      t.pages.valid = s.pages.valid ∧
      (s.pages.swap = none → ∃ w, t.pages.swap = some w ∧ w.phase = .record ∧ w.carry = none ∧ w.bytes = [] ∧
        t.pages.result = s.pages.result) ∧
      (∀ w, s.pages.swap = some w → t.pages.swap = some w ∧ t.pages.result = .busy)

/-- R148: the commit record at `a` (byte 1 the header carry flag, byte 2 the steps carry flag, byte 3 the amend flag) fills the swap
record; a running plan without the amend flag ends the swap as REFUSED_RUNNING with no page changed, with it the plan's identity is
noted. -/
def Obligations.CommitRecordFillsSwap : Prop :=
  ∀ (dt a : Nat) (w : Swap) (s : State), jobOnBus s = some (.commitRecord a, false) → s.pages.swap = some w →
    ∃ t, exec (.commitRecordRead dt) s = .next t ∧ MemoryKept s t ∧ t.pages.active = s.pages.active ∧
      (planUnderWay s = true ∧ readByte s (a + 3) = 0 → t.pages.swap = none ∧ t.pages.result = .refusedRunning) ∧
      (¬(planUnderWay s = true ∧ readByte s (a + 3) = 0) → ∃ u, t.pages.swap = some u ∧
        u.headerCarry = (readByte s (a + 1) != 0) ∧ u.stepsCarry = (readByte s (a + 2) != 0) ∧
        u.amend = (readByte s (a + 3) != 0) ∧
        u.noted = (if planUnderWay s then some s.runner.plan.identity else none) ∧
        u.phase = (if readByte s (a + 1) ≠ 0 then .carryHeader else if readByte s (a + 2) ≠ 0 then .carrySteps
          else .validate))

/-- R149: a carry-copy read keeps its sixteen bytes for the write; the write stores them and goes on with the next granule of the
header (0x00 to 0x1F) or the steps (0x20 to 0xDF), with the steps after the header where both are carried, and with the validation
after the last. -/
def Obligations.CarryCopyMovesGranules : Prop :=
  ∀ (dt a : Nat) (w : Swap) (s : State), s.pages.swap = some w →
    (jobOnBus s = some (.carryRead a, false) →
      ∃ t, exec (.carryRead dt) s = .next t ∧ t.pages.swap = some { w with carry := some (readBytes s a 16) }) ∧
    (∀ l, jobOnBus s = some (.carryWrite a l, false) →
      ∃ t u, exec (.carryWrite dt) s = .next t ∧
        (memoryForm s = true → ∀ (i : Nat) (h : i < l.length), a + i < 0x8000 → readByte t (a + i) = l[i]) ∧
        t.pages.swap = some u ∧ u.carry = none ∧
        (w.phase = .carryHeader → w.offset = 0x10 → w.stepsCarry = true → u.phase = .carrySteps ∧ u.offset = 0x20) ∧
        (w.phase = .carryHeader → w.offset = 0x10 → w.stepsCarry = false → u.phase = .validate ∧ u.offset = 0) ∧
        (w.offset = 0xD0 → u.phase = .validate ∧ u.offset = 0) ∧
        (¬(w.phase = .carryHeader ∧ w.offset = 0x10) → w.offset ≠ 0xD0 → u.phase = w.phase ∧ u.offset = w.offset + 16))

/-- R150 to R153: a validation read before the last one keeps its bytes; after the last the page is checked: the first failing check
rejects it with its number and step index; a page that passes while no plan is under way, or that carries the noted identity, is
flipped in: the other page is active, the copy is the page's and valid, the result SWAPPED. Any other is REFUSED_RUNNING. -/
def Obligations.ValidationRejectsOrFlips : Prop :=
  ∀ (dt a : Nat) (w : Swap) (s : State), s.pages.swap = some w → jobOnBus s = some (.validate a, false) →
    ∃ t, exec (.validationRead dt) s = .next t ∧
      (w.offset ≠ 0xD0 → t.pages.swap = some { w with bytes := w.bytes ++ readBytes s a 16, offset := w.offset + 16 } ∧
        t.runner.plan = s.runner.plan) ∧
      (w.offset = 0xD0 → t.pages.swap = none ∧
        let page := w.bytes ++ readBytes s a 16
        let needed := if planUnderWay s then some (s.runner.doseUsed + outstanding s.dosing fun _ => true) else none
        (∀ k i, planCheck s.settings.inForce page needed = some (k, i) →
          t.pages.result = .rejected ∧ t.pages.check = k ∧ t.pages.stepIndex = i ∧ t.pages.active = s.pages.active ∧
            t.pages.valid = s.pages.valid ∧ t.runner.plan = s.runner.plan) ∧
        (planCheck s.settings.inForce page needed = none →
          (planUnderWay s = false ∨ w.noted = some (planOf page).identity →
            t.pages.result = .swapped ∧ t.pages.active = otherPage s.pages.active ∧ t.pages.valid = true ∧
              t.runner.plan = planOf page) ∧
          (planUnderWay s = true → w.noted ≠ some (planOf page).identity →
            t.pages.result = .refusedRunning ∧ t.pages.active = s.pages.active ∧ t.runner.plan = s.runner.plan)))

/-! ### Telemetry checks and command block (chapter 9) -/

/-- R168 to R171: a telemetry record that has been handed over is adopted; with a new sequence it is fresh and restarts the age timer. At
the age limit the timer stops, and during a run outside IDLE and TRIP the block trips on TELEMETRY_STALE (R72, R74); with no run
nothing else happens. -/
def Obligations.TelemetryAdoptionAndAge : Prop :=
  (∀ (dt : Nat) (s : State), s.hand.telemetry = true →
    ∃ t, exec (.telemetryAdopt dt) s = .next t ∧ t.hand.telemetry = false ∧ t.tel.adopted = some (telemetryOf s.tel.image) ∧
      t.tel.adoptedSeq = some s.tel.image[0] ∧ t.tel.prevDrive = some (telemetryOf s.tel.image).drive ∧
      (s.tel.adoptedSeq ≠ some s.tel.image[0] → t.tel.lastFresh = some (s.now + dt) ∧ t.tel.running = true) ∧
      (s.tel.adoptedSeq = some s.tel.image[0] → t.tel.lastFresh = s.tel.lastFresh ∧ t.tel.running = s.tel.running)) ∧
  (∀ (dt f : Nat) (s : State), s.est.owed = false → s.tel.running = true → s.tel.lastFresh = some f →
    s.settings.inForce.governor.ageLimit * 1000 ≤ s.now + dt - f →
    ∃ t, exec (.telemetryAgeExpiry dt) s = .next t ∧ t.tel.running = false ∧
      (s.gov.run = false → t.gov = s.gov ∧ t.runner = s.runner ∧ t.report.latches = s.report.latches) ∧
      (s.gov.run = true → s.gov.state ≠ .idle → s.gov.state ≠ .trip →
        t.gov.state = .trip ∧ t.gov.target = 0 ∧ isLatched t .telemetryStale = true))

/-- R63, R71, R78, R82, R161: START_PLAN and RESUME are taken exactly when the rules' conditions hold, and then the step (0, or the
retry target) is in hand with the governor out of IDLE; a refused one changes neither the governor nor the runner. That the tests at
the beginning of a run find no fault is a premise. -/
def Obligations.StartAndResumeEnterStep : Prop :=
  ∀ (dt : Nat) (s : State), s.hand.command = true → s.est.owed = false → restLaw s = true → s.dosing.pass = none →
    (s.cmd.image[1] = 0x01 →
      ∃ t, exec (.startPlan dt) s = .next t ∧ t.cmd.lastSeq = some s.cmd.image[0] ∧ t.hand.command = false ∧
        t.cmd.mask = 0 ∧
        (s.gov.state = .idle ∧ s.runner.state ≠ .running ∧ s.runner.state ≠ .waitResume ∧ s.pages.valid = true ∧
            tripLatched s = false ∧ s.lines.spinPermit.all = true ∧ s.settings.restricted = false ∧ s.pages.swap = none →
          t.cmd.result = .taken ∧
          ∀ p, s.runner.plan.steps[0]? = some p → s.tel.running = true → (∀ r, s.tel.adopted = some r → r.drive ≠ .fault) →
            s.lines.knock.some = false →
            t.runner.state = .running ∧ t.runner.stepIndex = 0 ∧ t.runner.retries = 0 ∧ t.runner.doseUsed = 0 ∧
              t.runner.endReason = .none ∧ t.gov.step = some p ∧ t.gov.run = true ∧ t.gov.state ≠ .idle ∧
              t.lines.askLock = some true) ∧
        (¬(s.gov.state = .idle ∧ s.runner.state ≠ .running ∧ s.runner.state ≠ .waitResume ∧ s.pages.valid = true ∧
            tripLatched s = false ∧ s.lines.spinPermit.all = true ∧ s.settings.restricted = false ∧ s.pages.swap = none) →
          t.cmd.result = .refusedState ∧ t.gov = s.gov ∧ t.runner = s.runner)) ∧
    (s.cmd.image[1] = 0x04 →
      ∃ t, exec (.resume dt) s = .next t ∧ t.cmd.lastSeq = some s.cmd.image[0] ∧ t.hand.command = false ∧ t.cmd.mask = 0 ∧
        (s.runner.state = .waitResume ∧ s.gov.state = .idle ∧ tripLatched s = false ∧ s.lines.spinPermit.all = true ∧
            s.pages.swap = none →
          t.cmd.result = .taken ∧
          ∀ p, s.runner.plan.steps[s.runner.plan.retryTarget]? = some p → s.tel.running = true →
            (∀ r, s.tel.adopted = some r → r.drive ≠ .fault) → s.lines.knock.some = false →
            t.runner.state = .running ∧ t.runner.stepIndex = s.runner.plan.retryTarget ∧
              t.runner.retries = s.runner.retries ∧ t.gov.step = some p ∧ t.gov.run = true ∧ t.gov.state ≠ .idle ∧
              t.lines.askLock = some true) ∧
        (¬(s.runner.state = .waitResume ∧ s.gov.state = .idle ∧ tripLatched s = false ∧ s.lines.spinPermit.all = true ∧
            s.pages.swap = none) →
          t.cmd.result = .refusedState ∧ t.gov = s.gov ∧ t.runner = s.runner))

/-- R72, R83, R84, R164: STOP ends a plan that is under way, cuts the dose queue and brings the governor into STOPPING unless it is in
IDLE, STOPPING or TRIP already; without a plan it is refused. HALT is always taken and latched: it trips a governor that is not in IDLE
or TRIP, with the plan under way ended and the dose queue cut, and leaves one that is. -/
def Obligations.StopAndHaltEndPlan : Prop :=
  ∀ (dt : Nat) (s : State), s.hand.command = true → s.est.owed = false → restLaw s = true →
    (s.cmd.image[1] = 0x02 →
      ∃ t, exec (.stop dt) s = .next t ∧ t.cmd.lastSeq = some s.cmd.image[0] ∧ t.hand.command = false ∧
        (s.runner.state = .running ∨ s.runner.state = .waitResume →
          t.cmd.result = .taken ∧ t.runner.state = .aborted ∧ t.runner.endReason = .stopped ∧ t.dosing.queue = [] ∧
            t.gov.step = none ∧ t.gov.target = 0 ∧
            t.gov.state = (if s.gov.state = .idle then .idle else if s.gov.state = .trip then .trip else .stopping)) ∧
        (s.runner.state ≠ .running → s.runner.state ≠ .waitResume →
          t.cmd.result = .refusedState ∧ t.gov = s.gov ∧ t.runner = s.runner ∧ t.dosing = s.dosing)) ∧
    (s.cmd.image[1] = 0x03 →
      ∃ t, exec (.halt dt) s = .next t ∧ t.cmd.lastSeq = some s.cmd.image[0] ∧ t.hand.command = false ∧
        t.cmd.result = .taken ∧ isLatched t .halt = true ∧
        (s.gov.state = .idle ∨ s.gov.state = .trip → t.gov = s.gov ∧ t.runner = s.runner) ∧
        (s.gov.state ≠ .idle → s.gov.state ≠ .trip →
          t.gov.state = .trip ∧ t.gov.target = 0 ∧ t.gov.step = none ∧ t.dosing.queue = [] ∧
            (s.runner.state = .running ∨ s.runner.state = .waitResume →
              t.runner.state = .aborted ∧ t.runner.endReason = .tripped)))

/-- R91, R96, R97: DOSE adds an order to the queue when its conditions hold and chamber and volume are within their limits; it is refused
by the state or by the argument otherwise. DOSE_CANCEL is always taken and leaves no pass in progress and, where none was in progress,
no order. -/
def Obligations.DoseAndCancelCommands : Prop :=
  ∀ (dt : Nat) (s : State), s.hand.command = true → s.est.owed = false → queueLaw s = true → orderLaw s = true →
    (s.cmd.image[1] = 0x05 →
      ∃ t, exec (.dose dt) s = .next t ∧ t.cmd.lastSeq = some s.cmd.image[0] ∧ t.hand.command = false ∧ t.gov = s.gov ∧
        t.runner = s.runner ∧ t.dosing.accounts = s.dosing.accounts ∧
        (mayDose s = true → ∀ h : s.cmd.image[2].toNat < 4,
          let v := s.cmd.image[3].toNat + 256 * s.cmd.image[4].toNat
          (1 ≤ v ∧ v ≤ remainingCapacity s ⟨s.cmd.image[2].toNat, h⟩ ∧ v ≤ remainingBudget s →
            t.cmd.result = .taken ∧ t.dosing.nextNumber = s.dosing.nextNumber + 1 ∧
              t.dosing.queue = s.dosing.queue ++ [{
                number := s.dosing.nextNumber, origin := .command, chamber := ⟨s.cmd.image[2].toNat, h⟩, ordered := v,
                injected := 0, capLimited := false, settle := 0,
                state := if s.dosing.queue = [] then .injecting else .queued }]) ∧
          (¬(1 ≤ v ∧ v ≤ remainingCapacity s ⟨s.cmd.image[2].toNat, h⟩ ∧ v ≤ remainingBudget s) →
            t.cmd.result = .refusedArgument ∧ t.dosing = s.dosing)) ∧
        (mayDose s = true → 4 ≤ s.cmd.image[2].toNat → t.cmd.result = .refusedArgument ∧ t.dosing = s.dosing) ∧
        (mayDose s = false → t.cmd.result = .refusedState ∧ t.dosing = s.dosing)) ∧
    (s.cmd.image[1] = 0x06 →
      ∃ t, exec (.doseCancel dt) s = .next t ∧ t.cmd.lastSeq = some s.cmd.image[0] ∧ t.hand.command = false ∧
        t.cmd.result = .taken ∧ t.dosing.pass = none) ∧
    (s.cmd.image[1] = 0x06 → s.dosing.pass = none →
      ∃ t, exec (.doseCancel dt) s = .next t ∧ t.dosing.queue = [] ∧ t.gov = s.gov ∧ t.runner = s.runner ∧
        t.dosing.accounts = s.dosing.accounts ∧ (s.dosing.queue = [] → t.dosing = s.dosing))

/-- R113, R114: LINES acts on the controller-owned outputs (L2 to L7 with the direction OUTPUT) by their mode and data bits: 00 clear,
01 set, 10 keep, 11 invert; every other line keeps its record, and one of them that is named for an action makes the command
TAKEN_PARTIAL with its bit in the refused mask. -/
def Obligations.LinesCommandDrivesOutputs : Prop :=
  ∀ (dt : Nat) (s : State), s.hand.command = true → s.est.owed = false → s.cmd.image[1] = 0x07 →
    ∃ t, exec (.lines dt) s = .next t ∧ t.cmd.lastSeq = some s.cmd.image[0] ∧ t.hand.command = false ∧
      t.cmd.result = (if t.cmd.mask = 0 then .taken else .takenPartial) ∧
      ∀ n : Fin 8,
        let mode := s.cmd.image[2].getLsbD n
        let data := s.cmd.image[3].getLsbD n
        let l := s.lines.line[n]
        (t.cmd.mask.getLsbD n = true ↔ ¬(mode = true ∧ data = false) ∧ ¬(2 ≤ n.val ∧ l.output = true)) ∧
        (2 ≤ n.val ∧ l.output = true → t.lines.line[n].latch =
            (if mode then (if data then !l.latch else l.latch) else data) ∧
          t.lines.line[n].output = true ∧ t.lines.line[n].accepted = l.accepted) ∧
        (¬(2 ≤ n.val ∧ l.output = true) → t.lines.line[n] = l)

/-- R161, R162, R165, R166, R191: ACK_FAULTS removes the accepted kinds from the latch set (every kind of the mask in IDLE, no trip kind
otherwise) and is refused for a mask with an unknown bit; CLEAR_COUNTS empties the access faults and keeps the log drops; REPORT_NOW asks
for a report write; an unknown code is answered as such. -/
def Obligations.FaultCountAndReportCommands : Prop :=
  ∀ (dt : Nat) (s : State), s.hand.command = true → s.est.owed = false →
    (s.cmd.image[1] = 0x08 →
      ∃ t, exec (.ackFaults dt) s = .next t ∧ t.cmd.lastSeq = some s.cmd.image[0] ∧ t.hand.command = false ∧ t.cmd.mask = 0 ∧
        let word := s.cmd.image[2].toNat + 256 * s.cmd.image[3].toNat
        let mask := BitVec.ofNat 11 word
        let accepted := if s.gov.state = .idle then mask else mask &&& 0x700#11
        (word < 2048 → t.report.latches = s.report.latches &&& ~~~accepted ∧
          t.cmd.result = (if accepted = mask then .taken else if accepted = 0 then .refusedState else .takenPartial)) ∧
        (2048 ≤ word → t.report.latches = s.report.latches ∧ t.cmd.result = .refusedArgument)) ∧
    (s.cmd.image[1] = 0x09 →
      ∃ t, exec (.clearCounts dt) s = .next t ∧ t.cmd.lastSeq = some s.cmd.image[0] ∧ t.hand.command = false ∧
        t.cmd.result = .taken ∧ t.report.accessCount = 0 ∧ t.report.lastAccess = none ∧
        t.report.drops = s.report.drops) ∧
    (s.cmd.image[1] = 0x0B →
      ∃ t, exec (.reportNow dt) s = .next t ∧ t.cmd.lastSeq = some s.cmd.image[0] ∧ t.hand.command = false ∧
        t.cmd.result = .taken ∧ t.report.write ≠ .idle ∧
        (∀ i g, s.report.write = .writing i g → t.report.write = .writing i g ∧ t.report.again = true)) ∧
    (s.cmd.image[1] = 0 ∨ 0x0B < s.cmd.image[1].toNat →
      ∃ t, exec (.unknownCode dt) s = .next t ∧ t.cmd.lastSeq = some s.cmd.image[0] ∧ t.hand.command = false ∧
        t.cmd.result = .unknownCode ∧ t.cmd.mask = 0)

/-! ### Resets, settings and start-up (chapter 12) -/

/-- R18, R85, R108, R121, R159, R167, R175, R187, R196, R202, R204: RESTART, taken in IDLE with no plan under way, resets the blocks but
keeps the FRAM, the post buffers, the command block, the next order number, the access faults, the log position, its queue and its
drops, and reads the settings anew once both post buffers are empty; elsewhere it is refused. Hard reset resets every block, with the
straps and levels given; of a cut-off internal write the acknowledged bytes are in the FRAM, which keeps every other byte it holds (that
the acknowledged bytes are an operand is the model's choice, log 54). That a taken RESTART drops a hand-over on which its owner has not
acted yet is the model's choice (log 79), and so are the values after a reset to which the spec gives none (logs 14, 15, 16, 18, 19, 20,
80 and 97). -/
def Obligations.ResetsSetTheBlock : Prop :=
  (∀ (dt : Nat) (levels : BitVec 8) (s : State), s.hand.command = true → s.est.owed = false → s.cmd.image[1] = 0x0A →
    ∃ t, exec (.restart dt levels) s = .next t ∧ t.cmd.lastSeq = some s.cmd.image[0] ∧
      (s.gov.state = .idle ∧ s.runner.state ≠ .running ∧ s.runner.state ≠ .waitResume →
        t.cmd.result = .taken ∧ t.cmd.image = s.cmd.image ∧ t.timing = Timing.reset ∧ t.est = Estimator.reset ∧
          t.gov = Governor.reset ∧ t.runner = Runner.reset ∧ t.dosing = Dosing.reset s.dosing.nextNumber ∧
          t.lines = Lines.reset levels ∧ t.tel = Telemetry.reset ∧ t.hand = HandOver.empty ∧
          t.cport = PortState.reset s.cport.post ∧ t.dport = PortState.reset s.dport.post ∧
          t.settings.inForce = Settings.builtin ∧ t.settings.restricted = true ∧ t.settings.status = .restricted ∧
          t.settings.startup = (if s.cport.post = [] ∧ s.dport.post = [] then .reading 0 else .drainWait) ∧
          t.settings.restarting = true ∧ t.pages = PageUnit.reset ∧ t.report.latches = 0 ∧
          t.report.accessCount = s.report.accessCount ∧ t.report.lastAccess = s.report.lastAccess ∧
          t.report.drops = s.report.drops ∧ t.report.queue = s.report.queue ∧ t.report.nextSlot = s.report.nextSlot ∧
          t.report.nextSeq = s.report.nextSeq ∧ t.report.seq = 0 ∧ t.report.write = .pending ∧ t.mem = s.mem ∧
          t.link.straps = s.link.straps) ∧
      (¬(s.gov.state = .idle ∧ s.runner.state ≠ .running ∧ s.runner.state ≠ .waitResume) →
        t.cmd.result = .refusedState ∧ MachineKept s t ∧ SettingsKept s t ∧ PagesKept s t ∧ LatchesKept s t ∧ t.tel = s.tel)) ∧
  ∀ (dt acked : Nat) (straps : Fin 4) (levels : BitVec 8) (s : State),
    ∃ t, exec (.hardReset dt straps levels acked) s = .next t ∧
      t = { State.reset with
        now := s.now + dt, mem := t.mem, choices := s.choices, pending := s.pending, lines := Lines.reset levels,
        link := MemoryLink.reset straps (s.now + dt) } ∧
      (∀ j o, jobOnBus s = some (j, o) → memoryForm s = true → ∀ (i : Nat) (h : i < (jobData j).length), i < acked →
        jobAddr j + i < 0x8000 → readByte t (jobAddr j + i) = (jobData j)[i]) ∧
      ∀ a, memoryForm s = true → (∀ j o, jobOnBus s = some (j, o) → a < jobAddr j ∨ jobAddr j + acked ≤ a) →
        readByte t a = readByte s a

/-- R199 to R201: a check value handed over begins a re-read from granule 0; each read adds its sixteen bytes; after the 32nd the image is
judged: an invalid one is REJECTED with its check number and no image is pending, a valid one is adopted at once where the conditions of
R200 hold, and is pending and DEFERRED where they do not. A pending image is adopted when they hold. That the check number is 0 with
the status ADOPTED is the model's choice (log 37): R197 gives one with REJECTED and RESTRICTED only. -/
def Obligations.SettingsRereadAndAdoption : Prop :=
  (∀ (dt : Nat) (s : State), s.hand.settings = true →
    ∃ t, exec (.settingsReread dt) s = .next t ∧ t.hand.settings = false ∧
      t.settings.reading = some [] ∧
      ∀ g, Job.settingsRead g ∈ t.link.internal → g = 0) ∧
  (∀ (dt g : Nat) (bytes : List Byte) (s : State), s.settings.startup = .done →
    jobOnBus s = some (.settingsRead g, false) → s.settings.reading = some bytes →
    ∃ t, exec (.settingsRead dt) s = .next t ∧
      let image := bytes ++ readBytes s (0x7E00 + 16 * g) 16
      (bytes.length + 16 < 512 → t.settings.reading = some image ∧ SettingsKept s t) ∧
      (512 ≤ bytes.length + 16 → t.settings.reading = none ∧
        (settingsCheck image ≠ 0 → t.settings.status = .rejected ∧ t.settings.check = settingsCheck image ∧
          t.settings.pending = none ∧ t.settings.inForce = s.settings.inForce) ∧
        (settingsCheck image = 0 → mayAdopt { s with settings := { s.settings with pending := some image } } = true →
          t.settings.status = .adopted ∧ t.settings.check = 0 ∧ t.settings.pending = none ∧ t.settings.restricted = false ∧
            t.settings.inForce = settingsOf image) ∧
        (settingsCheck image = 0 → mayAdopt { s with settings := { s.settings with pending := some image } } = false →
          t.settings.status = .deferred ∧ t.settings.pending = some image ∧ t.settings.inForce = s.settings.inForce))) ∧
  (∀ (dt : Nat) (image : List Byte) (s : State), s.settings.pending = some image →
    ∃ t, exec (.adoption dt) s = .next t ∧
      (started s = true ∧ s.gov.state = .idle ∧ s.runner.state ≠ .running ∧ s.runner.state ≠ .waitResume ∧
          s.pages.swap = none ∧ s.cport.txn = .idle ∧ s.dport.txn = .idle ∧ s.cport.post = [] ∧ s.dport.post = [] →
        t.settings.status = .adopted ∧ t.settings.check = 0 ∧ t.settings.pending = none ∧ t.settings.restricted = false ∧
          t.settings.inForce = settingsOf image) ∧
      (¬(started s = true ∧ s.gov.state = .idle ∧ s.runner.state ≠ .running ∧ s.runner.state ≠ .waitResume ∧
          s.pages.swap = none ∧ s.cport.txn = .idle ∧ s.dport.txn = .idle ∧ s.cport.post = [] ∧ s.dport.post = []) →
        SettingsKept s t))

/-- R202, R203: a start-up read adds its sixteen bytes; after the 32nd a valid image is adopted, and an invalid one leaves the block in
restricted mode with its check number. 10 ms after a failed read the next attempt begins with granule 0. A log scan read goes on with the
next slot; the last one at start-up opens the device, with the log ready. -/
def Obligations.StartupReadsAndScans : Prop :=
  (∀ (dt g n : Nat) (bytes : List Byte) (s : State), jobOnBus s = some (.startupRead g, false) →
    s.settings.startup = .reading n → s.settings.reading = some bytes →
    ∃ t, exec (.startupSettingsRead dt) s = .next t ∧
      let image := bytes ++ readBytes s (0x7E00 + 16 * g) 16
      (image.length < 512 → t.settings.reading = some image ∧ t.settings.startup = .reading n ∧ SettingsKept s t) ∧
      (512 ≤ image.length → (settingsCheck image = 0 → t.settings.inForce = settingsOf image ∧
          t.settings.restricted = false ∧ t.settings.status = .adopted) ∧
        (settingsCheck image ≠ 0 → t.settings.inForce = s.settings.inForce ∧ t.settings.status = .restricted ∧
          t.settings.check = settingsCheck image))) ∧
  (∀ (dt n t0 : Nat) (s : State), s.settings.startup = .pause n t0 → 10000 ≤ s.now + dt - t0 →
    ∃ t, exec (.startupReadRetry dt) s = .next t ∧ t.settings.startup = .reading (n + 1) ∧ t.settings.reading = some []) ∧
  ∀ (dt slot a : Nat) (x : LogScan) (s : State), jobOnBus s = some (.logScan slot a, false) → s.settings.scan = some x →
    ∃ t, exec (.logScanRead dt) s = .next t ∧
      (x.slot < 15 → t.settings.scan = some {
        slot := x.slot + 1,
        found := if readByte s (a + 4) = 0 then x.found
          else x.found ++ [(x.slot, BitVec.ofNat 32 (longAt (readBytes s a 16) 0))] }) ∧
      (15 ≤ x.slot → t.settings.scan = none ∧ t.report.ring = .ready ∧
        (s.settings.startup = .scanning → t.settings.startup = .done))

/-! ### Report unit (chapter 11) -/

/-- R189, R190, R194, R195: at the report period the timer restarts and a report write is asked for. A granule of the report record that
has been written is in memory and is followed by the next; after the fourth the write is over unless a trigger has asked for another. A
log entry that has been written is in memory. ALERT is driven low exactly while a latch stands, the runner is in WAIT_RESUME or the
settings status is REJECTED or RESTRICTED (and so from a reset on: the model's reading, log 86). -/
def Obligations.ReportWritesAndAlert : Prop :=
  (∀ (dt t0 : Nat) (s : State), s.report.periodStart = some t0 → s.settings.inForce.reportPeriod * 1000 ≤ s.now + dt - t0 →
    ∃ t, exec (.reportPeriodExpiry dt) s = .next t ∧ t.report.periodStart = some (s.now + dt) ∧ t.report.write ≠ .idle ∧
      (∀ i g, s.report.write = .writing i g → t.report.write = .writing i g ∧ t.report.again = true)) ∧
  (∀ (dt a g : Nat) (l image : List Byte) (s : State), s.est.owed = false → jobOnBus s = some (.report a l, false) →
    s.report.write = .writing image g →
    ∃ t, exec (.reportGranuleWrite dt) s = .next t ∧
      (memoryForm s = true → ∀ (i : Nat) (h : i < l.length), a + i < 0x8000 → readByte t (a + i) = l[i]) ∧
      (g < 3 → t.report.write = .writing image (g + 1)) ∧
      (3 ≤ g → t.report.again = false ∧ (s.report.again = false → t.report.write = .idle) ∧
        (s.report.again = true → t.report.write ≠ .idle))) ∧
  (∀ (dt a : Nat) (l : List Byte) (s : State), jobOnBus s = some (.logWrite a l, false) →
    ∃ t, exec (.logWrite dt) s = .next t ∧
      (memoryForm s = true → ∀ (i : Nat) (h : i < l.length), a + i < 0x8000 → readByte t (a + i) = l[i]) ∧
      (∀ x, t.link.transfer = some x → x.count = 0 ∧ x.since = s.now + dt)) ∧
  ∀ s : State, alertLow s = true ↔
    s.report.latches ≠ 0 ∨ s.runner.state = .waitResume ∨ s.settings.status = .rejected ∨ s.settings.status = .restricted
end

