-- ==== Sys2Proof/Laws/State.lean ====
section
/-! SUPPORT. One lemma per field per update of the state, each true by rfl. -/

namespace Sys2Proof.Machine.State

@[simp] theorem setNow_now (s : State) (v : Nat) : (s.setNow v).now = v := rfl
@[simp] theorem setNow_timing (s : State) (v : Nat) : (s.setNow v).timing = s.timing := rfl
@[simp] theorem setNow_est (s : State) (v : Nat) : (s.setNow v).est = s.est := rfl
@[simp] theorem setNow_gov (s : State) (v : Nat) : (s.setNow v).gov = s.gov := rfl
@[simp] theorem setNow_runner (s : State) (v : Nat) : (s.setNow v).runner = s.runner := rfl
@[simp] theorem setNow_dosing (s : State) (v : Nat) : (s.setNow v).dosing = s.dosing := rfl
@[simp] theorem setNow_lines (s : State) (v : Nat) : (s.setNow v).lines = s.lines := rfl
@[simp] theorem setNow_cport (s : State) (v : Nat) : (s.setNow v).cport = s.cport := rfl
@[simp] theorem setNow_dport (s : State) (v : Nat) : (s.setNow v).dport = s.dport := rfl
@[simp] theorem setNow_link (s : State) (v : Nat) : (s.setNow v).link = s.link := rfl
@[simp] theorem setNow_settings (s : State) (v : Nat) : (s.setNow v).settings = s.settings := rfl
@[simp] theorem setNow_pages (s : State) (v : Nat) : (s.setNow v).pages = s.pages := rfl
@[simp] theorem setNow_cmd (s : State) (v : Nat) : (s.setNow v).cmd = s.cmd := rfl
@[simp] theorem setNow_tel (s : State) (v : Nat) : (s.setNow v).tel = s.tel := rfl
@[simp] theorem setNow_report (s : State) (v : Nat) : (s.setNow v).report = s.report := rfl
@[simp] theorem setNow_hand (s : State) (v : Nat) : (s.setNow v).hand = s.hand := rfl
@[simp] theorem setNow_mem (s : State) (v : Nat) : (s.setNow v).mem = s.mem := rfl
@[simp] theorem setNow_choices (s : State) (v : Nat) : (s.setNow v).choices = s.choices := rfl
@[simp] theorem setNow_pending (s : State) (v : Nat) : (s.setNow v).pending = s.pending := rfl

@[simp] theorem setTiming_now (s : State) (v : Timing) : (s.setTiming v).now = s.now := rfl
@[simp] theorem setTiming_timing (s : State) (v : Timing) : (s.setTiming v).timing = v := rfl
@[simp] theorem setTiming_est (s : State) (v : Timing) : (s.setTiming v).est = s.est := rfl
@[simp] theorem setTiming_gov (s : State) (v : Timing) : (s.setTiming v).gov = s.gov := rfl
@[simp] theorem setTiming_runner (s : State) (v : Timing) : (s.setTiming v).runner = s.runner := rfl
@[simp] theorem setTiming_dosing (s : State) (v : Timing) : (s.setTiming v).dosing = s.dosing := rfl
@[simp] theorem setTiming_lines (s : State) (v : Timing) : (s.setTiming v).lines = s.lines := rfl
@[simp] theorem setTiming_cport (s : State) (v : Timing) : (s.setTiming v).cport = s.cport := rfl
@[simp] theorem setTiming_dport (s : State) (v : Timing) : (s.setTiming v).dport = s.dport := rfl
@[simp] theorem setTiming_link (s : State) (v : Timing) : (s.setTiming v).link = s.link := rfl
@[simp] theorem setTiming_settings (s : State) (v : Timing) : (s.setTiming v).settings = s.settings := rfl
@[simp] theorem setTiming_pages (s : State) (v : Timing) : (s.setTiming v).pages = s.pages := rfl
@[simp] theorem setTiming_cmd (s : State) (v : Timing) : (s.setTiming v).cmd = s.cmd := rfl
@[simp] theorem setTiming_tel (s : State) (v : Timing) : (s.setTiming v).tel = s.tel := rfl
@[simp] theorem setTiming_report (s : State) (v : Timing) : (s.setTiming v).report = s.report := rfl
@[simp] theorem setTiming_hand (s : State) (v : Timing) : (s.setTiming v).hand = s.hand := rfl
@[simp] theorem setTiming_mem (s : State) (v : Timing) : (s.setTiming v).mem = s.mem := rfl
@[simp] theorem setTiming_choices (s : State) (v : Timing) : (s.setTiming v).choices = s.choices := rfl
@[simp] theorem setTiming_pending (s : State) (v : Timing) : (s.setTiming v).pending = s.pending := rfl

@[simp] theorem setEst_now (s : State) (v : Estimator) : (s.setEst v).now = s.now := rfl
@[simp] theorem setEst_timing (s : State) (v : Estimator) : (s.setEst v).timing = s.timing := rfl
@[simp] theorem setEst_est (s : State) (v : Estimator) : (s.setEst v).est = v := rfl
@[simp] theorem setEst_gov (s : State) (v : Estimator) : (s.setEst v).gov = s.gov := rfl
@[simp] theorem setEst_runner (s : State) (v : Estimator) : (s.setEst v).runner = s.runner := rfl
@[simp] theorem setEst_dosing (s : State) (v : Estimator) : (s.setEst v).dosing = s.dosing := rfl
@[simp] theorem setEst_lines (s : State) (v : Estimator) : (s.setEst v).lines = s.lines := rfl
@[simp] theorem setEst_cport (s : State) (v : Estimator) : (s.setEst v).cport = s.cport := rfl
@[simp] theorem setEst_dport (s : State) (v : Estimator) : (s.setEst v).dport = s.dport := rfl
@[simp] theorem setEst_link (s : State) (v : Estimator) : (s.setEst v).link = s.link := rfl
@[simp] theorem setEst_settings (s : State) (v : Estimator) : (s.setEst v).settings = s.settings := rfl
@[simp] theorem setEst_pages (s : State) (v : Estimator) : (s.setEst v).pages = s.pages := rfl
@[simp] theorem setEst_cmd (s : State) (v : Estimator) : (s.setEst v).cmd = s.cmd := rfl
@[simp] theorem setEst_tel (s : State) (v : Estimator) : (s.setEst v).tel = s.tel := rfl
@[simp] theorem setEst_report (s : State) (v : Estimator) : (s.setEst v).report = s.report := rfl
@[simp] theorem setEst_hand (s : State) (v : Estimator) : (s.setEst v).hand = s.hand := rfl
@[simp] theorem setEst_mem (s : State) (v : Estimator) : (s.setEst v).mem = s.mem := rfl
@[simp] theorem setEst_choices (s : State) (v : Estimator) : (s.setEst v).choices = s.choices := rfl
@[simp] theorem setEst_pending (s : State) (v : Estimator) : (s.setEst v).pending = s.pending := rfl

@[simp] theorem setGov_now (s : State) (v : Governor) : (s.setGov v).now = s.now := rfl
@[simp] theorem setGov_timing (s : State) (v : Governor) : (s.setGov v).timing = s.timing := rfl
@[simp] theorem setGov_est (s : State) (v : Governor) : (s.setGov v).est = s.est := rfl
@[simp] theorem setGov_gov (s : State) (v : Governor) : (s.setGov v).gov = v := rfl
@[simp] theorem setGov_runner (s : State) (v : Governor) : (s.setGov v).runner = s.runner := rfl
@[simp] theorem setGov_dosing (s : State) (v : Governor) : (s.setGov v).dosing = s.dosing := rfl
@[simp] theorem setGov_lines (s : State) (v : Governor) : (s.setGov v).lines = s.lines := rfl
@[simp] theorem setGov_cport (s : State) (v : Governor) : (s.setGov v).cport = s.cport := rfl
@[simp] theorem setGov_dport (s : State) (v : Governor) : (s.setGov v).dport = s.dport := rfl
@[simp] theorem setGov_link (s : State) (v : Governor) : (s.setGov v).link = s.link := rfl
@[simp] theorem setGov_settings (s : State) (v : Governor) : (s.setGov v).settings = s.settings := rfl
@[simp] theorem setGov_pages (s : State) (v : Governor) : (s.setGov v).pages = s.pages := rfl
@[simp] theorem setGov_cmd (s : State) (v : Governor) : (s.setGov v).cmd = s.cmd := rfl
@[simp] theorem setGov_tel (s : State) (v : Governor) : (s.setGov v).tel = s.tel := rfl
@[simp] theorem setGov_report (s : State) (v : Governor) : (s.setGov v).report = s.report := rfl
@[simp] theorem setGov_hand (s : State) (v : Governor) : (s.setGov v).hand = s.hand := rfl
@[simp] theorem setGov_mem (s : State) (v : Governor) : (s.setGov v).mem = s.mem := rfl
@[simp] theorem setGov_choices (s : State) (v : Governor) : (s.setGov v).choices = s.choices := rfl
@[simp] theorem setGov_pending (s : State) (v : Governor) : (s.setGov v).pending = s.pending := rfl

@[simp] theorem setRunner_now (s : State) (v : Runner) : (s.setRunner v).now = s.now := rfl
@[simp] theorem setRunner_timing (s : State) (v : Runner) : (s.setRunner v).timing = s.timing := rfl
@[simp] theorem setRunner_est (s : State) (v : Runner) : (s.setRunner v).est = s.est := rfl
@[simp] theorem setRunner_gov (s : State) (v : Runner) : (s.setRunner v).gov = s.gov := rfl
@[simp] theorem setRunner_runner (s : State) (v : Runner) : (s.setRunner v).runner = v := rfl
@[simp] theorem setRunner_dosing (s : State) (v : Runner) : (s.setRunner v).dosing = s.dosing := rfl
@[simp] theorem setRunner_lines (s : State) (v : Runner) : (s.setRunner v).lines = s.lines := rfl
@[simp] theorem setRunner_cport (s : State) (v : Runner) : (s.setRunner v).cport = s.cport := rfl
@[simp] theorem setRunner_dport (s : State) (v : Runner) : (s.setRunner v).dport = s.dport := rfl
@[simp] theorem setRunner_link (s : State) (v : Runner) : (s.setRunner v).link = s.link := rfl
@[simp] theorem setRunner_settings (s : State) (v : Runner) : (s.setRunner v).settings = s.settings := rfl
@[simp] theorem setRunner_pages (s : State) (v : Runner) : (s.setRunner v).pages = s.pages := rfl
@[simp] theorem setRunner_cmd (s : State) (v : Runner) : (s.setRunner v).cmd = s.cmd := rfl
@[simp] theorem setRunner_tel (s : State) (v : Runner) : (s.setRunner v).tel = s.tel := rfl
@[simp] theorem setRunner_report (s : State) (v : Runner) : (s.setRunner v).report = s.report := rfl
@[simp] theorem setRunner_hand (s : State) (v : Runner) : (s.setRunner v).hand = s.hand := rfl
@[simp] theorem setRunner_mem (s : State) (v : Runner) : (s.setRunner v).mem = s.mem := rfl
@[simp] theorem setRunner_choices (s : State) (v : Runner) : (s.setRunner v).choices = s.choices := rfl
@[simp] theorem setRunner_pending (s : State) (v : Runner) : (s.setRunner v).pending = s.pending := rfl

@[simp] theorem setDosing_now (s : State) (v : Dosing) : (s.setDosing v).now = s.now := rfl
@[simp] theorem setDosing_timing (s : State) (v : Dosing) : (s.setDosing v).timing = s.timing := rfl
@[simp] theorem setDosing_est (s : State) (v : Dosing) : (s.setDosing v).est = s.est := rfl
@[simp] theorem setDosing_gov (s : State) (v : Dosing) : (s.setDosing v).gov = s.gov := rfl
@[simp] theorem setDosing_runner (s : State) (v : Dosing) : (s.setDosing v).runner = s.runner := rfl
@[simp] theorem setDosing_dosing (s : State) (v : Dosing) : (s.setDosing v).dosing = v := rfl
@[simp] theorem setDosing_lines (s : State) (v : Dosing) : (s.setDosing v).lines = s.lines := rfl
@[simp] theorem setDosing_cport (s : State) (v : Dosing) : (s.setDosing v).cport = s.cport := rfl
@[simp] theorem setDosing_dport (s : State) (v : Dosing) : (s.setDosing v).dport = s.dport := rfl
@[simp] theorem setDosing_link (s : State) (v : Dosing) : (s.setDosing v).link = s.link := rfl
@[simp] theorem setDosing_settings (s : State) (v : Dosing) : (s.setDosing v).settings = s.settings := rfl
@[simp] theorem setDosing_pages (s : State) (v : Dosing) : (s.setDosing v).pages = s.pages := rfl
@[simp] theorem setDosing_cmd (s : State) (v : Dosing) : (s.setDosing v).cmd = s.cmd := rfl
@[simp] theorem setDosing_tel (s : State) (v : Dosing) : (s.setDosing v).tel = s.tel := rfl
@[simp] theorem setDosing_report (s : State) (v : Dosing) : (s.setDosing v).report = s.report := rfl
@[simp] theorem setDosing_hand (s : State) (v : Dosing) : (s.setDosing v).hand = s.hand := rfl
@[simp] theorem setDosing_mem (s : State) (v : Dosing) : (s.setDosing v).mem = s.mem := rfl
@[simp] theorem setDosing_choices (s : State) (v : Dosing) : (s.setDosing v).choices = s.choices := rfl
@[simp] theorem setDosing_pending (s : State) (v : Dosing) : (s.setDosing v).pending = s.pending := rfl

@[simp] theorem setLines_now (s : State) (v : Lines) : (s.setLines v).now = s.now := rfl
@[simp] theorem setLines_timing (s : State) (v : Lines) : (s.setLines v).timing = s.timing := rfl
@[simp] theorem setLines_est (s : State) (v : Lines) : (s.setLines v).est = s.est := rfl
@[simp] theorem setLines_gov (s : State) (v : Lines) : (s.setLines v).gov = s.gov := rfl
@[simp] theorem setLines_runner (s : State) (v : Lines) : (s.setLines v).runner = s.runner := rfl
@[simp] theorem setLines_dosing (s : State) (v : Lines) : (s.setLines v).dosing = s.dosing := rfl
@[simp] theorem setLines_lines (s : State) (v : Lines) : (s.setLines v).lines = v := rfl
@[simp] theorem setLines_cport (s : State) (v : Lines) : (s.setLines v).cport = s.cport := rfl
@[simp] theorem setLines_dport (s : State) (v : Lines) : (s.setLines v).dport = s.dport := rfl
@[simp] theorem setLines_link (s : State) (v : Lines) : (s.setLines v).link = s.link := rfl
@[simp] theorem setLines_settings (s : State) (v : Lines) : (s.setLines v).settings = s.settings := rfl
@[simp] theorem setLines_pages (s : State) (v : Lines) : (s.setLines v).pages = s.pages := rfl
@[simp] theorem setLines_cmd (s : State) (v : Lines) : (s.setLines v).cmd = s.cmd := rfl
@[simp] theorem setLines_tel (s : State) (v : Lines) : (s.setLines v).tel = s.tel := rfl
@[simp] theorem setLines_report (s : State) (v : Lines) : (s.setLines v).report = s.report := rfl
@[simp] theorem setLines_hand (s : State) (v : Lines) : (s.setLines v).hand = s.hand := rfl
@[simp] theorem setLines_mem (s : State) (v : Lines) : (s.setLines v).mem = s.mem := rfl
@[simp] theorem setLines_choices (s : State) (v : Lines) : (s.setLines v).choices = s.choices := rfl
@[simp] theorem setLines_pending (s : State) (v : Lines) : (s.setLines v).pending = s.pending := rfl

@[simp] theorem setCport_now (s : State) (v : PortState) : (s.setCport v).now = s.now := rfl
@[simp] theorem setCport_timing (s : State) (v : PortState) : (s.setCport v).timing = s.timing := rfl
@[simp] theorem setCport_est (s : State) (v : PortState) : (s.setCport v).est = s.est := rfl
@[simp] theorem setCport_gov (s : State) (v : PortState) : (s.setCport v).gov = s.gov := rfl
@[simp] theorem setCport_runner (s : State) (v : PortState) : (s.setCport v).runner = s.runner := rfl
@[simp] theorem setCport_dosing (s : State) (v : PortState) : (s.setCport v).dosing = s.dosing := rfl
@[simp] theorem setCport_lines (s : State) (v : PortState) : (s.setCport v).lines = s.lines := rfl
@[simp] theorem setCport_cport (s : State) (v : PortState) : (s.setCport v).cport = v := rfl
@[simp] theorem setCport_dport (s : State) (v : PortState) : (s.setCport v).dport = s.dport := rfl
@[simp] theorem setCport_link (s : State) (v : PortState) : (s.setCport v).link = s.link := rfl
@[simp] theorem setCport_settings (s : State) (v : PortState) : (s.setCport v).settings = s.settings := rfl
@[simp] theorem setCport_pages (s : State) (v : PortState) : (s.setCport v).pages = s.pages := rfl
@[simp] theorem setCport_cmd (s : State) (v : PortState) : (s.setCport v).cmd = s.cmd := rfl
@[simp] theorem setCport_tel (s : State) (v : PortState) : (s.setCport v).tel = s.tel := rfl
@[simp] theorem setCport_report (s : State) (v : PortState) : (s.setCport v).report = s.report := rfl
@[simp] theorem setCport_hand (s : State) (v : PortState) : (s.setCport v).hand = s.hand := rfl
@[simp] theorem setCport_mem (s : State) (v : PortState) : (s.setCport v).mem = s.mem := rfl
@[simp] theorem setCport_choices (s : State) (v : PortState) : (s.setCport v).choices = s.choices := rfl
@[simp] theorem setCport_pending (s : State) (v : PortState) : (s.setCport v).pending = s.pending := rfl

@[simp] theorem setDport_now (s : State) (v : PortState) : (s.setDport v).now = s.now := rfl
@[simp] theorem setDport_timing (s : State) (v : PortState) : (s.setDport v).timing = s.timing := rfl
@[simp] theorem setDport_est (s : State) (v : PortState) : (s.setDport v).est = s.est := rfl
@[simp] theorem setDport_gov (s : State) (v : PortState) : (s.setDport v).gov = s.gov := rfl
@[simp] theorem setDport_runner (s : State) (v : PortState) : (s.setDport v).runner = s.runner := rfl
@[simp] theorem setDport_dosing (s : State) (v : PortState) : (s.setDport v).dosing = s.dosing := rfl
@[simp] theorem setDport_lines (s : State) (v : PortState) : (s.setDport v).lines = s.lines := rfl
@[simp] theorem setDport_cport (s : State) (v : PortState) : (s.setDport v).cport = s.cport := rfl
@[simp] theorem setDport_dport (s : State) (v : PortState) : (s.setDport v).dport = v := rfl
@[simp] theorem setDport_link (s : State) (v : PortState) : (s.setDport v).link = s.link := rfl
@[simp] theorem setDport_settings (s : State) (v : PortState) : (s.setDport v).settings = s.settings := rfl
@[simp] theorem setDport_pages (s : State) (v : PortState) : (s.setDport v).pages = s.pages := rfl
@[simp] theorem setDport_cmd (s : State) (v : PortState) : (s.setDport v).cmd = s.cmd := rfl
@[simp] theorem setDport_tel (s : State) (v : PortState) : (s.setDport v).tel = s.tel := rfl
@[simp] theorem setDport_report (s : State) (v : PortState) : (s.setDport v).report = s.report := rfl
@[simp] theorem setDport_hand (s : State) (v : PortState) : (s.setDport v).hand = s.hand := rfl
@[simp] theorem setDport_mem (s : State) (v : PortState) : (s.setDport v).mem = s.mem := rfl
@[simp] theorem setDport_choices (s : State) (v : PortState) : (s.setDport v).choices = s.choices := rfl
@[simp] theorem setDport_pending (s : State) (v : PortState) : (s.setDport v).pending = s.pending := rfl

@[simp] theorem setLink_now (s : State) (v : MemoryLink) : (s.setLink v).now = s.now := rfl
@[simp] theorem setLink_timing (s : State) (v : MemoryLink) : (s.setLink v).timing = s.timing := rfl
@[simp] theorem setLink_est (s : State) (v : MemoryLink) : (s.setLink v).est = s.est := rfl
@[simp] theorem setLink_gov (s : State) (v : MemoryLink) : (s.setLink v).gov = s.gov := rfl
@[simp] theorem setLink_runner (s : State) (v : MemoryLink) : (s.setLink v).runner = s.runner := rfl
@[simp] theorem setLink_dosing (s : State) (v : MemoryLink) : (s.setLink v).dosing = s.dosing := rfl
@[simp] theorem setLink_lines (s : State) (v : MemoryLink) : (s.setLink v).lines = s.lines := rfl
@[simp] theorem setLink_cport (s : State) (v : MemoryLink) : (s.setLink v).cport = s.cport := rfl
@[simp] theorem setLink_dport (s : State) (v : MemoryLink) : (s.setLink v).dport = s.dport := rfl
@[simp] theorem setLink_link (s : State) (v : MemoryLink) : (s.setLink v).link = v := rfl
@[simp] theorem setLink_settings (s : State) (v : MemoryLink) : (s.setLink v).settings = s.settings := rfl
@[simp] theorem setLink_pages (s : State) (v : MemoryLink) : (s.setLink v).pages = s.pages := rfl
@[simp] theorem setLink_cmd (s : State) (v : MemoryLink) : (s.setLink v).cmd = s.cmd := rfl
@[simp] theorem setLink_tel (s : State) (v : MemoryLink) : (s.setLink v).tel = s.tel := rfl
@[simp] theorem setLink_report (s : State) (v : MemoryLink) : (s.setLink v).report = s.report := rfl
@[simp] theorem setLink_hand (s : State) (v : MemoryLink) : (s.setLink v).hand = s.hand := rfl
@[simp] theorem setLink_mem (s : State) (v : MemoryLink) : (s.setLink v).mem = s.mem := rfl
@[simp] theorem setLink_choices (s : State) (v : MemoryLink) : (s.setLink v).choices = s.choices := rfl
@[simp] theorem setLink_pending (s : State) (v : MemoryLink) : (s.setLink v).pending = s.pending := rfl

@[simp] theorem setSettings_now (s : State) (v : SettingsUnit) : (s.setSettings v).now = s.now := rfl
@[simp] theorem setSettings_timing (s : State) (v : SettingsUnit) : (s.setSettings v).timing = s.timing := rfl
@[simp] theorem setSettings_est (s : State) (v : SettingsUnit) : (s.setSettings v).est = s.est := rfl
@[simp] theorem setSettings_gov (s : State) (v : SettingsUnit) : (s.setSettings v).gov = s.gov := rfl
@[simp] theorem setSettings_runner (s : State) (v : SettingsUnit) : (s.setSettings v).runner = s.runner := rfl
@[simp] theorem setSettings_dosing (s : State) (v : SettingsUnit) : (s.setSettings v).dosing = s.dosing := rfl
@[simp] theorem setSettings_lines (s : State) (v : SettingsUnit) : (s.setSettings v).lines = s.lines := rfl
@[simp] theorem setSettings_cport (s : State) (v : SettingsUnit) : (s.setSettings v).cport = s.cport := rfl
@[simp] theorem setSettings_dport (s : State) (v : SettingsUnit) : (s.setSettings v).dport = s.dport := rfl
@[simp] theorem setSettings_link (s : State) (v : SettingsUnit) : (s.setSettings v).link = s.link := rfl
@[simp] theorem setSettings_settings (s : State) (v : SettingsUnit) : (s.setSettings v).settings = v := rfl
@[simp] theorem setSettings_pages (s : State) (v : SettingsUnit) : (s.setSettings v).pages = s.pages := rfl
@[simp] theorem setSettings_cmd (s : State) (v : SettingsUnit) : (s.setSettings v).cmd = s.cmd := rfl
@[simp] theorem setSettings_tel (s : State) (v : SettingsUnit) : (s.setSettings v).tel = s.tel := rfl
@[simp] theorem setSettings_report (s : State) (v : SettingsUnit) : (s.setSettings v).report = s.report := rfl
@[simp] theorem setSettings_hand (s : State) (v : SettingsUnit) : (s.setSettings v).hand = s.hand := rfl
@[simp] theorem setSettings_mem (s : State) (v : SettingsUnit) : (s.setSettings v).mem = s.mem := rfl
@[simp] theorem setSettings_choices (s : State) (v : SettingsUnit) : (s.setSettings v).choices = s.choices := rfl
@[simp] theorem setSettings_pending (s : State) (v : SettingsUnit) : (s.setSettings v).pending = s.pending := rfl

@[simp] theorem setPages_now (s : State) (v : PageUnit) : (s.setPages v).now = s.now := rfl
@[simp] theorem setPages_timing (s : State) (v : PageUnit) : (s.setPages v).timing = s.timing := rfl
@[simp] theorem setPages_est (s : State) (v : PageUnit) : (s.setPages v).est = s.est := rfl
@[simp] theorem setPages_gov (s : State) (v : PageUnit) : (s.setPages v).gov = s.gov := rfl
@[simp] theorem setPages_runner (s : State) (v : PageUnit) : (s.setPages v).runner = s.runner := rfl
@[simp] theorem setPages_dosing (s : State) (v : PageUnit) : (s.setPages v).dosing = s.dosing := rfl
@[simp] theorem setPages_lines (s : State) (v : PageUnit) : (s.setPages v).lines = s.lines := rfl
@[simp] theorem setPages_cport (s : State) (v : PageUnit) : (s.setPages v).cport = s.cport := rfl
@[simp] theorem setPages_dport (s : State) (v : PageUnit) : (s.setPages v).dport = s.dport := rfl
@[simp] theorem setPages_link (s : State) (v : PageUnit) : (s.setPages v).link = s.link := rfl
@[simp] theorem setPages_settings (s : State) (v : PageUnit) : (s.setPages v).settings = s.settings := rfl
@[simp] theorem setPages_pages (s : State) (v : PageUnit) : (s.setPages v).pages = v := rfl
@[simp] theorem setPages_cmd (s : State) (v : PageUnit) : (s.setPages v).cmd = s.cmd := rfl
@[simp] theorem setPages_tel (s : State) (v : PageUnit) : (s.setPages v).tel = s.tel := rfl
@[simp] theorem setPages_report (s : State) (v : PageUnit) : (s.setPages v).report = s.report := rfl
@[simp] theorem setPages_hand (s : State) (v : PageUnit) : (s.setPages v).hand = s.hand := rfl
@[simp] theorem setPages_mem (s : State) (v : PageUnit) : (s.setPages v).mem = s.mem := rfl
@[simp] theorem setPages_choices (s : State) (v : PageUnit) : (s.setPages v).choices = s.choices := rfl
@[simp] theorem setPages_pending (s : State) (v : PageUnit) : (s.setPages v).pending = s.pending := rfl

@[simp] theorem setCmd_now (s : State) (v : CommandBlock) : (s.setCmd v).now = s.now := rfl
@[simp] theorem setCmd_timing (s : State) (v : CommandBlock) : (s.setCmd v).timing = s.timing := rfl
@[simp] theorem setCmd_est (s : State) (v : CommandBlock) : (s.setCmd v).est = s.est := rfl
@[simp] theorem setCmd_gov (s : State) (v : CommandBlock) : (s.setCmd v).gov = s.gov := rfl
@[simp] theorem setCmd_runner (s : State) (v : CommandBlock) : (s.setCmd v).runner = s.runner := rfl
@[simp] theorem setCmd_dosing (s : State) (v : CommandBlock) : (s.setCmd v).dosing = s.dosing := rfl
@[simp] theorem setCmd_lines (s : State) (v : CommandBlock) : (s.setCmd v).lines = s.lines := rfl
@[simp] theorem setCmd_cport (s : State) (v : CommandBlock) : (s.setCmd v).cport = s.cport := rfl
@[simp] theorem setCmd_dport (s : State) (v : CommandBlock) : (s.setCmd v).dport = s.dport := rfl
@[simp] theorem setCmd_link (s : State) (v : CommandBlock) : (s.setCmd v).link = s.link := rfl
@[simp] theorem setCmd_settings (s : State) (v : CommandBlock) : (s.setCmd v).settings = s.settings := rfl
@[simp] theorem setCmd_pages (s : State) (v : CommandBlock) : (s.setCmd v).pages = s.pages := rfl
@[simp] theorem setCmd_cmd (s : State) (v : CommandBlock) : (s.setCmd v).cmd = v := rfl
@[simp] theorem setCmd_tel (s : State) (v : CommandBlock) : (s.setCmd v).tel = s.tel := rfl
@[simp] theorem setCmd_report (s : State) (v : CommandBlock) : (s.setCmd v).report = s.report := rfl
@[simp] theorem setCmd_hand (s : State) (v : CommandBlock) : (s.setCmd v).hand = s.hand := rfl
@[simp] theorem setCmd_mem (s : State) (v : CommandBlock) : (s.setCmd v).mem = s.mem := rfl
@[simp] theorem setCmd_choices (s : State) (v : CommandBlock) : (s.setCmd v).choices = s.choices := rfl
@[simp] theorem setCmd_pending (s : State) (v : CommandBlock) : (s.setCmd v).pending = s.pending := rfl

@[simp] theorem setTel_now (s : State) (v : Telemetry) : (s.setTel v).now = s.now := rfl
@[simp] theorem setTel_timing (s : State) (v : Telemetry) : (s.setTel v).timing = s.timing := rfl
@[simp] theorem setTel_est (s : State) (v : Telemetry) : (s.setTel v).est = s.est := rfl
@[simp] theorem setTel_gov (s : State) (v : Telemetry) : (s.setTel v).gov = s.gov := rfl
@[simp] theorem setTel_runner (s : State) (v : Telemetry) : (s.setTel v).runner = s.runner := rfl
@[simp] theorem setTel_dosing (s : State) (v : Telemetry) : (s.setTel v).dosing = s.dosing := rfl
@[simp] theorem setTel_lines (s : State) (v : Telemetry) : (s.setTel v).lines = s.lines := rfl
@[simp] theorem setTel_cport (s : State) (v : Telemetry) : (s.setTel v).cport = s.cport := rfl
@[simp] theorem setTel_dport (s : State) (v : Telemetry) : (s.setTel v).dport = s.dport := rfl
@[simp] theorem setTel_link (s : State) (v : Telemetry) : (s.setTel v).link = s.link := rfl
@[simp] theorem setTel_settings (s : State) (v : Telemetry) : (s.setTel v).settings = s.settings := rfl
@[simp] theorem setTel_pages (s : State) (v : Telemetry) : (s.setTel v).pages = s.pages := rfl
@[simp] theorem setTel_cmd (s : State) (v : Telemetry) : (s.setTel v).cmd = s.cmd := rfl
@[simp] theorem setTel_tel (s : State) (v : Telemetry) : (s.setTel v).tel = v := rfl
@[simp] theorem setTel_report (s : State) (v : Telemetry) : (s.setTel v).report = s.report := rfl
@[simp] theorem setTel_hand (s : State) (v : Telemetry) : (s.setTel v).hand = s.hand := rfl
@[simp] theorem setTel_mem (s : State) (v : Telemetry) : (s.setTel v).mem = s.mem := rfl
@[simp] theorem setTel_choices (s : State) (v : Telemetry) : (s.setTel v).choices = s.choices := rfl
@[simp] theorem setTel_pending (s : State) (v : Telemetry) : (s.setTel v).pending = s.pending := rfl

@[simp] theorem setReport_now (s : State) (v : ReportUnit) : (s.setReport v).now = s.now := rfl
@[simp] theorem setReport_timing (s : State) (v : ReportUnit) : (s.setReport v).timing = s.timing := rfl
@[simp] theorem setReport_est (s : State) (v : ReportUnit) : (s.setReport v).est = s.est := rfl
@[simp] theorem setReport_gov (s : State) (v : ReportUnit) : (s.setReport v).gov = s.gov := rfl
@[simp] theorem setReport_runner (s : State) (v : ReportUnit) : (s.setReport v).runner = s.runner := rfl
@[simp] theorem setReport_dosing (s : State) (v : ReportUnit) : (s.setReport v).dosing = s.dosing := rfl
@[simp] theorem setReport_lines (s : State) (v : ReportUnit) : (s.setReport v).lines = s.lines := rfl
@[simp] theorem setReport_cport (s : State) (v : ReportUnit) : (s.setReport v).cport = s.cport := rfl
@[simp] theorem setReport_dport (s : State) (v : ReportUnit) : (s.setReport v).dport = s.dport := rfl
@[simp] theorem setReport_link (s : State) (v : ReportUnit) : (s.setReport v).link = s.link := rfl
@[simp] theorem setReport_settings (s : State) (v : ReportUnit) : (s.setReport v).settings = s.settings := rfl
@[simp] theorem setReport_pages (s : State) (v : ReportUnit) : (s.setReport v).pages = s.pages := rfl
@[simp] theorem setReport_cmd (s : State) (v : ReportUnit) : (s.setReport v).cmd = s.cmd := rfl
@[simp] theorem setReport_tel (s : State) (v : ReportUnit) : (s.setReport v).tel = s.tel := rfl
@[simp] theorem setReport_report (s : State) (v : ReportUnit) : (s.setReport v).report = v := rfl
@[simp] theorem setReport_hand (s : State) (v : ReportUnit) : (s.setReport v).hand = s.hand := rfl
@[simp] theorem setReport_mem (s : State) (v : ReportUnit) : (s.setReport v).mem = s.mem := rfl
@[simp] theorem setReport_choices (s : State) (v : ReportUnit) : (s.setReport v).choices = s.choices := rfl
@[simp] theorem setReport_pending (s : State) (v : ReportUnit) : (s.setReport v).pending = s.pending := rfl

@[simp] theorem setHand_now (s : State) (v : HandOver) : (s.setHand v).now = s.now := rfl
@[simp] theorem setHand_timing (s : State) (v : HandOver) : (s.setHand v).timing = s.timing := rfl
@[simp] theorem setHand_est (s : State) (v : HandOver) : (s.setHand v).est = s.est := rfl
@[simp] theorem setHand_gov (s : State) (v : HandOver) : (s.setHand v).gov = s.gov := rfl
@[simp] theorem setHand_runner (s : State) (v : HandOver) : (s.setHand v).runner = s.runner := rfl
@[simp] theorem setHand_dosing (s : State) (v : HandOver) : (s.setHand v).dosing = s.dosing := rfl
@[simp] theorem setHand_lines (s : State) (v : HandOver) : (s.setHand v).lines = s.lines := rfl
@[simp] theorem setHand_cport (s : State) (v : HandOver) : (s.setHand v).cport = s.cport := rfl
@[simp] theorem setHand_dport (s : State) (v : HandOver) : (s.setHand v).dport = s.dport := rfl
@[simp] theorem setHand_link (s : State) (v : HandOver) : (s.setHand v).link = s.link := rfl
@[simp] theorem setHand_settings (s : State) (v : HandOver) : (s.setHand v).settings = s.settings := rfl
@[simp] theorem setHand_pages (s : State) (v : HandOver) : (s.setHand v).pages = s.pages := rfl
@[simp] theorem setHand_cmd (s : State) (v : HandOver) : (s.setHand v).cmd = s.cmd := rfl
@[simp] theorem setHand_tel (s : State) (v : HandOver) : (s.setHand v).tel = s.tel := rfl
@[simp] theorem setHand_report (s : State) (v : HandOver) : (s.setHand v).report = s.report := rfl
@[simp] theorem setHand_hand (s : State) (v : HandOver) : (s.setHand v).hand = v := rfl
@[simp] theorem setHand_mem (s : State) (v : HandOver) : (s.setHand v).mem = s.mem := rfl
@[simp] theorem setHand_choices (s : State) (v : HandOver) : (s.setHand v).choices = s.choices := rfl
@[simp] theorem setHand_pending (s : State) (v : HandOver) : (s.setHand v).pending = s.pending := rfl

@[simp] theorem setMem_now (s : State) (v : List Host.Cell) : (s.setMem v).now = s.now := rfl
@[simp] theorem setMem_timing (s : State) (v : List Host.Cell) : (s.setMem v).timing = s.timing := rfl
@[simp] theorem setMem_est (s : State) (v : List Host.Cell) : (s.setMem v).est = s.est := rfl
@[simp] theorem setMem_gov (s : State) (v : List Host.Cell) : (s.setMem v).gov = s.gov := rfl
@[simp] theorem setMem_runner (s : State) (v : List Host.Cell) : (s.setMem v).runner = s.runner := rfl
@[simp] theorem setMem_dosing (s : State) (v : List Host.Cell) : (s.setMem v).dosing = s.dosing := rfl
@[simp] theorem setMem_lines (s : State) (v : List Host.Cell) : (s.setMem v).lines = s.lines := rfl
@[simp] theorem setMem_cport (s : State) (v : List Host.Cell) : (s.setMem v).cport = s.cport := rfl
@[simp] theorem setMem_dport (s : State) (v : List Host.Cell) : (s.setMem v).dport = s.dport := rfl
@[simp] theorem setMem_link (s : State) (v : List Host.Cell) : (s.setMem v).link = s.link := rfl
@[simp] theorem setMem_settings (s : State) (v : List Host.Cell) : (s.setMem v).settings = s.settings := rfl
@[simp] theorem setMem_pages (s : State) (v : List Host.Cell) : (s.setMem v).pages = s.pages := rfl
@[simp] theorem setMem_cmd (s : State) (v : List Host.Cell) : (s.setMem v).cmd = s.cmd := rfl
@[simp] theorem setMem_tel (s : State) (v : List Host.Cell) : (s.setMem v).tel = s.tel := rfl
@[simp] theorem setMem_report (s : State) (v : List Host.Cell) : (s.setMem v).report = s.report := rfl
@[simp] theorem setMem_hand (s : State) (v : List Host.Cell) : (s.setMem v).hand = s.hand := rfl
@[simp] theorem setMem_mem (s : State) (v : List Host.Cell) : (s.setMem v).mem = v := rfl
@[simp] theorem setMem_choices (s : State) (v : List Host.Cell) : (s.setMem v).choices = s.choices := rfl
@[simp] theorem setMem_pending (s : State) (v : List Host.Cell) : (s.setMem v).pending = s.pending := rfl

@[simp] theorem setChoices_now (s : State) (v : Nat) : (s.setChoices v).now = s.now := rfl
@[simp] theorem setChoices_timing (s : State) (v : Nat) : (s.setChoices v).timing = s.timing := rfl
@[simp] theorem setChoices_est (s : State) (v : Nat) : (s.setChoices v).est = s.est := rfl
@[simp] theorem setChoices_gov (s : State) (v : Nat) : (s.setChoices v).gov = s.gov := rfl
@[simp] theorem setChoices_runner (s : State) (v : Nat) : (s.setChoices v).runner = s.runner := rfl
@[simp] theorem setChoices_dosing (s : State) (v : Nat) : (s.setChoices v).dosing = s.dosing := rfl
@[simp] theorem setChoices_lines (s : State) (v : Nat) : (s.setChoices v).lines = s.lines := rfl
@[simp] theorem setChoices_cport (s : State) (v : Nat) : (s.setChoices v).cport = s.cport := rfl
@[simp] theorem setChoices_dport (s : State) (v : Nat) : (s.setChoices v).dport = s.dport := rfl
@[simp] theorem setChoices_link (s : State) (v : Nat) : (s.setChoices v).link = s.link := rfl
@[simp] theorem setChoices_settings (s : State) (v : Nat) : (s.setChoices v).settings = s.settings := rfl
@[simp] theorem setChoices_pages (s : State) (v : Nat) : (s.setChoices v).pages = s.pages := rfl
@[simp] theorem setChoices_cmd (s : State) (v : Nat) : (s.setChoices v).cmd = s.cmd := rfl
@[simp] theorem setChoices_tel (s : State) (v : Nat) : (s.setChoices v).tel = s.tel := rfl
@[simp] theorem setChoices_report (s : State) (v : Nat) : (s.setChoices v).report = s.report := rfl
@[simp] theorem setChoices_hand (s : State) (v : Nat) : (s.setChoices v).hand = s.hand := rfl
@[simp] theorem setChoices_mem (s : State) (v : Nat) : (s.setChoices v).mem = s.mem := rfl
@[simp] theorem setChoices_choices (s : State) (v : Nat) : (s.setChoices v).choices = v := rfl
@[simp] theorem setChoices_pending (s : State) (v : Nat) : (s.setChoices v).pending = s.pending := rfl

@[simp] theorem setPending_now (s : State) (v : List Instr) : (s.setPending v).now = s.now := rfl
@[simp] theorem setPending_timing (s : State) (v : List Instr) : (s.setPending v).timing = s.timing := rfl
@[simp] theorem setPending_est (s : State) (v : List Instr) : (s.setPending v).est = s.est := rfl
@[simp] theorem setPending_gov (s : State) (v : List Instr) : (s.setPending v).gov = s.gov := rfl
@[simp] theorem setPending_runner (s : State) (v : List Instr) : (s.setPending v).runner = s.runner := rfl
@[simp] theorem setPending_dosing (s : State) (v : List Instr) : (s.setPending v).dosing = s.dosing := rfl
@[simp] theorem setPending_lines (s : State) (v : List Instr) : (s.setPending v).lines = s.lines := rfl
@[simp] theorem setPending_cport (s : State) (v : List Instr) : (s.setPending v).cport = s.cport := rfl
@[simp] theorem setPending_dport (s : State) (v : List Instr) : (s.setPending v).dport = s.dport := rfl
@[simp] theorem setPending_link (s : State) (v : List Instr) : (s.setPending v).link = s.link := rfl
@[simp] theorem setPending_settings (s : State) (v : List Instr) : (s.setPending v).settings = s.settings := rfl
@[simp] theorem setPending_pages (s : State) (v : List Instr) : (s.setPending v).pages = s.pages := rfl
@[simp] theorem setPending_cmd (s : State) (v : List Instr) : (s.setPending v).cmd = s.cmd := rfl
@[simp] theorem setPending_tel (s : State) (v : List Instr) : (s.setPending v).tel = s.tel := rfl
@[simp] theorem setPending_report (s : State) (v : List Instr) : (s.setPending v).report = s.report := rfl
@[simp] theorem setPending_hand (s : State) (v : List Instr) : (s.setPending v).hand = s.hand := rfl
@[simp] theorem setPending_mem (s : State) (v : List Instr) : (s.setPending v).mem = s.mem := rfl
@[simp] theorem setPending_choices (s : State) (v : List Instr) : (s.setPending v).choices = s.choices := rfl
@[simp] theorem setPending_pending (s : State) (v : List Instr) : (s.setPending v).pending = v := rfl

end Sys2Proof.Machine.State
end

