-- ==== Sys2Proof/Laws/Frames.lean ====
section
/-! SUPPORT. The frame of every operation on the state: which parts of the state it leaves as they are. -/

namespace Sys2Proof.Machine

@[simp] theorem unordered_now {f g : State → State} (hf : ∀ u, (f u).now = u.now) (hg : ∀ u, (g u).now = u.now) (s : State) :
    (unordered f g s).now = s.now := by
  unfold unordered nextChoice; (repeat' split) <;> simp [hf, hg]

@[simp] theorem unordered3_now {f g h : State → State} (hf : ∀ u, (f u).now = u.now) (hg : ∀ u, (g u).now = u.now) (hh : ∀ u, (h u).now = u.now) (s : State) :
    (unordered3 f g h s).now = s.now := by
  unfold unordered3 nextChoice; (repeat' split) <;> simp [hf, hg, hh]

@[simp] theorem unordered_timing {f g : State → State} (hf : ∀ u, (f u).timing = u.timing) (hg : ∀ u, (g u).timing = u.timing) (s : State) :
    (unordered f g s).timing = s.timing := by
  unfold unordered nextChoice; (repeat' split) <;> simp [hf, hg]

@[simp] theorem unordered3_timing {f g h : State → State} (hf : ∀ u, (f u).timing = u.timing) (hg : ∀ u, (g u).timing = u.timing) (hh : ∀ u, (h u).timing = u.timing) (s : State) :
    (unordered3 f g h s).timing = s.timing := by
  unfold unordered3 nextChoice; (repeat' split) <;> simp [hf, hg, hh]

@[simp] theorem unordered_est {f g : State → State} (hf : ∀ u, (f u).est = u.est) (hg : ∀ u, (g u).est = u.est) (s : State) :
    (unordered f g s).est = s.est := by
  unfold unordered nextChoice; (repeat' split) <;> simp [hf, hg]

@[simp] theorem unordered3_est {f g h : State → State} (hf : ∀ u, (f u).est = u.est) (hg : ∀ u, (g u).est = u.est) (hh : ∀ u, (h u).est = u.est) (s : State) :
    (unordered3 f g h s).est = s.est := by
  unfold unordered3 nextChoice; (repeat' split) <;> simp [hf, hg, hh]

@[simp] theorem unordered_gov {f g : State → State} (hf : ∀ u, (f u).gov = u.gov) (hg : ∀ u, (g u).gov = u.gov) (s : State) :
    (unordered f g s).gov = s.gov := by
  unfold unordered nextChoice; (repeat' split) <;> simp [hf, hg]

@[simp] theorem unordered3_gov {f g h : State → State} (hf : ∀ u, (f u).gov = u.gov) (hg : ∀ u, (g u).gov = u.gov) (hh : ∀ u, (h u).gov = u.gov) (s : State) :
    (unordered3 f g h s).gov = s.gov := by
  unfold unordered3 nextChoice; (repeat' split) <;> simp [hf, hg, hh]

@[simp] theorem unordered_runner {f g : State → State} (hf : ∀ u, (f u).runner = u.runner) (hg : ∀ u, (g u).runner = u.runner) (s : State) :
    (unordered f g s).runner = s.runner := by
  unfold unordered nextChoice; (repeat' split) <;> simp [hf, hg]

@[simp] theorem unordered3_runner {f g h : State → State} (hf : ∀ u, (f u).runner = u.runner) (hg : ∀ u, (g u).runner = u.runner) (hh : ∀ u, (h u).runner = u.runner) (s : State) :
    (unordered3 f g h s).runner = s.runner := by
  unfold unordered3 nextChoice; (repeat' split) <;> simp [hf, hg, hh]

@[simp] theorem unordered_dosing {f g : State → State} (hf : ∀ u, (f u).dosing = u.dosing) (hg : ∀ u, (g u).dosing = u.dosing) (s : State) :
    (unordered f g s).dosing = s.dosing := by
  unfold unordered nextChoice; (repeat' split) <;> simp [hf, hg]

@[simp] theorem unordered3_dosing {f g h : State → State} (hf : ∀ u, (f u).dosing = u.dosing) (hg : ∀ u, (g u).dosing = u.dosing) (hh : ∀ u, (h u).dosing = u.dosing) (s : State) :
    (unordered3 f g h s).dosing = s.dosing := by
  unfold unordered3 nextChoice; (repeat' split) <;> simp [hf, hg, hh]

@[simp] theorem unordered_lines {f g : State → State} (hf : ∀ u, (f u).lines = u.lines) (hg : ∀ u, (g u).lines = u.lines) (s : State) :
    (unordered f g s).lines = s.lines := by
  unfold unordered nextChoice; (repeat' split) <;> simp [hf, hg]

@[simp] theorem unordered3_lines {f g h : State → State} (hf : ∀ u, (f u).lines = u.lines) (hg : ∀ u, (g u).lines = u.lines) (hh : ∀ u, (h u).lines = u.lines) (s : State) :
    (unordered3 f g h s).lines = s.lines := by
  unfold unordered3 nextChoice; (repeat' split) <;> simp [hf, hg, hh]

@[simp] theorem unordered_cport {f g : State → State} (hf : ∀ u, (f u).cport = u.cport) (hg : ∀ u, (g u).cport = u.cport) (s : State) :
    (unordered f g s).cport = s.cport := by
  unfold unordered nextChoice; (repeat' split) <;> simp [hf, hg]

@[simp] theorem unordered3_cport {f g h : State → State} (hf : ∀ u, (f u).cport = u.cport) (hg : ∀ u, (g u).cport = u.cport) (hh : ∀ u, (h u).cport = u.cport) (s : State) :
    (unordered3 f g h s).cport = s.cport := by
  unfold unordered3 nextChoice; (repeat' split) <;> simp [hf, hg, hh]

@[simp] theorem unordered_dport {f g : State → State} (hf : ∀ u, (f u).dport = u.dport) (hg : ∀ u, (g u).dport = u.dport) (s : State) :
    (unordered f g s).dport = s.dport := by
  unfold unordered nextChoice; (repeat' split) <;> simp [hf, hg]

@[simp] theorem unordered3_dport {f g h : State → State} (hf : ∀ u, (f u).dport = u.dport) (hg : ∀ u, (g u).dport = u.dport) (hh : ∀ u, (h u).dport = u.dport) (s : State) :
    (unordered3 f g h s).dport = s.dport := by
  unfold unordered3 nextChoice; (repeat' split) <;> simp [hf, hg, hh]

@[simp] theorem unordered_link {f g : State → State} (hf : ∀ u, (f u).link = u.link) (hg : ∀ u, (g u).link = u.link) (s : State) :
    (unordered f g s).link = s.link := by
  unfold unordered nextChoice; (repeat' split) <;> simp [hf, hg]

@[simp] theorem unordered3_link {f g h : State → State} (hf : ∀ u, (f u).link = u.link) (hg : ∀ u, (g u).link = u.link) (hh : ∀ u, (h u).link = u.link) (s : State) :
    (unordered3 f g h s).link = s.link := by
  unfold unordered3 nextChoice; (repeat' split) <;> simp [hf, hg, hh]

@[simp] theorem unordered_settings {f g : State → State} (hf : ∀ u, (f u).settings = u.settings) (hg : ∀ u, (g u).settings = u.settings) (s : State) :
    (unordered f g s).settings = s.settings := by
  unfold unordered nextChoice; (repeat' split) <;> simp [hf, hg]

@[simp] theorem unordered3_settings {f g h : State → State} (hf : ∀ u, (f u).settings = u.settings) (hg : ∀ u, (g u).settings = u.settings) (hh : ∀ u, (h u).settings = u.settings) (s : State) :
    (unordered3 f g h s).settings = s.settings := by
  unfold unordered3 nextChoice; (repeat' split) <;> simp [hf, hg, hh]

@[simp] theorem unordered_pages {f g : State → State} (hf : ∀ u, (f u).pages = u.pages) (hg : ∀ u, (g u).pages = u.pages) (s : State) :
    (unordered f g s).pages = s.pages := by
  unfold unordered nextChoice; (repeat' split) <;> simp [hf, hg]

@[simp] theorem unordered3_pages {f g h : State → State} (hf : ∀ u, (f u).pages = u.pages) (hg : ∀ u, (g u).pages = u.pages) (hh : ∀ u, (h u).pages = u.pages) (s : State) :
    (unordered3 f g h s).pages = s.pages := by
  unfold unordered3 nextChoice; (repeat' split) <;> simp [hf, hg, hh]

@[simp] theorem unordered_cmd {f g : State → State} (hf : ∀ u, (f u).cmd = u.cmd) (hg : ∀ u, (g u).cmd = u.cmd) (s : State) :
    (unordered f g s).cmd = s.cmd := by
  unfold unordered nextChoice; (repeat' split) <;> simp [hf, hg]

@[simp] theorem unordered3_cmd {f g h : State → State} (hf : ∀ u, (f u).cmd = u.cmd) (hg : ∀ u, (g u).cmd = u.cmd) (hh : ∀ u, (h u).cmd = u.cmd) (s : State) :
    (unordered3 f g h s).cmd = s.cmd := by
  unfold unordered3 nextChoice; (repeat' split) <;> simp [hf, hg, hh]

@[simp] theorem unordered_tel {f g : State → State} (hf : ∀ u, (f u).tel = u.tel) (hg : ∀ u, (g u).tel = u.tel) (s : State) :
    (unordered f g s).tel = s.tel := by
  unfold unordered nextChoice; (repeat' split) <;> simp [hf, hg]

@[simp] theorem unordered3_tel {f g h : State → State} (hf : ∀ u, (f u).tel = u.tel) (hg : ∀ u, (g u).tel = u.tel) (hh : ∀ u, (h u).tel = u.tel) (s : State) :
    (unordered3 f g h s).tel = s.tel := by
  unfold unordered3 nextChoice; (repeat' split) <;> simp [hf, hg, hh]

@[simp] theorem unordered_report {f g : State → State} (hf : ∀ u, (f u).report = u.report) (hg : ∀ u, (g u).report = u.report) (s : State) :
    (unordered f g s).report = s.report := by
  unfold unordered nextChoice; (repeat' split) <;> simp [hf, hg]

@[simp] theorem unordered3_report {f g h : State → State} (hf : ∀ u, (f u).report = u.report) (hg : ∀ u, (g u).report = u.report) (hh : ∀ u, (h u).report = u.report) (s : State) :
    (unordered3 f g h s).report = s.report := by
  unfold unordered3 nextChoice; (repeat' split) <;> simp [hf, hg, hh]

@[simp] theorem unordered_hand {f g : State → State} (hf : ∀ u, (f u).hand = u.hand) (hg : ∀ u, (g u).hand = u.hand) (s : State) :
    (unordered f g s).hand = s.hand := by
  unfold unordered nextChoice; (repeat' split) <;> simp [hf, hg]

@[simp] theorem unordered3_hand {f g h : State → State} (hf : ∀ u, (f u).hand = u.hand) (hg : ∀ u, (g u).hand = u.hand) (hh : ∀ u, (h u).hand = u.hand) (s : State) :
    (unordered3 f g h s).hand = s.hand := by
  unfold unordered3 nextChoice; (repeat' split) <;> simp [hf, hg, hh]

@[simp] theorem unordered_mem {f g : State → State} (hf : ∀ u, (f u).mem = u.mem) (hg : ∀ u, (g u).mem = u.mem) (s : State) :
    (unordered f g s).mem = s.mem := by
  unfold unordered nextChoice; (repeat' split) <;> simp [hf, hg]

@[simp] theorem unordered3_mem {f g h : State → State} (hf : ∀ u, (f u).mem = u.mem) (hg : ∀ u, (g u).mem = u.mem) (hh : ∀ u, (h u).mem = u.mem) (s : State) :
    (unordered3 f g h s).mem = s.mem := by
  unfold unordered3 nextChoice; (repeat' split) <;> simp [hf, hg, hh]

@[simp] theorem unordered_pending {f g : State → State} (hf : ∀ u, (f u).pending = u.pending) (hg : ∀ u, (g u).pending = u.pending) (s : State) :
    (unordered f g s).pending = s.pending := by
  unfold unordered nextChoice; (repeat' split) <;> simp [hf, hg]

@[simp] theorem unordered3_pending {f g h : State → State} (hf : ∀ u, (f u).pending = u.pending) (hg : ∀ u, (g u).pending = u.pending) (hh : ∀ u, (h u).pending = u.pending) (s : State) :
    (unordered3 f g h s).pending = s.pending := by
  unfold unordered3 nextChoice; (repeat' split) <;> simp [hf, hg, hh]

@[simp] theorem storeByte_frame (s : State) (a : Nat) (v : Byte) :
    (storeByte s a v).now = s.now ∧ (storeByte s a v).timing = s.timing ∧ (storeByte s a v).est = s.est ∧ (storeByte s a v).gov = s.gov ∧
    (storeByte s a v).runner = s.runner ∧ (storeByte s a v).dosing = s.dosing ∧ (storeByte s a v).lines = s.lines ∧ (storeByte s a v).cport = s.cport ∧
    (storeByte s a v).dport = s.dport ∧ (storeByte s a v).link = s.link ∧ (storeByte s a v).settings = s.settings ∧ (storeByte s a v).pages = s.pages ∧
    (storeByte s a v).cmd = s.cmd ∧ (storeByte s a v).tel = s.tel ∧ (storeByte s a v).report = s.report ∧ (storeByte s a v).hand = s.hand ∧
    (storeByte s a v).choices = s.choices ∧ (storeByte s a v).pending = s.pending := by
  unfold storeByte; (try dsimp only); (repeat' split) <;> simp

@[simp] theorem storeBytes_frame (s : State) (a : Nat) (l : List Byte) :
    (storeBytes s a l).now = s.now ∧ (storeBytes s a l).timing = s.timing ∧ (storeBytes s a l).est = s.est ∧ (storeBytes s a l).gov = s.gov ∧ (storeBytes s a l).runner = s.runner ∧ (storeBytes s a l).dosing = s.dosing ∧ (storeBytes s a l).lines = s.lines ∧ (storeBytes s a l).cport = s.cport ∧ (storeBytes s a l).dport = s.dport ∧ (storeBytes s a l).link = s.link ∧ (storeBytes s a l).settings = s.settings ∧ (storeBytes s a l).pages = s.pages ∧ (storeBytes s a l).cmd = s.cmd ∧ (storeBytes s a l).tel = s.tel ∧ (storeBytes s a l).report = s.report ∧ (storeBytes s a l).hand = s.hand ∧ (storeBytes s a l).choices = s.choices ∧ (storeBytes s a l).pending = s.pending := by
  induction l generalizing s a with
  | nil => simp [storeBytes]
  | cons v l ih => simp [storeBytes, ih]

@[simp] theorem advance_frame (dt : Nat) (s : State) :
    (advance dt s).timing = s.timing ∧ (advance dt s).est = s.est ∧ (advance dt s).gov = s.gov ∧ (advance dt s).runner = s.runner ∧
    (advance dt s).dosing = s.dosing ∧ (advance dt s).lines = s.lines ∧ (advance dt s).cport = s.cport ∧ (advance dt s).dport = s.dport ∧
    (advance dt s).link = s.link ∧ (advance dt s).settings = s.settings ∧ (advance dt s).pages = s.pages ∧ (advance dt s).cmd = s.cmd ∧
    (advance dt s).tel = s.tel ∧ (advance dt s).report = s.report ∧ (advance dt s).hand = s.hand ∧ (advance dt s).mem = s.mem ∧
    (advance dt s).choices = s.choices ∧ (advance dt s).pending = s.pending := by
  unfold advance; (try dsimp only); (repeat' split) <;> simp

@[simp] theorem nextChoice_frame (s : State) :
    (nextChoice s).now = s.now ∧ (nextChoice s).timing = s.timing ∧ (nextChoice s).est = s.est ∧ (nextChoice s).gov = s.gov ∧
    (nextChoice s).runner = s.runner ∧ (nextChoice s).dosing = s.dosing ∧ (nextChoice s).lines = s.lines ∧ (nextChoice s).cport = s.cport ∧
    (nextChoice s).dport = s.dport ∧ (nextChoice s).link = s.link ∧ (nextChoice s).settings = s.settings ∧ (nextChoice s).pages = s.pages ∧
    (nextChoice s).cmd = s.cmd ∧ (nextChoice s).tel = s.tel ∧ (nextChoice s).report = s.report ∧ (nextChoice s).hand = s.hand ∧
    (nextChoice s).mem = s.mem ∧ (nextChoice s).pending = s.pending := by
  unfold nextChoice; (try dsimp only); (repeat' split) <;> simp

@[simp] theorem followAngle_frame (old s : State) :
    (followAngle old s).now = s.now ∧ (followAngle old s).timing = s.timing ∧ (followAngle old s).est = s.est ∧ (followAngle old s).gov = s.gov ∧
    (followAngle old s).runner = s.runner ∧ (followAngle old s).lines = s.lines ∧ (followAngle old s).cport = s.cport ∧ (followAngle old s).dport = s.dport ∧
    (followAngle old s).link = s.link ∧ (followAngle old s).settings = s.settings ∧ (followAngle old s).pages = s.pages ∧ (followAngle old s).cmd = s.cmd ∧
    (followAngle old s).tel = s.tel ∧ (followAngle old s).report = s.report ∧ (followAngle old s).hand = s.hand ∧ (followAngle old s).mem = s.mem ∧
    (followAngle old s).choices = s.choices ∧ (followAngle old s).pending = s.pending := by
  unfold followAngle; (try dsimp only); (repeat' split) <;> simp

@[simp] theorem trigger_frame (s : State) :
    (trigger s).now = s.now ∧ (trigger s).timing = s.timing ∧ (trigger s).est = s.est ∧ (trigger s).gov = s.gov ∧
    (trigger s).runner = s.runner ∧ (trigger s).dosing = s.dosing ∧ (trigger s).lines = s.lines ∧ (trigger s).cport = s.cport ∧
    (trigger s).dport = s.dport ∧ (trigger s).link = s.link ∧ (trigger s).settings = s.settings ∧ (trigger s).pages = s.pages ∧
    (trigger s).cmd = s.cmd ∧ (trigger s).tel = s.tel ∧ (trigger s).hand = s.hand ∧ (trigger s).mem = s.mem ∧
    (trigger s).choices = s.choices ∧ (trigger s).pending = s.pending := by
  unfold trigger; (try dsimp only); (repeat' split) <;> simp

@[simp] theorem raiseFault_frame (k : FaultKind) (s : State) :
    (raiseFault k s).now = s.now ∧ (raiseFault k s).timing = s.timing ∧ (raiseFault k s).est = s.est ∧ (raiseFault k s).gov = s.gov ∧
    (raiseFault k s).runner = s.runner ∧ (raiseFault k s).dosing = s.dosing ∧ (raiseFault k s).lines = s.lines ∧ (raiseFault k s).cport = s.cport ∧
    (raiseFault k s).dport = s.dport ∧ (raiseFault k s).link = s.link ∧ (raiseFault k s).settings = s.settings ∧ (raiseFault k s).pages = s.pages ∧
    (raiseFault k s).cmd = s.cmd ∧ (raiseFault k s).tel = s.tel ∧ (raiseFault k s).hand = s.hand ∧ (raiseFault k s).mem = s.mem ∧
    (raiseFault k s).choices = s.choices ∧ (raiseFault k s).pending = s.pending := by
  unfold raiseFault; (try dsimp only); (repeat' split) <;> simp

@[simp] theorem dropEntry_frame (s : State) :
    (dropEntry s).now = s.now ∧ (dropEntry s).timing = s.timing ∧ (dropEntry s).est = s.est ∧ (dropEntry s).gov = s.gov ∧
    (dropEntry s).runner = s.runner ∧ (dropEntry s).dosing = s.dosing ∧ (dropEntry s).lines = s.lines ∧ (dropEntry s).cport = s.cport ∧
    (dropEntry s).dport = s.dport ∧ (dropEntry s).link = s.link ∧ (dropEntry s).settings = s.settings ∧ (dropEntry s).pages = s.pages ∧
    (dropEntry s).cmd = s.cmd ∧ (dropEntry s).tel = s.tel ∧ (dropEntry s).hand = s.hand ∧ (dropEntry s).mem = s.mem ∧
    (dropEntry s).choices = s.choices ∧ (dropEntry s).pending = s.pending := by
  unfold dropEntry; (try dsimp only); (repeat' split) <;> simp

@[simp] theorem askLog_frame (d : LogDetail) (s : State) :
    (askLog d s).now = s.now ∧ (askLog d s).timing = s.timing ∧ (askLog d s).est = s.est ∧ (askLog d s).gov = s.gov ∧
    (askLog d s).runner = s.runner ∧ (askLog d s).dosing = s.dosing ∧ (askLog d s).lines = s.lines ∧ (askLog d s).cport = s.cport ∧
    (askLog d s).dport = s.dport ∧ (askLog d s).link = s.link ∧ (askLog d s).settings = s.settings ∧ (askLog d s).pages = s.pages ∧
    (askLog d s).cmd = s.cmd ∧ (askLog d s).tel = s.tel ∧ (askLog d s).hand = s.hand ∧ (askLog d s).mem = s.mem ∧
    (askLog d s).choices = s.choices ∧ (askLog d s).pending = s.pending := by
  unfold askLog; (try dsimp only); (repeat' split) <;> simp

/-- An access fault touches the access faults alone. -/
@[simp] theorem record_fields (r : ReportUnit) (f : AccessFault) (b : Bool) :
    (r.record f b).latches = r.latches ∧ (r.record f b).seq = r.seq ∧
    (r.record f b).write = r.write ∧ (r.record f b).again = r.again ∧
    (r.record f b).periodStart = r.periodStart ∧ (r.record f b).queue = r.queue ∧
    (r.record f b).nextSlot = r.nextSlot ∧ (r.record f b).nextSeq = r.nextSeq ∧
    (r.record f b).drops = r.drops ∧ (r.record f b).ring = r.ring := by
  simp [ReportUnit.record]

@[simp] theorem recordAccess_frame (p : Port) (k : AccessKind) (a : Nat) (s : State) :
    (recordAccess p k a s).now = s.now ∧ (recordAccess p k a s).timing = s.timing ∧ (recordAccess p k a s).est = s.est ∧ (recordAccess p k a s).gov = s.gov ∧
    (recordAccess p k a s).runner = s.runner ∧ (recordAccess p k a s).dosing = s.dosing ∧ (recordAccess p k a s).lines = s.lines ∧ (recordAccess p k a s).cport = s.cport ∧
    (recordAccess p k a s).dport = s.dport ∧ (recordAccess p k a s).link = s.link ∧ (recordAccess p k a s).settings = s.settings ∧ (recordAccess p k a s).pages = s.pages ∧
    (recordAccess p k a s).cmd = s.cmd ∧ (recordAccess p k a s).tel = s.tel ∧ (recordAccess p k a s).hand = s.hand ∧ (recordAccess p k a s).mem = s.mem ∧
    (recordAccess p k a s).choices = s.choices ∧ (recordAccess p k a s).pending = s.pending := by
  unfold recordAccess; (try dsimp only); (repeat' split) <;> simp

@[simp] theorem sampleRequest_frame (r : SampleRequest) (s : State) :
    (sampleRequest r s).now = s.now ∧ (sampleRequest r s).timing = s.timing ∧ (sampleRequest r s).gov = s.gov ∧ (sampleRequest r s).runner = s.runner ∧
    (sampleRequest r s).dosing = s.dosing ∧ (sampleRequest r s).lines = s.lines ∧ (sampleRequest r s).cport = s.cport ∧ (sampleRequest r s).dport = s.dport ∧
    (sampleRequest r s).link = s.link ∧ (sampleRequest r s).settings = s.settings ∧ (sampleRequest r s).pages = s.pages ∧ (sampleRequest r s).cmd = s.cmd ∧
    (sampleRequest r s).tel = s.tel ∧ (sampleRequest r s).report = s.report ∧ (sampleRequest r s).hand = s.hand ∧ (sampleRequest r s).mem = s.mem ∧
    (sampleRequest r s).choices = s.choices ∧ (sampleRequest r s).pending = s.pending := by
  unfold sampleRequest; (try dsimp only); (repeat' split) <;> simp

@[simp] theorem readComplete_frame (f : SportFrame) (s : State) :
    (readComplete f s).now = s.now ∧ (readComplete f s).timing = s.timing ∧ (readComplete f s).gov = s.gov ∧ (readComplete f s).runner = s.runner ∧
    (readComplete f s).dosing = s.dosing ∧ (readComplete f s).lines = s.lines ∧ (readComplete f s).cport = s.cport ∧ (readComplete f s).dport = s.dport ∧
    (readComplete f s).link = s.link ∧ (readComplete f s).settings = s.settings ∧ (readComplete f s).pages = s.pages ∧ (readComplete f s).cmd = s.cmd ∧
    (readComplete f s).tel = s.tel ∧ (readComplete f s).report = s.report ∧ (readComplete f s).hand = s.hand ∧ (readComplete f s).mem = s.mem ∧
    (readComplete f s).choices = s.choices ∧ (readComplete f s).pending = s.pending := by
  unfold readComplete; (try dsimp only); (repeat' split) <;> simp

@[simp] theorem setEstimate_frame (x : Estimate) (s : State) :
    (setEstimate x s).now = s.now ∧ (setEstimate x s).timing = s.timing ∧ (setEstimate x s).gov = s.gov ∧ (setEstimate x s).runner = s.runner ∧
    (setEstimate x s).dosing = s.dosing ∧ (setEstimate x s).lines = s.lines ∧ (setEstimate x s).cport = s.cport ∧ (setEstimate x s).dport = s.dport ∧
    (setEstimate x s).link = s.link ∧ (setEstimate x s).settings = s.settings ∧ (setEstimate x s).pages = s.pages ∧ (setEstimate x s).cmd = s.cmd ∧
    (setEstimate x s).tel = s.tel ∧ (setEstimate x s).hand = s.hand ∧ (setEstimate x s).mem = s.mem ∧ (setEstimate x s).choices = s.choices ∧
    (setEstimate x s).pending = s.pending := by
  unfold setEstimate; (try dsimp only); (repeat' split) <;> simp

@[simp] theorem flush_frame (s : State) :
    (flush s).now = s.now ∧ (flush s).timing = s.timing ∧ (flush s).gov = s.gov ∧ (flush s).runner = s.runner ∧
    (flush s).dosing = s.dosing ∧ (flush s).lines = s.lines ∧ (flush s).cport = s.cport ∧ (flush s).dport = s.dport ∧
    (flush s).link = s.link ∧ (flush s).settings = s.settings ∧ (flush s).pages = s.pages ∧ (flush s).cmd = s.cmd ∧
    (flush s).tel = s.tel ∧ (flush s).hand = s.hand ∧ (flush s).mem = s.mem ∧ (flush s).choices = s.choices ∧
    (flush s).pending = s.pending := by
  unfold flush; (try dsimp only); (repeat' split) <;> simp

@[simp] theorem gapMark_frame (s : State) :
    (gapMark s).now = s.now ∧ (gapMark s).timing = s.timing ∧ (gapMark s).gov = s.gov ∧ (gapMark s).runner = s.runner ∧
    (gapMark s).dosing = s.dosing ∧ (gapMark s).lines = s.lines ∧ (gapMark s).cport = s.cport ∧ (gapMark s).dport = s.dport ∧
    (gapMark s).link = s.link ∧ (gapMark s).settings = s.settings ∧ (gapMark s).pages = s.pages ∧ (gapMark s).cmd = s.cmd ∧
    (gapMark s).tel = s.tel ∧ (gapMark s).hand = s.hand ∧ (gapMark s).mem = s.mem ∧ (gapMark s).choices = s.choices ∧
    (gapMark s).pending = s.pending := by
  unfold gapMark; (try dsimp only); (repeat' split) <;> simp

@[simp] theorem changeover_frame (v : Nat) (s : State) :
    (changeover v s).now = s.now ∧ (changeover v s).timing = s.timing ∧ (changeover v s).gov = s.gov ∧ (changeover v s).runner = s.runner ∧
    (changeover v s).dosing = s.dosing ∧ (changeover v s).lines = s.lines ∧ (changeover v s).cport = s.cport ∧ (changeover v s).dport = s.dport ∧
    (changeover v s).link = s.link ∧ (changeover v s).settings = s.settings ∧ (changeover v s).pages = s.pages ∧ (changeover v s).cmd = s.cmd ∧
    (changeover v s).tel = s.tel ∧ (changeover v s).hand = s.hand ∧ (changeover v s).mem = s.mem ∧ (changeover v s).choices = s.choices ∧
    (changeover v s).pending = s.pending := by
  unfold changeover; (try dsimp only); (repeat' split) <;> simp

@[simp] theorem recompute_frame (joined : Option Record) (s : State) :
    (recompute joined s).now = s.now ∧ (recompute joined s).timing = s.timing ∧ (recompute joined s).gov = s.gov ∧ (recompute joined s).runner = s.runner ∧
    (recompute joined s).dosing = s.dosing ∧ (recompute joined s).lines = s.lines ∧ (recompute joined s).cport = s.cport ∧ (recompute joined s).dport = s.dport ∧
    (recompute joined s).link = s.link ∧ (recompute joined s).settings = s.settings ∧ (recompute joined s).pages = s.pages ∧ (recompute joined s).cmd = s.cmd ∧
    (recompute joined s).tel = s.tel ∧ (recompute joined s).hand = s.hand ∧ (recompute joined s).mem = s.mem ∧ (recompute joined s).choices = s.choices ∧
    (recompute joined s).pending = s.pending := by
  unfold recompute; (try dsimp only); (repeat' split) <;> simp

@[simp] theorem joinWindow_frame (r : Record) (s : State) :
    (joinWindow r s).now = s.now ∧ (joinWindow r s).timing = s.timing ∧ (joinWindow r s).gov = s.gov ∧ (joinWindow r s).runner = s.runner ∧
    (joinWindow r s).dosing = s.dosing ∧ (joinWindow r s).lines = s.lines ∧ (joinWindow r s).cport = s.cport ∧ (joinWindow r s).dport = s.dport ∧
    (joinWindow r s).link = s.link ∧ (joinWindow r s).settings = s.settings ∧ (joinWindow r s).pages = s.pages ∧ (joinWindow r s).cmd = s.cmd ∧
    (joinWindow r s).tel = s.tel ∧ (joinWindow r s).hand = s.hand ∧ (joinWindow r s).mem = s.mem ∧ (joinWindow r s).choices = s.choices ∧
    (joinWindow r s).pending = s.pending := by
  unfold joinWindow; (try dsimp only); (repeat' split) <;> simp

@[simp] theorem takeStaleMark_frame (mark : Word32) (s : State) :
    (takeStaleMark mark s).now = s.now ∧ (takeStaleMark mark s).timing = s.timing ∧ (takeStaleMark mark s).gov = s.gov ∧ (takeStaleMark mark s).runner = s.runner ∧
    (takeStaleMark mark s).dosing = s.dosing ∧ (takeStaleMark mark s).lines = s.lines ∧ (takeStaleMark mark s).cport = s.cport ∧ (takeStaleMark mark s).dport = s.dport ∧
    (takeStaleMark mark s).link = s.link ∧ (takeStaleMark mark s).settings = s.settings ∧ (takeStaleMark mark s).pages = s.pages ∧ (takeStaleMark mark s).cmd = s.cmd ∧
    (takeStaleMark mark s).tel = s.tel ∧ (takeStaleMark mark s).hand = s.hand ∧ (takeStaleMark mark s).mem = s.mem ∧ (takeStaleMark mark s).choices = s.choices ∧
    (takeStaleMark mark s).pending = s.pending := by
  unfold takeStaleMark; (try dsimp only); (repeat' split) <;> simp

@[simp] theorem countRecovery_frame (r : BoundaryReport) (s : State) :
    (countRecovery r s).now = s.now ∧ (countRecovery r s).timing = s.timing ∧ (countRecovery r s).gov = s.gov ∧ (countRecovery r s).runner = s.runner ∧
    (countRecovery r s).dosing = s.dosing ∧ (countRecovery r s).lines = s.lines ∧ (countRecovery r s).cport = s.cport ∧ (countRecovery r s).dport = s.dport ∧
    (countRecovery r s).link = s.link ∧ (countRecovery r s).settings = s.settings ∧ (countRecovery r s).pages = s.pages ∧ (countRecovery r s).cmd = s.cmd ∧
    (countRecovery r s).tel = s.tel ∧ (countRecovery r s).report = s.report ∧ (countRecovery r s).hand = s.hand ∧ (countRecovery r s).mem = s.mem ∧
    (countRecovery r s).choices = s.choices ∧ (countRecovery r s).pending = s.pending := by
  unfold countRecovery; (try dsimp only); (repeat' split) <;> simp

@[simp] theorem closeReport_frame (r : BoundaryReport) (s : State) :
    (closeReport r s).now = s.now ∧ (closeReport r s).timing = s.timing ∧ (closeReport r s).gov = s.gov ∧ (closeReport r s).runner = s.runner ∧
    (closeReport r s).dosing = s.dosing ∧ (closeReport r s).lines = s.lines ∧ (closeReport r s).cport = s.cport ∧ (closeReport r s).dport = s.dport ∧
    (closeReport r s).link = s.link ∧ (closeReport r s).settings = s.settings ∧ (closeReport r s).pages = s.pages ∧ (closeReport r s).cmd = s.cmd ∧
    (closeReport r s).tel = s.tel ∧ (closeReport r s).report = s.report ∧ (closeReport r s).hand = s.hand ∧ (closeReport r s).mem = s.mem ∧
    (closeReport r s).choices = s.choices ∧ (closeReport r s).pending = s.pending := by
  unfold closeReport; (try dsimp only); (repeat' split) <;> simp

@[simp] theorem wrapMark_frame (r : BoundaryReport) (s : State) :
    (wrapMark r s).now = s.now ∧ (wrapMark r s).timing = s.timing ∧ (wrapMark r s).gov = s.gov ∧ (wrapMark r s).runner = s.runner ∧
    (wrapMark r s).dosing = s.dosing ∧ (wrapMark r s).lines = s.lines ∧ (wrapMark r s).cport = s.cport ∧ (wrapMark r s).dport = s.dport ∧
    (wrapMark r s).link = s.link ∧ (wrapMark r s).settings = s.settings ∧ (wrapMark r s).pages = s.pages ∧ (wrapMark r s).cmd = s.cmd ∧
    (wrapMark r s).tel = s.tel ∧ (wrapMark r s).report = s.report ∧ (wrapMark r s).hand = s.hand ∧ (wrapMark r s).mem = s.mem ∧
    (wrapMark r s).choices = s.choices ∧ (wrapMark r s).pending = s.pending := by
  unfold wrapMark; (try dsimp only); (repeat' split) <;> simp

@[simp] theorem takeTorque_frame (ripple : Nat) (s : State) :
    (takeTorque ripple s).now = s.now ∧ (takeTorque ripple s).timing = s.timing ∧ (takeTorque ripple s).gov = s.gov ∧ (takeTorque ripple s).runner = s.runner ∧
    (takeTorque ripple s).dosing = s.dosing ∧ (takeTorque ripple s).lines = s.lines ∧ (takeTorque ripple s).cport = s.cport ∧ (takeTorque ripple s).dport = s.dport ∧
    (takeTorque ripple s).link = s.link ∧ (takeTorque ripple s).settings = s.settings ∧ (takeTorque ripple s).pages = s.pages ∧ (takeTorque ripple s).cmd = s.cmd ∧
    (takeTorque ripple s).tel = s.tel ∧ (takeTorque ripple s).report = s.report ∧ (takeTorque ripple s).hand = s.hand ∧ (takeTorque ripple s).mem = s.mem ∧
    (takeTorque ripple s).choices = s.choices ∧ (takeTorque ripple s).pending = s.pending := by
  unfold takeTorque; (try dsimp only); (repeat' split) <;> simp

@[simp] theorem adoptEstimator_frame (s : State) :
    (adoptEstimator s).now = s.now ∧ (adoptEstimator s).timing = s.timing ∧ (adoptEstimator s).gov = s.gov ∧ (adoptEstimator s).runner = s.runner ∧
    (adoptEstimator s).dosing = s.dosing ∧ (adoptEstimator s).lines = s.lines ∧ (adoptEstimator s).cport = s.cport ∧ (adoptEstimator s).dport = s.dport ∧
    (adoptEstimator s).link = s.link ∧ (adoptEstimator s).settings = s.settings ∧ (adoptEstimator s).pages = s.pages ∧ (adoptEstimator s).cmd = s.cmd ∧
    (adoptEstimator s).tel = s.tel ∧ (adoptEstimator s).hand = s.hand ∧ (adoptEstimator s).mem = s.mem ∧ (adoptEstimator s).choices = s.choices ∧
    (adoptEstimator s).pending = s.pending := by
  unfold adoptEstimator; (try dsimp only); (repeat' split) <;> simp

@[simp] theorem setLine_frame (s : State) (n : Fin 8) (l : LineRec) :
    (setLine s n l).now = s.now ∧ (setLine s n l).timing = s.timing ∧ (setLine s n l).est = s.est ∧ (setLine s n l).gov = s.gov ∧
    (setLine s n l).runner = s.runner ∧ (setLine s n l).dosing = s.dosing ∧ (setLine s n l).cport = s.cport ∧ (setLine s n l).dport = s.dport ∧
    (setLine s n l).link = s.link ∧ (setLine s n l).settings = s.settings ∧ (setLine s n l).pages = s.pages ∧ (setLine s n l).cmd = s.cmd ∧
    (setLine s n l).tel = s.tel ∧ (setLine s n l).report = s.report ∧ (setLine s n l).hand = s.hand ∧ (setLine s n l).mem = s.mem ∧
    (setLine s n l).choices = s.choices ∧ (setLine s n l).pending = s.pending := by
  unfold setLine; (try dsimp only); (repeat' split) <;> simp

@[simp] theorem askFill_frame (level : Bool) (s : State) :
    (askFill level s).now = s.now ∧ (askFill level s).timing = s.timing ∧ (askFill level s).est = s.est ∧ (askFill level s).gov = s.gov ∧
    (askFill level s).runner = s.runner ∧ (askFill level s).dosing = s.dosing ∧ (askFill level s).cport = s.cport ∧ (askFill level s).dport = s.dport ∧
    (askFill level s).link = s.link ∧ (askFill level s).settings = s.settings ∧ (askFill level s).pages = s.pages ∧ (askFill level s).cmd = s.cmd ∧
    (askFill level s).tel = s.tel ∧ (askFill level s).report = s.report ∧ (askFill level s).hand = s.hand ∧ (askFill level s).mem = s.mem ∧
    (askFill level s).choices = s.choices ∧ (askFill level s).pending = s.pending := by
  unfold askFill; (try dsimp only); (repeat' split) <;> simp

@[simp] theorem askLock_frame (level : Bool) (s : State) :
    (askLock level s).now = s.now ∧ (askLock level s).timing = s.timing ∧ (askLock level s).est = s.est ∧ (askLock level s).gov = s.gov ∧
    (askLock level s).runner = s.runner ∧ (askLock level s).dosing = s.dosing ∧ (askLock level s).cport = s.cport ∧ (askLock level s).dport = s.dport ∧
    (askLock level s).link = s.link ∧ (askLock level s).settings = s.settings ∧ (askLock level s).pages = s.pages ∧ (askLock level s).cmd = s.cmd ∧
    (askLock level s).tel = s.tel ∧ (askLock level s).report = s.report ∧ (askLock level s).hand = s.hand ∧ (askLock level s).mem = s.mem ∧
    (askLock level s).choices = s.choices ∧ (askLock level s).pending = s.pending := by
  unfold askLock; (try dsimp only); (repeat' split) <;> simp

@[simp] theorem driveAsked_frame (s : State) :
    (driveAsked s).now = s.now ∧ (driveAsked s).timing = s.timing ∧ (driveAsked s).est = s.est ∧ (driveAsked s).gov = s.gov ∧
    (driveAsked s).runner = s.runner ∧ (driveAsked s).dosing = s.dosing ∧ (driveAsked s).cport = s.cport ∧ (driveAsked s).dport = s.dport ∧
    (driveAsked s).link = s.link ∧ (driveAsked s).settings = s.settings ∧ (driveAsked s).pages = s.pages ∧ (driveAsked s).cmd = s.cmd ∧
    (driveAsked s).tel = s.tel ∧ (driveAsked s).report = s.report ∧ (driveAsked s).hand = s.hand ∧ (driveAsked s).mem = s.mem ∧
    (driveAsked s).choices = s.choices ∧ (driveAsked s).pending = s.pending := by
  unfold driveAsked; (try dsimp only); (repeat' split) <;> simp

@[simp] theorem applyLines_frame (mode data : Byte) (s : State) :
    (applyLines mode data s).now = s.now ∧ (applyLines mode data s).timing = s.timing ∧ (applyLines mode data s).est = s.est ∧ (applyLines mode data s).gov = s.gov ∧
    (applyLines mode data s).runner = s.runner ∧ (applyLines mode data s).dosing = s.dosing ∧ (applyLines mode data s).cport = s.cport ∧ (applyLines mode data s).dport = s.dport ∧
    (applyLines mode data s).link = s.link ∧ (applyLines mode data s).settings = s.settings ∧ (applyLines mode data s).pages = s.pages ∧ (applyLines mode data s).cmd = s.cmd ∧
    (applyLines mode data s).tel = s.tel ∧ (applyLines mode data s).report = s.report ∧ (applyLines mode data s).hand = s.hand ∧ (applyLines mode data s).mem = s.mem ∧
    (applyLines mode data s).choices = s.choices ∧ (applyLines mode data s).pending = s.pending := by
  unfold applyLines; (try dsimp only); (repeat' split) <;> simp

@[simp] theorem setHead_frame (s : State) (o : DoseOrder) :
    (setHead s o).now = s.now ∧ (setHead s o).timing = s.timing ∧ (setHead s o).est = s.est ∧ (setHead s o).gov = s.gov ∧
    (setHead s o).runner = s.runner ∧ (setHead s o).lines = s.lines ∧ (setHead s o).cport = s.cport ∧ (setHead s o).dport = s.dport ∧
    (setHead s o).link = s.link ∧ (setHead s o).settings = s.settings ∧ (setHead s o).pages = s.pages ∧ (setHead s o).cmd = s.cmd ∧
    (setHead s o).tel = s.tel ∧ (setHead s o).report = s.report ∧ (setHead s o).hand = s.hand ∧ (setHead s o).mem = s.mem ∧
    (setHead s o).choices = s.choices ∧ (setHead s o).pending = s.pending := by
  unfold setHead; (try dsimp only); (repeat' split) <;> simp

@[simp] theorem promote_frame (s : State) :
    (promote s).now = s.now ∧ (promote s).timing = s.timing ∧ (promote s).est = s.est ∧ (promote s).gov = s.gov ∧
    (promote s).runner = s.runner ∧ (promote s).lines = s.lines ∧ (promote s).cport = s.cport ∧ (promote s).dport = s.dport ∧
    (promote s).link = s.link ∧ (promote s).settings = s.settings ∧ (promote s).pages = s.pages ∧ (promote s).cmd = s.cmd ∧
    (promote s).tel = s.tel ∧ (promote s).report = s.report ∧ (promote s).hand = s.hand ∧ (promote s).mem = s.mem ∧
    (promote s).choices = s.choices ∧ (promote s).pending = s.pending := by
  unfold promote; (try dsimp only); (repeat' split) <;> simp

@[simp] theorem addOrder_frame (origin : Origin) (k : Fin 4) (volume : Nat) (capLimited : Bool) (s : State) :
    (addOrder origin k volume capLimited s).now = s.now ∧ (addOrder origin k volume capLimited s).timing = s.timing ∧ (addOrder origin k volume capLimited s).est = s.est ∧ (addOrder origin k volume capLimited s).gov = s.gov ∧
    (addOrder origin k volume capLimited s).runner = s.runner ∧ (addOrder origin k volume capLimited s).lines = s.lines ∧ (addOrder origin k volume capLimited s).cport = s.cport ∧ (addOrder origin k volume capLimited s).dport = s.dport ∧
    (addOrder origin k volume capLimited s).link = s.link ∧ (addOrder origin k volume capLimited s).settings = s.settings ∧ (addOrder origin k volume capLimited s).pages = s.pages ∧ (addOrder origin k volume capLimited s).cmd = s.cmd ∧
    (addOrder origin k volume capLimited s).tel = s.tel ∧ (addOrder origin k volume capLimited s).report = s.report ∧ (addOrder origin k volume capLimited s).hand = s.hand ∧ (addOrder origin k volume capLimited s).mem = s.mem ∧
    (addOrder origin k volume capLimited s).choices = s.choices ∧ (addOrder origin k volume capLimited s).pending = s.pending := by
  unfold addOrder; (try dsimp only); (repeat' split) <;> simp

@[simp] theorem accountPass_frame (p : PassRecord) (volume : Nat) (s : State) :
    (accountPass p volume s).now = s.now ∧ (accountPass p volume s).timing = s.timing ∧ (accountPass p volume s).gov = s.gov ∧ (accountPass p volume s).lines = s.lines ∧
    (accountPass p volume s).cport = s.cport ∧ (accountPass p volume s).dport = s.dport ∧ (accountPass p volume s).link = s.link ∧ (accountPass p volume s).settings = s.settings ∧
    (accountPass p volume s).pages = s.pages ∧ (accountPass p volume s).cmd = s.cmd ∧ (accountPass p volume s).tel = s.tel ∧ (accountPass p volume s).hand = s.hand ∧
    (accountPass p volume s).mem = s.mem ∧ (accountPass p volume s).choices = s.choices ∧ (accountPass p volume s).pending = s.pending := by
  unfold accountPass; (try dsimp only); (repeat' split) <;> simp

@[simp] theorem closeProRata_frame (s : State) :
    (closeProRata s).now = s.now ∧ (closeProRata s).timing = s.timing ∧ (closeProRata s).gov = s.gov ∧ (closeProRata s).cport = s.cport ∧
    (closeProRata s).dport = s.dport ∧ (closeProRata s).link = s.link ∧ (closeProRata s).settings = s.settings ∧ (closeProRata s).pages = s.pages ∧
    (closeProRata s).cmd = s.cmd ∧ (closeProRata s).tel = s.tel ∧ (closeProRata s).hand = s.hand ∧ (closeProRata s).mem = s.mem ∧
    (closeProRata s).choices = s.choices ∧ (closeProRata s).pending = s.pending := by
  unfold closeProRata; (try dsimp only); (repeat' split) <;> simp

@[simp] theorem passCheck_frame (s : State) :
    (passCheck s).now = s.now ∧ (passCheck s).timing = s.timing ∧ (passCheck s).gov = s.gov ∧ (passCheck s).cport = s.cport ∧
    (passCheck s).dport = s.dport ∧ (passCheck s).link = s.link ∧ (passCheck s).settings = s.settings ∧ (passCheck s).pages = s.pages ∧
    (passCheck s).cmd = s.cmd ∧ (passCheck s).tel = s.tel ∧ (passCheck s).hand = s.hand ∧ (passCheck s).mem = s.mem ∧
    (passCheck s).choices = s.choices ∧ (passCheck s).pending = s.pending := by
  unfold passCheck; (try dsimp only); (repeat' split) <;> simp

@[simp] theorem cutQueue_frame (cause : CutCause) (s : State) :
    (cutQueue cause s).now = s.now ∧ (cutQueue cause s).timing = s.timing ∧ (cutQueue cause s).gov = s.gov ∧ (cutQueue cause s).cport = s.cport ∧
    (cutQueue cause s).dport = s.dport ∧ (cutQueue cause s).link = s.link ∧ (cutQueue cause s).settings = s.settings ∧ (cutQueue cause s).pages = s.pages ∧
    (cutQueue cause s).cmd = s.cmd ∧ (cutQueue cause s).tel = s.tel ∧ (cutQueue cause s).hand = s.hand ∧ (cutQueue cause s).mem = s.mem ∧
    (cutQueue cause s).choices = s.choices ∧ (cutQueue cause s).pending = s.pending := by
  unfold cutQueue; (try dsimp only); (repeat' split) <;> simp

@[simp] theorem drain_frame (s : State) :
    (drain s).now = s.now ∧ (drain s).timing = s.timing ∧ (drain s).gov = s.gov ∧ (drain s).cport = s.cport ∧
    (drain s).dport = s.dport ∧ (drain s).link = s.link ∧ (drain s).settings = s.settings ∧ (drain s).pages = s.pages ∧
    (drain s).cmd = s.cmd ∧ (drain s).tel = s.tel ∧ (drain s).hand = s.hand ∧ (drain s).mem = s.mem ∧
    (drain s).choices = s.choices ∧ (drain s).pending = s.pending := by
  unfold drain; (try dsimp only); (repeat' split) <;> simp

@[simp] theorem dosingSpeed_frame (v : Nat) (s : State) :
    (dosingSpeed v s).now = s.now ∧ (dosingSpeed v s).timing = s.timing ∧ (dosingSpeed v s).gov = s.gov ∧ (dosingSpeed v s).cport = s.cport ∧
    (dosingSpeed v s).dport = s.dport ∧ (dosingSpeed v s).link = s.link ∧ (dosingSpeed v s).settings = s.settings ∧ (dosingSpeed v s).pages = s.pages ∧
    (dosingSpeed v s).cmd = s.cmd ∧ (dosingSpeed v s).tel = s.tel ∧ (dosingSpeed v s).hand = s.hand ∧ (dosingSpeed v s).mem = s.mem ∧
    (dosingSpeed v s).choices = s.choices ∧ (dosingSpeed v s).pending = s.pending := by
  unfold dosingSpeed; (try dsimp only); (repeat' split) <;> simp

@[simp] theorem countSettle_frame (s : State) :
    (countSettle s).now = s.now ∧ (countSettle s).timing = s.timing ∧ (countSettle s).est = s.est ∧ (countSettle s).gov = s.gov ∧
    (countSettle s).runner = s.runner ∧ (countSettle s).lines = s.lines ∧ (countSettle s).cport = s.cport ∧ (countSettle s).dport = s.dport ∧
    (countSettle s).link = s.link ∧ (countSettle s).settings = s.settings ∧ (countSettle s).pages = s.pages ∧ (countSettle s).cmd = s.cmd ∧
    (countSettle s).tel = s.tel ∧ (countSettle s).hand = s.hand ∧ (countSettle s).mem = s.mem ∧ (countSettle s).choices = s.choices ∧
    (countSettle s).pending = s.pending := by
  unfold countSettle; (try dsimp only); (repeat' split) <;> simp

@[simp] theorem addPlanned_frame (k : Fin 4) (volume : Nat) (capLimited : Bool) (s : State) :
    (addPlanned k volume capLimited s).now = s.now ∧ (addPlanned k volume capLimited s).timing = s.timing ∧ (addPlanned k volume capLimited s).est = s.est ∧ (addPlanned k volume capLimited s).gov = s.gov ∧
    (addPlanned k volume capLimited s).runner = s.runner ∧ (addPlanned k volume capLimited s).lines = s.lines ∧ (addPlanned k volume capLimited s).cport = s.cport ∧ (addPlanned k volume capLimited s).dport = s.dport ∧
    (addPlanned k volume capLimited s).link = s.link ∧ (addPlanned k volume capLimited s).settings = s.settings ∧ (addPlanned k volume capLimited s).pages = s.pages ∧ (addPlanned k volume capLimited s).cmd = s.cmd ∧
    (addPlanned k volume capLimited s).tel = s.tel ∧ (addPlanned k volume capLimited s).report = s.report ∧ (addPlanned k volume capLimited s).hand = s.hand ∧ (addPlanned k volume capLimited s).mem = s.mem ∧
    (addPlanned k volume capLimited s).choices = s.choices ∧ (addPlanned k volume capLimited s).pending = s.pending := by
  unfold addPlanned; (try dsimp only); (repeat' split) <;> simp

@[simp] theorem runPlanner_frame (s : State) :
    (runPlanner s).1.now = s.now ∧ (runPlanner s).1.timing = s.timing ∧ (runPlanner s).1.est = s.est ∧ (runPlanner s).1.gov = s.gov ∧
    (runPlanner s).1.runner = s.runner ∧ (runPlanner s).1.lines = s.lines ∧ (runPlanner s).1.cport = s.cport ∧ (runPlanner s).1.dport = s.dport ∧
    (runPlanner s).1.link = s.link ∧ (runPlanner s).1.settings = s.settings ∧ (runPlanner s).1.pages = s.pages ∧ (runPlanner s).1.cmd = s.cmd ∧
    (runPlanner s).1.tel = s.tel ∧ (runPlanner s).1.report = s.report ∧ (runPlanner s).1.hand = s.hand ∧ (runPlanner s).1.mem = s.mem ∧
    (runPlanner s).1.choices = s.choices ∧ (runPlanner s).1.pending = s.pending := by
  unfold runPlanner; (try dsimp only); (repeat' split) <;> simp

@[simp] theorem refreshRamp_frame (s : State) :
    (refreshRamp s).now = s.now ∧ (refreshRamp s).timing = s.timing ∧ (refreshRamp s).est = s.est ∧ (refreshRamp s).runner = s.runner ∧
    (refreshRamp s).dosing = s.dosing ∧ (refreshRamp s).lines = s.lines ∧ (refreshRamp s).cport = s.cport ∧ (refreshRamp s).dport = s.dport ∧
    (refreshRamp s).link = s.link ∧ (refreshRamp s).settings = s.settings ∧ (refreshRamp s).pages = s.pages ∧ (refreshRamp s).cmd = s.cmd ∧
    (refreshRamp s).tel = s.tel ∧ (refreshRamp s).report = s.report ∧ (refreshRamp s).hand = s.hand ∧ (refreshRamp s).mem = s.mem ∧
    (refreshRamp s).choices = s.choices ∧ (refreshRamp s).pending = s.pending := by
  unfold refreshRamp; (try dsimp only); (repeat' split) <;> simp

@[simp] theorem enterState_frame (st : GovState) (mv : Move) (target : Nat) (band : Option (Fin 6)) (s : State) :
    (enterState st mv target band s).now = s.now ∧ (enterState st mv target band s).timing = s.timing ∧ (enterState st mv target band s).cport = s.cport ∧ (enterState st mv target band s).dport = s.dport ∧
    (enterState st mv target band s).link = s.link ∧ (enterState st mv target band s).settings = s.settings ∧ (enterState st mv target band s).pages = s.pages ∧ (enterState st mv target band s).cmd = s.cmd ∧
    (enterState st mv target band s).tel = s.tel ∧ (enterState st mv target band s).hand = s.hand ∧ (enterState st mv target band s).mem = s.mem ∧ (enterState st mv target band s).choices = s.choices ∧
    (enterState st mv target band s).pending = s.pending := by
  unfold enterState; (try dsimp only); (repeat' split) <;> simp

@[simp] theorem enterHold_frame (s : State) :
    (enterHold s).now = s.now ∧ (enterHold s).timing = s.timing ∧ (enterHold s).cport = s.cport ∧ (enterHold s).dport = s.dport ∧
    (enterHold s).link = s.link ∧ (enterHold s).settings = s.settings ∧ (enterHold s).pages = s.pages ∧ (enterHold s).cmd = s.cmd ∧
    (enterHold s).tel = s.tel ∧ (enterHold s).hand = s.hand ∧ (enterHold s).mem = s.mem ∧ (enterHold s).choices = s.choices ∧
    (enterHold s).pending = s.pending := by
  unfold enterHold; (try dsimp only); (repeat' split) <;> simp

@[simp] theorem enterCross_frame (k : Fin 6) (s : State) :
    (enterCross k s).now = s.now ∧ (enterCross k s).timing = s.timing ∧ (enterCross k s).cport = s.cport ∧ (enterCross k s).dport = s.dport ∧
    (enterCross k s).link = s.link ∧ (enterCross k s).settings = s.settings ∧ (enterCross k s).pages = s.pages ∧ (enterCross k s).cmd = s.cmd ∧
    (enterCross k s).tel = s.tel ∧ (enterCross k s).hand = s.hand ∧ (enterCross k s).mem = s.mem ∧ (enterCross k s).choices = s.choices ∧
    (enterCross k s).pending = s.pending := by
  unfold enterCross; (try dsimp only); (repeat' split) <;> simp

@[simp] theorem enterRetreat_frame (k : Fin 6) (s : State) :
    (enterRetreat k s).now = s.now ∧ (enterRetreat k s).timing = s.timing ∧ (enterRetreat k s).cport = s.cport ∧ (enterRetreat k s).dport = s.dport ∧
    (enterRetreat k s).link = s.link ∧ (enterRetreat k s).settings = s.settings ∧ (enterRetreat k s).pages = s.pages ∧ (enterRetreat k s).cmd = s.cmd ∧
    (enterRetreat k s).tel = s.tel ∧ (enterRetreat k s).hand = s.hand ∧ (enterRetreat k s).mem = s.mem ∧ (enterRetreat k s).choices = s.choices ∧
    (enterRetreat k s).pending = s.pending := by
  unfold enterRetreat; (try dsimp only); (repeat' split) <;> simp

@[simp] theorem enterWait_frame (k : Fin 6) (s : State) :
    (enterWait k s).now = s.now ∧ (enterWait k s).timing = s.timing ∧ (enterWait k s).cport = s.cport ∧ (enterWait k s).dport = s.dport ∧
    (enterWait k s).link = s.link ∧ (enterWait k s).settings = s.settings ∧ (enterWait k s).pages = s.pages ∧ (enterWait k s).cmd = s.cmd ∧
    (enterWait k s).tel = s.tel ∧ (enterWait k s).hand = s.hand ∧ (enterWait k s).mem = s.mem ∧ (enterWait k s).choices = s.choices ∧
    (enterWait k s).pending = s.pending := by
  unfold enterWait; (try dsimp only); (repeat' split) <;> simp

@[simp] theorem climb_frame (s : State) :
    (climb s).now = s.now ∧ (climb s).timing = s.timing ∧ (climb s).cport = s.cport ∧ (climb s).dport = s.dport ∧
    (climb s).link = s.link ∧ (climb s).settings = s.settings ∧ (climb s).pages = s.pages ∧ (climb s).cmd = s.cmd ∧
    (climb s).tel = s.tel ∧ (climb s).hand = s.hand ∧ (climb s).mem = s.mem ∧ (climb s).choices = s.choices ∧
    (climb s).pending = s.pending := by
  unfold climb; (try dsimp only); (repeat' split) <;> simp

@[simp] theorem forceDown_frame (s : State) :
    (forceDown s).now = s.now ∧ (forceDown s).timing = s.timing ∧ (forceDown s).cport = s.cport ∧ (forceDown s).dport = s.dport ∧
    (forceDown s).link = s.link ∧ (forceDown s).settings = s.settings ∧ (forceDown s).pages = s.pages ∧ (forceDown s).cmd = s.cmd ∧
    (forceDown s).tel = s.tel ∧ (forceDown s).hand = s.hand ∧ (forceDown s).mem = s.mem ∧ (forceDown s).choices = s.choices ∧
    (forceDown s).pending = s.pending := by
  unfold forceDown; (try dsimp only); (repeat' split) <;> simp

@[simp] theorem stateLogic_frame (dropped : Bool) (s : State) :
    (stateLogic dropped s).now = s.now ∧ (stateLogic dropped s).timing = s.timing ∧ (stateLogic dropped s).cport = s.cport ∧ (stateLogic dropped s).dport = s.dport ∧
    (stateLogic dropped s).link = s.link ∧ (stateLogic dropped s).settings = s.settings ∧ (stateLogic dropped s).pages = s.pages ∧ (stateLogic dropped s).cmd = s.cmd ∧
    (stateLogic dropped s).tel = s.tel ∧ (stateLogic dropped s).hand = s.hand ∧ (stateLogic dropped s).mem = s.mem ∧ (stateLogic dropped s).choices = s.choices ∧
    (stateLogic dropped s).pending = s.pending := by
  unfold stateLogic; (try dsimp only); (repeat' split) <;> simp

@[simp] theorem setCeiling_frame (s : State) :
    (setCeiling s).now = s.now ∧ (setCeiling s).timing = s.timing ∧ (setCeiling s).est = s.est ∧ (setCeiling s).runner = s.runner ∧
    (setCeiling s).dosing = s.dosing ∧ (setCeiling s).lines = s.lines ∧ (setCeiling s).cport = s.cport ∧ (setCeiling s).dport = s.dport ∧
    (setCeiling s).link = s.link ∧ (setCeiling s).settings = s.settings ∧ (setCeiling s).pages = s.pages ∧ (setCeiling s).cmd = s.cmd ∧
    (setCeiling s).tel = s.tel ∧ (setCeiling s).report = s.report ∧ (setCeiling s).hand = s.hand ∧ (setCeiling s).mem = s.mem ∧
    (setCeiling s).choices = s.choices ∧ (setCeiling s).pending = s.pending := by
  unfold setCeiling; (try dsimp only); (repeat' split) <;> simp

@[simp] theorem recomputeCeiling_frame (s : State) :
    (recomputeCeiling s).now = s.now ∧ (recomputeCeiling s).timing = s.timing ∧ (recomputeCeiling s).cport = s.cport ∧ (recomputeCeiling s).dport = s.dport ∧
    (recomputeCeiling s).link = s.link ∧ (recomputeCeiling s).settings = s.settings ∧ (recomputeCeiling s).pages = s.pages ∧ (recomputeCeiling s).cmd = s.cmd ∧
    (recomputeCeiling s).tel = s.tel ∧ (recomputeCeiling s).hand = s.hand ∧ (recomputeCeiling s).mem = s.mem ∧ (recomputeCeiling s).choices = s.choices ∧
    (recomputeCeiling s).pending = s.pending := by
  unfold recomputeCeiling; (try dsimp only); (repeat' split) <;> simp

@[simp] theorem leaveStep_frame (s : State) :
    (leaveStep s).now = s.now ∧ (leaveStep s).timing = s.timing ∧ (leaveStep s).cport = s.cport ∧ (leaveStep s).dport = s.dport ∧
    (leaveStep s).link = s.link ∧ (leaveStep s).settings = s.settings ∧ (leaveStep s).pages = s.pages ∧ (leaveStep s).cmd = s.cmd ∧
    (leaveStep s).tel = s.tel ∧ (leaveStep s).hand = s.hand ∧ (leaveStep s).mem = s.mem ∧ (leaveStep s).choices = s.choices ∧
    (leaveStep s).pending = s.pending := by
  unfold leaveStep; (try dsimp only); (repeat' split) <;> simp

@[simp] theorem enterStopping_frame (s : State) :
    (enterStopping s).now = s.now ∧ (enterStopping s).timing = s.timing ∧ (enterStopping s).cport = s.cport ∧ (enterStopping s).dport = s.dport ∧
    (enterStopping s).link = s.link ∧ (enterStopping s).settings = s.settings ∧ (enterStopping s).pages = s.pages ∧ (enterStopping s).cmd = s.cmd ∧
    (enterStopping s).tel = s.tel ∧ (enterStopping s).hand = s.hand ∧ (enterStopping s).mem = s.mem ∧ (enterStopping s).choices = s.choices ∧
    (enterStopping s).pending = s.pending := by
  unfold enterStopping; (try dsimp only); (repeat' split) <;> simp

@[simp] theorem setRunnerState_frame (st : RunnerState) (s : State) :
    (setRunnerState st s).now = s.now ∧ (setRunnerState st s).timing = s.timing ∧ (setRunnerState st s).est = s.est ∧ (setRunnerState st s).gov = s.gov ∧
    (setRunnerState st s).dosing = s.dosing ∧ (setRunnerState st s).lines = s.lines ∧ (setRunnerState st s).cport = s.cport ∧ (setRunnerState st s).dport = s.dport ∧
    (setRunnerState st s).link = s.link ∧ (setRunnerState st s).settings = s.settings ∧ (setRunnerState st s).pages = s.pages ∧ (setRunnerState st s).cmd = s.cmd ∧
    (setRunnerState st s).tel = s.tel ∧ (setRunnerState st s).hand = s.hand ∧ (setRunnerState st s).mem = s.mem ∧ (setRunnerState st s).choices = s.choices ∧
    (setRunnerState st s).pending = s.pending := by
  unfold setRunnerState; (try dsimp only); (repeat' split) <;> simp

@[simp] theorem abortPlan_frame (why : EndReason) (s : State) :
    (abortPlan why s).now = s.now ∧ (abortPlan why s).timing = s.timing ∧ (abortPlan why s).gov = s.gov ∧ (abortPlan why s).cport = s.cport ∧
    (abortPlan why s).dport = s.dport ∧ (abortPlan why s).link = s.link ∧ (abortPlan why s).settings = s.settings ∧ (abortPlan why s).pages = s.pages ∧
    (abortPlan why s).cmd = s.cmd ∧ (abortPlan why s).tel = s.tel ∧ (abortPlan why s).hand = s.hand ∧ (abortPlan why s).mem = s.mem ∧
    (abortPlan why s).choices = s.choices ∧ (abortPlan why s).pending = s.pending := by
  unfold abortPlan; (try dsimp only); (repeat' split) <;> simp

@[simp] theorem logTrip_frame (k : FaultKind) (step : Option Nat) (s : State) :
    (logTrip k step s).now = s.now ∧ (logTrip k step s).timing = s.timing ∧ (logTrip k step s).est = s.est ∧ (logTrip k step s).gov = s.gov ∧
    (logTrip k step s).runner = s.runner ∧ (logTrip k step s).dosing = s.dosing ∧ (logTrip k step s).lines = s.lines ∧ (logTrip k step s).cport = s.cport ∧
    (logTrip k step s).dport = s.dport ∧ (logTrip k step s).link = s.link ∧ (logTrip k step s).settings = s.settings ∧ (logTrip k step s).pages = s.pages ∧
    (logTrip k step s).cmd = s.cmd ∧ (logTrip k step s).tel = s.tel ∧ (logTrip k step s).hand = s.hand ∧ (logTrip k step s).mem = s.mem ∧
    (logTrip k step s).choices = s.choices ∧ (logTrip k step s).pending = s.pending := by
  unfold logTrip; (try dsimp only); (repeat' split) <;> simp

@[simp] theorem detect_frame (k : FaultKind) (s : State) :
    (detect k s).now = s.now ∧ (detect k s).timing = s.timing ∧ (detect k s).cport = s.cport ∧ (detect k s).dport = s.dport ∧
    (detect k s).link = s.link ∧ (detect k s).settings = s.settings ∧ (detect k s).pages = s.pages ∧ (detect k s).cmd = s.cmd ∧
    (detect k s).tel = s.tel ∧ (detect k s).hand = s.hand ∧ (detect k s).mem = s.mem ∧ (detect k s).choices = s.choices ∧
    (detect k s).pending = s.pending := by
  unfold detect; (try dsimp only); (repeat' split) <;> simp

@[simp] theorem beginRun_frame (s : State) :
    (beginRun s).now = s.now ∧ (beginRun s).timing = s.timing ∧ (beginRun s).est = s.est ∧ (beginRun s).runner = s.runner ∧
    (beginRun s).dosing = s.dosing ∧ (beginRun s).lines = s.lines ∧ (beginRun s).cport = s.cport ∧ (beginRun s).dport = s.dport ∧
    (beginRun s).link = s.link ∧ (beginRun s).settings = s.settings ∧ (beginRun s).pages = s.pages ∧ (beginRun s).cmd = s.cmd ∧
    (beginRun s).tel = s.tel ∧ (beginRun s).report = s.report ∧ (beginRun s).hand = s.hand ∧ (beginRun s).mem = s.mem ∧
    (beginRun s).choices = s.choices ∧ (beginRun s).pending = s.pending := by
  unfold beginRun; (try dsimp only); (repeat' split) <;> simp

@[simp] theorem runBeginTests_frame (s : State) :
    (runBeginTests s).now = s.now ∧ (runBeginTests s).timing = s.timing ∧ (runBeginTests s).cport = s.cport ∧ (runBeginTests s).dport = s.dport ∧
    (runBeginTests s).link = s.link ∧ (runBeginTests s).settings = s.settings ∧ (runBeginTests s).pages = s.pages ∧ (runBeginTests s).cmd = s.cmd ∧
    (runBeginTests s).tel = s.tel ∧ (runBeginTests s).hand = s.hand ∧ (runBeginTests s).mem = s.mem ∧ (runBeginTests s).choices = s.choices ∧
    (runBeginTests s).pending = s.pending := by
  unfold runBeginTests; (try dsimp only); (repeat' split) <;> simp

@[simp] theorem aimAtStep_frame (p : PlanStep) (s : State) :
    (aimAtStep p s).now = s.now ∧ (aimAtStep p s).timing = s.timing ∧ (aimAtStep p s).cport = s.cport ∧ (aimAtStep p s).dport = s.dport ∧
    (aimAtStep p s).link = s.link ∧ (aimAtStep p s).settings = s.settings ∧ (aimAtStep p s).pages = s.pages ∧ (aimAtStep p s).cmd = s.cmd ∧
    (aimAtStep p s).tel = s.tel ∧ (aimAtStep p s).hand = s.hand ∧ (aimAtStep p s).mem = s.mem ∧ (aimAtStep p s).choices = s.choices ∧
    (aimAtStep p s).pending = s.pending := by
  unfold aimAtStep; (try dsimp only); (repeat' split) <;> simp

@[simp] theorem stepEntry_frame (i : Nat) (s : State) :
    (stepEntry i s).now = s.now ∧ (stepEntry i s).timing = s.timing ∧ (stepEntry i s).cport = s.cport ∧ (stepEntry i s).dport = s.dport ∧
    (stepEntry i s).link = s.link ∧ (stepEntry i s).settings = s.settings ∧ (stepEntry i s).pages = s.pages ∧ (stepEntry i s).cmd = s.cmd ∧
    (stepEntry i s).tel = s.tel ∧ (stepEntry i s).hand = s.hand ∧ (stepEntry i s).mem = s.mem ∧ (stepEntry i s).choices = s.choices ∧
    (stepEntry i s).pending = s.pending := by
  unfold stepEntry; (try dsimp only); (repeat' split) <;> simp

@[simp] theorem nextStep_frame (s : State) :
    (nextStep s).now = s.now ∧ (nextStep s).timing = s.timing ∧ (nextStep s).cport = s.cport ∧ (nextStep s).dport = s.dport ∧
    (nextStep s).link = s.link ∧ (nextStep s).settings = s.settings ∧ (nextStep s).pages = s.pages ∧ (nextStep s).cmd = s.cmd ∧
    (nextStep s).tel = s.tel ∧ (nextStep s).hand = s.hand ∧ (nextStep s).mem = s.mem ∧ (nextStep s).choices = s.choices ∧
    (nextStep s).pending = s.pending := by
  unfold nextStep; (try dsimp only); (repeat' split) <;> simp

@[simp] theorem stepFails_frame (why : FailReason) (s : State) :
    (stepFails why s).now = s.now ∧ (stepFails why s).timing = s.timing ∧ (stepFails why s).cport = s.cport ∧ (stepFails why s).dport = s.dport ∧
    (stepFails why s).link = s.link ∧ (stepFails why s).settings = s.settings ∧ (stepFails why s).pages = s.pages ∧ (stepFails why s).cmd = s.cmd ∧
    (stepFails why s).tel = s.tel ∧ (stepFails why s).hand = s.hand ∧ (stepFails why s).mem = s.mem ∧ (stepFails why s).choices = s.choices ∧
    (stepFails why s).pending = s.pending := by
  unfold stepFails; (try dsimp only); (repeat' split) <;> simp

@[simp] theorem judgeStep_frame (s : State) :
    (judgeStep s).now = s.now ∧ (judgeStep s).timing = s.timing ∧ (judgeStep s).cport = s.cport ∧ (judgeStep s).dport = s.dport ∧
    (judgeStep s).link = s.link ∧ (judgeStep s).settings = s.settings ∧ (judgeStep s).pages = s.pages ∧ (judgeStep s).cmd = s.cmd ∧
    (judgeStep s).tel = s.tel ∧ (judgeStep s).hand = s.hand ∧ (judgeStep s).mem = s.mem ∧ (judgeStep s).choices = s.choices ∧
    (judgeStep s).pending = s.pending := by
  unfold judgeStep; (try dsimp only); (repeat' split) <;> simp

@[simp] theorem balanceTest_frame (s : State) :
    (balanceTest s).now = s.now ∧ (balanceTest s).timing = s.timing ∧ (balanceTest s).cport = s.cport ∧ (balanceTest s).dport = s.dport ∧
    (balanceTest s).link = s.link ∧ (balanceTest s).settings = s.settings ∧ (balanceTest s).pages = s.pages ∧ (balanceTest s).cmd = s.cmd ∧
    (balanceTest s).tel = s.tel ∧ (balanceTest s).hand = s.hand ∧ (balanceTest s).mem = s.mem ∧ (balanceTest s).choices = s.choices ∧
    (balanceTest s).pending = s.pending := by
  unfold balanceTest; (try dsimp only); (repeat' split) <;> simp

@[simp] theorem guardFails_frame (k : Fin 6) (s : State) :
    (guardFails k s).now = s.now ∧ (guardFails k s).timing = s.timing ∧ (guardFails k s).cport = s.cport ∧ (guardFails k s).dport = s.dport ∧
    (guardFails k s).link = s.link ∧ (guardFails k s).settings = s.settings ∧ (guardFails k s).pages = s.pages ∧ (guardFails k s).cmd = s.cmd ∧
    (guardFails k s).tel = s.tel ∧ (guardFails k s).hand = s.hand ∧ (guardFails k s).mem = s.mem ∧ (guardFails k s).choices = s.choices ∧
    (guardFails k s).pending = s.pending := by
  unfold guardFails; (try dsimp only); (repeat' split) <;> simp

@[simp] theorem guardTest_frame (s : State) :
    (guardTest s).now = s.now ∧ (guardTest s).timing = s.timing ∧ (guardTest s).cport = s.cport ∧ (guardTest s).dport = s.dport ∧
    (guardTest s).link = s.link ∧ (guardTest s).settings = s.settings ∧ (guardTest s).pages = s.pages ∧ (guardTest s).cmd = s.cmd ∧
    (guardTest s).tel = s.tel ∧ (guardTest s).hand = s.hand ∧ (guardTest s).mem = s.mem ∧ (guardTest s).choices = s.choices ∧
    (guardTest s).pending = s.pending := by
  unfold guardTest; (try dsimp only); (repeat' split) <;> simp

@[simp] theorem recomputeClass_frame (s : State) :
    (recomputeClass s).now = s.now ∧ (recomputeClass s).timing = s.timing ∧ (recomputeClass s).cport = s.cport ∧ (recomputeClass s).dport = s.dport ∧
    (recomputeClass s).link = s.link ∧ (recomputeClass s).settings = s.settings ∧ (recomputeClass s).pages = s.pages ∧ (recomputeClass s).cmd = s.cmd ∧
    (recomputeClass s).tel = s.tel ∧ (recomputeClass s).hand = s.hand ∧ (recomputeClass s).mem = s.mem ∧ (recomputeClass s).choices = s.choices ∧
    (recomputeClass s).pending = s.pending := by
  unfold recomputeClass; (try dsimp only); (repeat' split) <;> simp

@[simp] theorem waitTest_frame (s : State) :
    (waitTest s).now = s.now ∧ (waitTest s).timing = s.timing ∧ (waitTest s).cport = s.cport ∧ (waitTest s).dport = s.dport ∧
    (waitTest s).link = s.link ∧ (waitTest s).settings = s.settings ∧ (waitTest s).pages = s.pages ∧ (waitTest s).cmd = s.cmd ∧
    (waitTest s).tel = s.tel ∧ (waitTest s).hand = s.hand ∧ (waitTest s).mem = s.mem ∧ (waitTest s).choices = s.choices ∧
    (waitTest s).pending = s.pending := by
  unfold waitTest; (try dsimp only); (repeat' split) <;> simp

@[simp] theorem governorEstimate_frame (s : State) :
    (governorEstimate s).now = s.now ∧ (governorEstimate s).timing = s.timing ∧ (governorEstimate s).cport = s.cport ∧ (governorEstimate s).dport = s.dport ∧
    (governorEstimate s).link = s.link ∧ (governorEstimate s).settings = s.settings ∧ (governorEstimate s).pages = s.pages ∧ (governorEstimate s).cmd = s.cmd ∧
    (governorEstimate s).tel = s.tel ∧ (governorEstimate s).hand = s.hand ∧ (governorEstimate s).mem = s.mem ∧ (governorEstimate s).choices = s.choices ∧
    (governorEstimate s).pending = s.pending := by
  unfold governorEstimate; (try dsimp only); (repeat' split) <;> simp

@[simp] theorem sensorCheck_frame (s : State) :
    (sensorCheck s).now = s.now ∧ (sensorCheck s).timing = s.timing ∧ (sensorCheck s).cport = s.cport ∧ (sensorCheck s).dport = s.dport ∧
    (sensorCheck s).link = s.link ∧ (sensorCheck s).settings = s.settings ∧ (sensorCheck s).pages = s.pages ∧ (sensorCheck s).cmd = s.cmd ∧
    (sensorCheck s).tel = s.tel ∧ (sensorCheck s).hand = s.hand ∧ (sensorCheck s).mem = s.mem ∧ (sensorCheck s).choices = s.choices ∧
    (sensorCheck s).pending = s.pending := by
  unfold sensorCheck; (try dsimp only); (repeat' split) <;> simp

@[simp] theorem bandPassed_frame (s : State) :
    (bandPassed s).now = s.now ∧ (bandPassed s).timing = s.timing ∧ (bandPassed s).cport = s.cport ∧ (bandPassed s).dport = s.dport ∧
    (bandPassed s).link = s.link ∧ (bandPassed s).settings = s.settings ∧ (bandPassed s).pages = s.pages ∧ (bandPassed s).cmd = s.cmd ∧
    (bandPassed s).tel = s.tel ∧ (bandPassed s).hand = s.hand ∧ (bandPassed s).mem = s.mem ∧ (bandPassed s).choices = s.choices ∧
    (bandPassed s).pending = s.pending := by
  unfold bandPassed; (try dsimp only); (repeat' split) <;> simp

@[simp] theorem governorSpeed_frame (old : Nat) (s : State) :
    (governorSpeed old s).now = s.now ∧ (governorSpeed old s).timing = s.timing ∧ (governorSpeed old s).cport = s.cport ∧ (governorSpeed old s).dport = s.dport ∧
    (governorSpeed old s).link = s.link ∧ (governorSpeed old s).settings = s.settings ∧ (governorSpeed old s).pages = s.pages ∧ (governorSpeed old s).cmd = s.cmd ∧
    (governorSpeed old s).tel = s.tel ∧ (governorSpeed old s).hand = s.hand ∧ (governorSpeed old s).mem = s.mem ∧ (governorSpeed old s).choices = s.choices ∧
    (governorSpeed old s).pending = s.pending := by
  unfold governorSpeed; (try dsimp only); (repeat' split) <;> simp

@[simp] theorem windowedTest_frame (s : State) :
    (windowedTest s).now = s.now ∧ (windowedTest s).timing = s.timing ∧ (windowedTest s).cport = s.cport ∧ (windowedTest s).dport = s.dport ∧
    (windowedTest s).link = s.link ∧ (windowedTest s).settings = s.settings ∧ (windowedTest s).pages = s.pages ∧ (windowedTest s).cmd = s.cmd ∧
    (windowedTest s).tel = s.tel ∧ (windowedTest s).hand = s.hand ∧ (windowedTest s).mem = s.mem ∧ (windowedTest s).choices = s.choices ∧
    (windowedTest s).pending = s.pending := by
  unfold windowedTest; (try dsimp only); (repeat' split) <;> simp

@[simp] theorem arrive_frame (s : State) :
    (arrive s).now = s.now ∧ (arrive s).timing = s.timing ∧ (arrive s).cport = s.cport ∧ (arrive s).dport = s.dport ∧
    (arrive s).link = s.link ∧ (arrive s).settings = s.settings ∧ (arrive s).pages = s.pages ∧ (arrive s).cmd = s.cmd ∧
    (arrive s).tel = s.tel ∧ (arrive s).hand = s.hand ∧ (arrive s).mem = s.mem ∧ (arrive s).choices = s.choices ∧
    (arrive s).pending = s.pending := by
  unfold arrive; (try dsimp only); (repeat' split) <;> simp

@[simp] theorem arrivalTest_frame (s : State) :
    (arrivalTest s).now = s.now ∧ (arrivalTest s).timing = s.timing ∧ (arrivalTest s).cport = s.cport ∧ (arrivalTest s).dport = s.dport ∧
    (arrivalTest s).link = s.link ∧ (arrivalTest s).settings = s.settings ∧ (arrivalTest s).pages = s.pages ∧ (arrivalTest s).cmd = s.cmd ∧
    (arrivalTest s).tel = s.tel ∧ (arrivalTest s).hand = s.hand ∧ (arrivalTest s).mem = s.mem ∧ (arrivalTest s).choices = s.choices ∧
    (arrivalTest s).pending = s.pending := by
  unfold arrivalTest; (try dsimp only); (repeat' split) <;> simp

@[simp] theorem governorBoundary_frame (s : State) :
    (governorBoundary s).now = s.now ∧ (governorBoundary s).timing = s.timing ∧ (governorBoundary s).cport = s.cport ∧ (governorBoundary s).dport = s.dport ∧
    (governorBoundary s).link = s.link ∧ (governorBoundary s).settings = s.settings ∧ (governorBoundary s).pages = s.pages ∧ (governorBoundary s).cmd = s.cmd ∧
    (governorBoundary s).tel = s.tel ∧ (governorBoundary s).hand = s.hand ∧ (governorBoundary s).mem = s.mem ∧ (governorBoundary s).choices = s.choices ∧
    (governorBoundary s).pending = s.pending := by
  unfold governorBoundary; (try dsimp only); (repeat' split) <;> simp

@[simp] theorem enterIdle_frame (s : State) :
    (enterIdle s).now = s.now ∧ (enterIdle s).timing = s.timing ∧ (enterIdle s).cport = s.cport ∧ (enterIdle s).dport = s.dport ∧
    (enterIdle s).link = s.link ∧ (enterIdle s).settings = s.settings ∧ (enterIdle s).pages = s.pages ∧ (enterIdle s).cmd = s.cmd ∧
    (enterIdle s).tel = s.tel ∧ (enterIdle s).hand = s.hand ∧ (enterIdle s).mem = s.mem ∧ (enterIdle s).choices = s.choices ∧
    (enterIdle s).pending = s.pending := by
  unfold enterIdle; (try dsimp only); (repeat' split) <;> simp

@[simp] theorem donePlan_frame (s : State) :
    (donePlan s).now = s.now ∧ (donePlan s).timing = s.timing ∧ (donePlan s).gov = s.gov ∧ (donePlan s).cport = s.cport ∧
    (donePlan s).dport = s.dport ∧ (donePlan s).link = s.link ∧ (donePlan s).settings = s.settings ∧ (donePlan s).pages = s.pages ∧
    (donePlan s).cmd = s.cmd ∧ (donePlan s).tel = s.tel ∧ (donePlan s).hand = s.hand ∧ (donePlan s).mem = s.mem ∧
    (donePlan s).choices = s.choices ∧ (donePlan s).pending = s.pending := by
  unfold donePlan; (try dsimp only); (repeat' split) <;> simp

@[simp] theorem dropSettledClass_frame (s : State) :
    (dropSettledClass s).now = s.now ∧ (dropSettledClass s).timing = s.timing ∧ (dropSettledClass s).cport = s.cport ∧ (dropSettledClass s).dport = s.dport ∧
    (dropSettledClass s).link = s.link ∧ (dropSettledClass s).settings = s.settings ∧ (dropSettledClass s).pages = s.pages ∧ (dropSettledClass s).cmd = s.cmd ∧
    (dropSettledClass s).tel = s.tel ∧ (dropSettledClass s).hand = s.hand ∧ (dropSettledClass s).mem = s.mem ∧ (dropSettledClass s).choices = s.choices ∧
    (dropSettledClass s).pending = s.pending := by
  unfold dropSettledClass; (try dsimp only); (repeat' split) <;> simp

@[simp] theorem restMove_frame (s : State) :
    (restMove s).now = s.now ∧ (restMove s).timing = s.timing ∧ (restMove s).cport = s.cport ∧ (restMove s).dport = s.dport ∧
    (restMove s).link = s.link ∧ (restMove s).settings = s.settings ∧ (restMove s).pages = s.pages ∧ (restMove s).cmd = s.cmd ∧
    (restMove s).tel = s.tel ∧ (restMove s).hand = s.hand ∧ (restMove s).mem = s.mem ∧ (restMove s).choices = s.choices ∧
    (restMove s).pending = s.pending := by
  unfold restMove; (try dsimp only); (repeat' split) <;> simp

@[simp] theorem governorRest_frame (s : State) :
    (governorRest s).now = s.now ∧ (governorRest s).timing = s.timing ∧ (governorRest s).cport = s.cport ∧ (governorRest s).dport = s.dport ∧
    (governorRest s).link = s.link ∧ (governorRest s).settings = s.settings ∧ (governorRest s).pages = s.pages ∧ (governorRest s).cmd = s.cmd ∧
    (governorRest s).tel = s.tel ∧ (governorRest s).hand = s.hand ∧ (governorRest s).mem = s.mem ∧ (governorRest s).pending = s.pending := by
  unfold governorRest; (try dsimp only); (repeat' split) <;> simp

@[simp] theorem referenceTest_frame (s : State) :
    (referenceTest s).now = s.now ∧ (referenceTest s).timing = s.timing ∧ (referenceTest s).cport = s.cport ∧ (referenceTest s).dport = s.dport ∧
    (referenceTest s).link = s.link ∧ (referenceTest s).settings = s.settings ∧ (referenceTest s).pages = s.pages ∧ (referenceTest s).cmd = s.cmd ∧
    (referenceTest s).tel = s.tel ∧ (referenceTest s).hand = s.hand ∧ (referenceTest s).mem = s.mem ∧ (referenceTest s).choices = s.choices ∧
    (referenceTest s).pending = s.pending := by
  unfold referenceTest; (try dsimp only); (repeat' split) <;> simp

@[simp] theorem spinPermitChanged_frame (s : State) :
    (spinPermitChanged s).now = s.now ∧ (spinPermitChanged s).timing = s.timing ∧ (spinPermitChanged s).cport = s.cport ∧ (spinPermitChanged s).dport = s.dport ∧
    (spinPermitChanged s).link = s.link ∧ (spinPermitChanged s).settings = s.settings ∧ (spinPermitChanged s).pages = s.pages ∧ (spinPermitChanged s).cmd = s.cmd ∧
    (spinPermitChanged s).tel = s.tel ∧ (spinPermitChanged s).hand = s.hand ∧ (spinPermitChanged s).mem = s.mem ∧ (spinPermitChanged s).choices = s.choices ∧
    (spinPermitChanged s).pending = s.pending := by
  unfold spinPermitChanged; (try dsimp only); (repeat' split) <;> simp

@[simp] theorem knockRaised_frame (s : State) :
    (knockRaised s).now = s.now ∧ (knockRaised s).timing = s.timing ∧ (knockRaised s).cport = s.cport ∧ (knockRaised s).dport = s.dport ∧
    (knockRaised s).link = s.link ∧ (knockRaised s).settings = s.settings ∧ (knockRaised s).pages = s.pages ∧ (knockRaised s).cmd = s.cmd ∧
    (knockRaised s).tel = s.tel ∧ (knockRaised s).hand = s.hand ∧ (knockRaised s).mem = s.mem ∧ (knockRaised s).choices = s.choices ∧
    (knockRaised s).pending = s.pending := by
  unfold knockRaised; (try dsimp only); (repeat' split) <;> simp

@[simp] theorem adoptGovernor_frame (s : State) :
    (adoptGovernor s).now = s.now ∧ (adoptGovernor s).timing = s.timing ∧ (adoptGovernor s).est = s.est ∧ (adoptGovernor s).runner = s.runner ∧
    (adoptGovernor s).dosing = s.dosing ∧ (adoptGovernor s).lines = s.lines ∧ (adoptGovernor s).cport = s.cport ∧ (adoptGovernor s).dport = s.dport ∧
    (adoptGovernor s).link = s.link ∧ (adoptGovernor s).settings = s.settings ∧ (adoptGovernor s).pages = s.pages ∧ (adoptGovernor s).cmd = s.cmd ∧
    (adoptGovernor s).tel = s.tel ∧ (adoptGovernor s).report = s.report ∧ (adoptGovernor s).hand = s.hand ∧ (adoptGovernor s).mem = s.mem ∧
    (adoptGovernor s).choices = s.choices ∧ (adoptGovernor s).pending = s.pending := by
  unfold adoptGovernor; (try dsimp only); (repeat' split) <;> simp

@[simp] theorem plannerUpdate_frame (s : State) :
    (plannerUpdate s).now = s.now ∧ (plannerUpdate s).timing = s.timing ∧ (plannerUpdate s).cport = s.cport ∧ (plannerUpdate s).dport = s.dport ∧
    (plannerUpdate s).link = s.link ∧ (plannerUpdate s).settings = s.settings ∧ (plannerUpdate s).pages = s.pages ∧ (plannerUpdate s).cmd = s.cmd ∧
    (plannerUpdate s).tel = s.tel ∧ (plannerUpdate s).hand = s.hand ∧ (plannerUpdate s).mem = s.mem ∧ (plannerUpdate s).choices = s.choices ∧
    (plannerUpdate s).pending = s.pending := by
  unfold plannerUpdate; (try dsimp only); (repeat' split) <;> simp

@[simp] theorem handUpdate_frame (s : State) :
    (handUpdate s).now = s.now ∧ (handUpdate s).timing = s.timing ∧ (handUpdate s).cport = s.cport ∧ (handUpdate s).dport = s.dport ∧
    (handUpdate s).link = s.link ∧ (handUpdate s).settings = s.settings ∧ (handUpdate s).pages = s.pages ∧ (handUpdate s).cmd = s.cmd ∧
    (handUpdate s).tel = s.tel ∧ (handUpdate s).hand = s.hand ∧ (handUpdate s).mem = s.mem ∧ (handUpdate s).pending = s.pending := by
  unfold handUpdate; (try dsimp only); (repeat' split) <;> simp

@[simp] theorem deliverTimes_frame (n : Nat) (s : State) :
    (deliverTimes n s).now = s.now ∧ (deliverTimes n s).timing = s.timing ∧ (deliverTimes n s).cport = s.cport ∧ (deliverTimes n s).dport = s.dport ∧ (deliverTimes n s).link = s.link ∧ (deliverTimes n s).settings = s.settings ∧ (deliverTimes n s).pages = s.pages ∧ (deliverTimes n s).cmd = s.cmd ∧ (deliverTimes n s).tel = s.tel ∧ (deliverTimes n s).hand = s.hand ∧ (deliverTimes n s).mem = s.mem ∧ (deliverTimes n s).pending = s.pending := by
  induction n generalizing s with
  | zero => simp [deliverTimes]
  | succ n ih => unfold deliverTimes; split <;> simp [ih]

@[simp] theorem deliver_frame (s : State) :
    (deliver s).now = s.now ∧ (deliver s).timing = s.timing ∧ (deliver s).cport = s.cport ∧ (deliver s).dport = s.dport ∧
    (deliver s).link = s.link ∧ (deliver s).settings = s.settings ∧ (deliver s).pages = s.pages ∧ (deliver s).cmd = s.cmd ∧
    (deliver s).tel = s.tel ∧ (deliver s).hand = s.hand ∧ (deliver s).mem = s.mem ∧ (deliver s).pending = s.pending := by
  unfold deliver; (try dsimp only); (repeat' split) <;> simp

@[simp] theorem excursionFault_frame (before : Nat) (s : State) :
    (excursionFault before s).now = s.now ∧ (excursionFault before s).timing = s.timing ∧ (excursionFault before s).cport = s.cport ∧ (excursionFault before s).dport = s.dport ∧
    (excursionFault before s).link = s.link ∧ (excursionFault before s).settings = s.settings ∧ (excursionFault before s).pages = s.pages ∧ (excursionFault before s).cmd = s.cmd ∧
    (excursionFault before s).tel = s.tel ∧ (excursionFault before s).hand = s.hand ∧ (excursionFault before s).mem = s.mem ∧ (excursionFault before s).choices = s.choices ∧
    (excursionFault before s).pending = s.pending := by
  unfold excursionFault; (try dsimp only); (repeat' split) <;> simp

@[simp] theorem sensorFault_frame (s : State) :
    (sensorFault s).now = s.now ∧ (sensorFault s).timing = s.timing ∧ (sensorFault s).cport = s.cport ∧ (sensorFault s).dport = s.dport ∧
    (sensorFault s).link = s.link ∧ (sensorFault s).settings = s.settings ∧ (sensorFault s).pages = s.pages ∧ (sensorFault s).cmd = s.cmd ∧
    (sensorFault s).tel = s.tel ∧ (sensorFault s).hand = s.hand ∧ (sensorFault s).mem = s.mem ∧ (sensorFault s).choices = s.choices ∧
    (sensorFault s).pending = s.pending := by
  unfold sensorFault; (try dsimp only); (repeat' split) <;> simp

@[simp] theorem recover_frame (r : BoundaryReport) (s : State) :
    (recover r s).now = s.now ∧ (recover r s).timing = s.timing ∧ (recover r s).cport = s.cport ∧ (recover r s).dport = s.dport ∧
    (recover r s).link = s.link ∧ (recover r s).settings = s.settings ∧ (recover r s).pages = s.pages ∧ (recover r s).cmd = s.cmd ∧
    (recover r s).tel = s.tel ∧ (recover r s).hand = s.hand ∧ (recover r s).mem = s.mem ∧ (recover r s).choices = s.choices ∧
    (recover r s).pending = s.pending := by
  unfold recover; (try dsimp only); (repeat' split) <;> simp

@[simp] theorem addRecord_frame (r : BoundaryReport) (s : State) :
    (addRecord r s).now = s.now ∧ (addRecord r s).timing = s.timing ∧ (addRecord r s).cport = s.cport ∧ (addRecord r s).dport = s.dport ∧
    (addRecord r s).link = s.link ∧ (addRecord r s).settings = s.settings ∧ (addRecord r s).pages = s.pages ∧ (addRecord r s).cmd = s.cmd ∧
    (addRecord r s).tel = s.tel ∧ (addRecord r s).hand = s.hand ∧ (addRecord r s).mem = s.mem ∧ (addRecord r s).pending = s.pending := by
  unfold addRecord; (try dsimp only); (repeat' split) <;> simp

@[simp] theorem estimatorReport_frame (r : BoundaryReport) (s : State) :
    (estimatorReport r s).now = s.now ∧ (estimatorReport r s).timing = s.timing ∧ (estimatorReport r s).cport = s.cport ∧ (estimatorReport r s).dport = s.dport ∧
    (estimatorReport r s).link = s.link ∧ (estimatorReport r s).settings = s.settings ∧ (estimatorReport r s).pages = s.pages ∧ (estimatorReport r s).cmd = s.cmd ∧
    (estimatorReport r s).tel = s.tel ∧ (estimatorReport r s).hand = s.hand ∧ (estimatorReport r s).mem = s.mem ∧ (estimatorReport r s).pending = s.pending := by
  unfold estimatorReport; (try dsimp only); (repeat' split) <;> simp

@[simp] theorem setSource_frame (s : State) (src : Source) (r : SourceRec) :
    (setSource s src r).now = s.now ∧ (setSource s src r).est = s.est ∧ (setSource s src r).gov = s.gov ∧ (setSource s src r).runner = s.runner ∧
    (setSource s src r).dosing = s.dosing ∧ (setSource s src r).lines = s.lines ∧ (setSource s src r).cport = s.cport ∧ (setSource s src r).dport = s.dport ∧
    (setSource s src r).link = s.link ∧ (setSource s src r).settings = s.settings ∧ (setSource s src r).pages = s.pages ∧ (setSource s src r).cmd = s.cmd ∧
    (setSource s src r).tel = s.tel ∧ (setSource s src r).report = s.report ∧ (setSource s src r).hand = s.hand ∧ (setSource s src r).mem = s.mem ∧
    (setSource s src r).choices = s.choices ∧ (setSource s src r).pending = s.pending := by
  unfold setSource; (try dsimp only); (repeat' split) <;> simp

@[simp] theorem takePulse_frame (src : Source) (s : State) :
    (takePulse src s).now = s.now ∧ (takePulse src s).est = s.est ∧ (takePulse src s).gov = s.gov ∧ (takePulse src s).runner = s.runner ∧
    (takePulse src s).dosing = s.dosing ∧ (takePulse src s).lines = s.lines ∧ (takePulse src s).cport = s.cport ∧ (takePulse src s).dport = s.dport ∧
    (takePulse src s).link = s.link ∧ (takePulse src s).settings = s.settings ∧ (takePulse src s).pages = s.pages ∧ (takePulse src s).cmd = s.cmd ∧
    (takePulse src s).tel = s.tel ∧ (takePulse src s).report = s.report ∧ (takePulse src s).hand = s.hand ∧ (takePulse src s).mem = s.mem ∧
    (takePulse src s).choices = s.choices ∧ (takePulse src s).pending = s.pending := by
  unfold takePulse; (try dsimp only); (repeat' split) <;> simp

@[simp] theorem anchorCheck_frame (s : State) :
    (anchorCheck s).now = s.now ∧ (anchorCheck s).timing = s.timing ∧ (anchorCheck s).gov = s.gov ∧ (anchorCheck s).cport = s.cport ∧
    (anchorCheck s).dport = s.dport ∧ (anchorCheck s).link = s.link ∧ (anchorCheck s).settings = s.settings ∧ (anchorCheck s).pages = s.pages ∧
    (anchorCheck s).cmd = s.cmd ∧ (anchorCheck s).tel = s.tel ∧ (anchorCheck s).hand = s.hand ∧ (anchorCheck s).mem = s.mem ∧
    (anchorCheck s).choices = s.choices ∧ (anchorCheck s).pending = s.pending := by
  unfold anchorCheck; (try dsimp only); (repeat' split) <;> simp

@[simp] theorem gapIf_frame (b : Bool) (s : State) :
    (gapIf b s).now = s.now ∧ (gapIf b s).timing = s.timing ∧ (gapIf b s).cport = s.cport ∧ (gapIf b s).dport = s.dport ∧
    (gapIf b s).link = s.link ∧ (gapIf b s).settings = s.settings ∧ (gapIf b s).pages = s.pages ∧ (gapIf b s).cmd = s.cmd ∧
    (gapIf b s).tel = s.tel ∧ (gapIf b s).hand = s.hand ∧ (gapIf b s).mem = s.mem ∧ (gapIf b s).pending = s.pending := by
  unfold gapIf; (try dsimp only); (repeat' split) <;> simp

@[simp] theorem reselect_frame (old s : State) :
    (reselect old s).now = s.now ∧ (reselect old s).cport = s.cport ∧ (reselect old s).dport = s.dport ∧ (reselect old s).link = s.link ∧
    (reselect old s).settings = s.settings ∧ (reselect old s).pages = s.pages ∧ (reselect old s).cmd = s.cmd ∧ (reselect old s).tel = s.tel ∧
    (reselect old s).hand = s.hand ∧ (reselect old s).mem = s.mem ∧ (reselect old s).pending = s.pending := by
  unfold reselect; (try dsimp only); (repeat' split) <;> simp

@[simp] theorem measure_frame (period : Nat) (s : State) :
    (measure period s).now = s.now ∧ (measure period s).est = s.est ∧ (measure period s).gov = s.gov ∧ (measure period s).runner = s.runner ∧
    (measure period s).dosing = s.dosing ∧ (measure period s).lines = s.lines ∧ (measure period s).cport = s.cport ∧ (measure period s).dport = s.dport ∧
    (measure period s).link = s.link ∧ (measure period s).settings = s.settings ∧ (measure period s).pages = s.pages ∧ (measure period s).cmd = s.cmd ∧
    (measure period s).tel = s.tel ∧ (measure period s).report = s.report ∧ (measure period s).hand = s.hand ∧ (measure period s).mem = s.mem ∧
    (measure period s).pending = s.pending := by
  unfold measure; (try dsimp only); (repeat' split) <;> simp

@[simp] theorem handSpeed_frame (old s : State) :
    (handSpeed old s).now = s.now ∧ (handSpeed old s).timing = s.timing ∧ (handSpeed old s).cport = s.cport ∧ (handSpeed old s).dport = s.dport ∧
    (handSpeed old s).link = s.link ∧ (handSpeed old s).settings = s.settings ∧ (handSpeed old s).pages = s.pages ∧ (handSpeed old s).cmd = s.cmd ∧
    (handSpeed old s).tel = s.tel ∧ (handSpeed old s).hand = s.hand ∧ (handSpeed old s).mem = s.mem ∧ (handSpeed old s).pending = s.pending := by
  unfold handSpeed; (try dsimp only); (repeat' split) <;> simp

@[simp] theorem samplePointNow_frame (s : State) :
    (samplePointNow s).now = s.now ∧ (samplePointNow s).gov = s.gov ∧ (samplePointNow s).runner = s.runner ∧ (samplePointNow s).dosing = s.dosing ∧
    (samplePointNow s).lines = s.lines ∧ (samplePointNow s).cport = s.cport ∧ (samplePointNow s).dport = s.dport ∧ (samplePointNow s).link = s.link ∧
    (samplePointNow s).settings = s.settings ∧ (samplePointNow s).pages = s.pages ∧ (samplePointNow s).cmd = s.cmd ∧ (samplePointNow s).tel = s.tel ∧
    (samplePointNow s).report = s.report ∧ (samplePointNow s).hand = s.hand ∧ (samplePointNow s).mem = s.mem ∧ (samplePointNow s).choices = s.choices ∧
    (samplePointNow s).pending = s.pending := by
  unfold samplePointNow; (try dsimp only); (repeat' split) <;> simp

@[simp] theorem dueSamples_frame (n : Nat) (s : State) :
    (dueSamples n s).now = s.now ∧ (dueSamples n s).gov = s.gov ∧ (dueSamples n s).runner = s.runner ∧ (dueSamples n s).dosing = s.dosing ∧ (dueSamples n s).lines = s.lines ∧ (dueSamples n s).cport = s.cport ∧ (dueSamples n s).dport = s.dport ∧ (dueSamples n s).link = s.link ∧ (dueSamples n s).settings = s.settings ∧ (dueSamples n s).pages = s.pages ∧ (dueSamples n s).cmd = s.cmd ∧ (dueSamples n s).tel = s.tel ∧ (dueSamples n s).report = s.report ∧ (dueSamples n s).hand = s.hand ∧ (dueSamples n s).mem = s.mem ∧ (dueSamples n s).choices = s.choices ∧ (dueSamples n s).pending = s.pending := by
  induction n generalizing s with
  | zero => simp [dueSamples]
  | succ n ih => unfold dueSamples; split <;> simp [ih]

@[simp] theorem beginRev_frame (s : State) :
    (beginRev s).now = s.now ∧ (beginRev s).gov = s.gov ∧ (beginRev s).runner = s.runner ∧ (beginRev s).dosing = s.dosing ∧
    (beginRev s).lines = s.lines ∧ (beginRev s).cport = s.cport ∧ (beginRev s).dport = s.dport ∧ (beginRev s).link = s.link ∧
    (beginRev s).settings = s.settings ∧ (beginRev s).pages = s.pages ∧ (beginRev s).cmd = s.cmd ∧ (beginRev s).tel = s.tel ∧
    (beginRev s).report = s.report ∧ (beginRev s).hand = s.hand ∧ (beginRev s).mem = s.mem ∧ (beginRev s).choices = s.choices ∧
    (beginRev s).pending = s.pending := by
  unfold beginRev; (try dsimp only); (repeat' split) <;> simp

@[simp] theorem openingBoundary_frame (period : Nat) (s : State) :
    (openingBoundary period s).now = s.now ∧ (openingBoundary period s).cport = s.cport ∧ (openingBoundary period s).dport = s.dport ∧ (openingBoundary period s).link = s.link ∧
    (openingBoundary period s).settings = s.settings ∧ (openingBoundary period s).pages = s.pages ∧ (openingBoundary period s).cmd = s.cmd ∧ (openingBoundary period s).tel = s.tel ∧
    (openingBoundary period s).hand = s.hand ∧ (openingBoundary period s).mem = s.mem ∧ (openingBoundary period s).pending = s.pending := by
  unfold openingBoundary; (try dsimp only); (repeat' split) <;> simp

@[simp] theorem switchPreferred_frame (s : State) :
    (switchPreferred s).now = s.now ∧ (switchPreferred s).cport = s.cport ∧ (switchPreferred s).dport = s.dport ∧ (switchPreferred s).link = s.link ∧
    (switchPreferred s).settings = s.settings ∧ (switchPreferred s).pages = s.pages ∧ (switchPreferred s).cmd = s.cmd ∧ (switchPreferred s).tel = s.tel ∧
    (switchPreferred s).hand = s.hand ∧ (switchPreferred s).mem = s.mem ∧ (switchPreferred s).pending = s.pending := by
  unfold switchPreferred; (try dsimp only); (repeat' split) <;> simp

@[simp] theorem revolutionBoundary_frame (src : Source) (r : Revolution) (s : State) :
    (revolutionBoundary src r s).now = s.now ∧ (revolutionBoundary src r s).cport = s.cport ∧ (revolutionBoundary src r s).dport = s.dport ∧ (revolutionBoundary src r s).link = s.link ∧
    (revolutionBoundary src r s).settings = s.settings ∧ (revolutionBoundary src r s).pages = s.pages ∧ (revolutionBoundary src r s).cmd = s.cmd ∧ (revolutionBoundary src r s).tel = s.tel ∧
    (revolutionBoundary src r s).hand = s.hand ∧ (revolutionBoundary src r s).mem = s.mem ∧ (revolutionBoundary src r s).pending = s.pending := by
  unfold revolutionBoundary; (try dsimp only); (repeat' split) <;> simp

@[simp] theorem boundary_frame (src : Source) (period : Nat) (s : State) :
    (boundary src period s).now = s.now ∧ (boundary src period s).cport = s.cport ∧ (boundary src period s).dport = s.dport ∧ (boundary src period s).link = s.link ∧
    (boundary src period s).settings = s.settings ∧ (boundary src period s).pages = s.pages ∧ (boundary src period s).cmd = s.cmd ∧ (boundary src period s).tel = s.tel ∧
    (boundary src period s).hand = s.hand ∧ (boundary src period s).mem = s.mem ∧ (boundary src period s).pending = s.pending := by
  unfold boundary; (try dsimp only); (repeat' split) <;> simp

@[simp] theorem align_frame (s : State) :
    (align s).now = s.now ∧ (align s).est = s.est ∧ (align s).gov = s.gov ∧ (align s).runner = s.runner ∧
    (align s).dosing = s.dosing ∧ (align s).lines = s.lines ∧ (align s).cport = s.cport ∧ (align s).dport = s.dport ∧
    (align s).link = s.link ∧ (align s).settings = s.settings ∧ (align s).pages = s.pages ∧ (align s).cmd = s.cmd ∧
    (align s).tel = s.tel ∧ (align s).report = s.report ∧ (align s).hand = s.hand ∧ (align s).mem = s.mem ∧
    (align s).choices = s.choices ∧ (align s).pending = s.pending := by
  unfold align; (try dsimp only); (repeat' split) <;> simp

@[simp] theorem discardRev_frame (moved : Bool) (s : State) :
    (discardRev moved s).now = s.now ∧ (discardRev moved s).cport = s.cport ∧ (discardRev moved s).dport = s.dport ∧ (discardRev moved s).link = s.link ∧
    (discardRev moved s).settings = s.settings ∧ (discardRev moved s).pages = s.pages ∧ (discardRev moved s).cmd = s.cmd ∧ (discardRev moved s).tel = s.tel ∧
    (discardRev moved s).hand = s.hand ∧ (discardRev moved s).mem = s.mem ∧ (discardRev moved s).pending = s.pending := by
  unfold discardRev; (try dsimp only); (repeat' split) <;> simp

@[simp] theorem indexAccepted_frame (s : State) :
    (indexAccepted s).now = s.now ∧ (indexAccepted s).cport = s.cport ∧ (indexAccepted s).dport = s.dport ∧ (indexAccepted s).link = s.link ∧
    (indexAccepted s).settings = s.settings ∧ (indexAccepted s).pages = s.pages ∧ (indexAccepted s).cmd = s.cmd ∧ (indexAccepted s).tel = s.tel ∧
    (indexAccepted s).hand = s.hand ∧ (indexAccepted s).mem = s.mem ∧ (indexAccepted s).pending = s.pending := by
  unfold indexAccepted; (try dsimp only); (repeat' split) <;> simp

@[simp] theorem commAdvance_frame (old s : State) :
    (commAdvance old s).now = s.now ∧ (commAdvance old s).est = s.est ∧ (commAdvance old s).gov = s.gov ∧ (commAdvance old s).runner = s.runner ∧
    (commAdvance old s).dosing = s.dosing ∧ (commAdvance old s).lines = s.lines ∧ (commAdvance old s).cport = s.cport ∧ (commAdvance old s).dport = s.dport ∧
    (commAdvance old s).link = s.link ∧ (commAdvance old s).settings = s.settings ∧ (commAdvance old s).pages = s.pages ∧ (commAdvance old s).cmd = s.cmd ∧
    (commAdvance old s).tel = s.tel ∧ (commAdvance old s).report = s.report ∧ (commAdvance old s).hand = s.hand ∧ (commAdvance old s).mem = s.mem ∧
    (commAdvance old s).choices = s.choices ∧ (commAdvance old s).pending = s.pending := by
  unfold commAdvance; (try dsimp only); (repeat' split) <;> simp

@[simp] theorem commProgress_frame (s : State) :
    (commProgress s).now = s.now ∧ (commProgress s).gov = s.gov ∧ (commProgress s).runner = s.runner ∧ (commProgress s).dosing = s.dosing ∧
    (commProgress s).lines = s.lines ∧ (commProgress s).cport = s.cport ∧ (commProgress s).dport = s.dport ∧ (commProgress s).link = s.link ∧
    (commProgress s).settings = s.settings ∧ (commProgress s).pages = s.pages ∧ (commProgress s).cmd = s.cmd ∧ (commProgress s).tel = s.tel ∧
    (commProgress s).report = s.report ∧ (commProgress s).hand = s.hand ∧ (commProgress s).mem = s.mem ∧ (commProgress s).choices = s.choices ∧
    (commProgress s).pending = s.pending := by
  unfold commProgress; (try dsimp only); (repeat' split) <;> simp

@[simp] theorem commAccepted_frame (s : State) :
    (commAccepted s).now = s.now ∧ (commAccepted s).cport = s.cport ∧ (commAccepted s).dport = s.dport ∧ (commAccepted s).link = s.link ∧
    (commAccepted s).settings = s.settings ∧ (commAccepted s).pages = s.pages ∧ (commAccepted s).cmd = s.cmd ∧ (commAccepted s).tel = s.tel ∧
    (commAccepted s).hand = s.hand ∧ (commAccepted s).mem = s.mem ∧ (commAccepted s).pending = s.pending := by
  unfold commAccepted; (try dsimp only); (repeat' split) <;> simp

@[simp] theorem loseSource_frame (src : Source) (s : State) :
    (loseSource src s).now = s.now ∧ (loseSource src s).cport = s.cport ∧ (loseSource src s).dport = s.dport ∧ (loseSource src s).link = s.link ∧
    (loseSource src s).settings = s.settings ∧ (loseSource src s).pages = s.pages ∧ (loseSource src s).cmd = s.cmd ∧ (loseSource src s).tel = s.tel ∧
    (loseSource src s).hand = s.hand ∧ (loseSource src s).mem = s.mem ∧ (loseSource src s).pending = s.pending := by
  unfold loseSource; (try dsimp only); (repeat' split) <;> simp

@[simp] theorem foundAtRest_frame (s : State) :
    (foundAtRest s).now = s.now ∧ (foundAtRest s).cport = s.cport ∧ (foundAtRest s).dport = s.dport ∧ (foundAtRest s).link = s.link ∧
    (foundAtRest s).settings = s.settings ∧ (foundAtRest s).pages = s.pages ∧ (foundAtRest s).cmd = s.cmd ∧ (foundAtRest s).tel = s.tel ∧
    (foundAtRest s).hand = s.hand ∧ (foundAtRest s).mem = s.mem ∧ (foundAtRest s).pending = s.pending := by
  unfold foundAtRest; (try dsimp only); (repeat' split) <;> simp

@[simp] theorem adoptTiming_frame (old : ReferenceSettings) (s : State) :
    (adoptTiming old s).now = s.now ∧ (adoptTiming old s).cport = s.cport ∧ (adoptTiming old s).dport = s.dport ∧ (adoptTiming old s).link = s.link ∧
    (adoptTiming old s).settings = s.settings ∧ (adoptTiming old s).pages = s.pages ∧ (adoptTiming old s).cmd = s.cmd ∧ (adoptTiming old s).tel = s.tel ∧
    (adoptTiming old s).hand = s.hand ∧ (adoptTiming old s).mem = s.mem ∧ (adoptTiming old s).pending = s.pending := by
  unfold adoptTiming; (try dsimp only); (repeat' split) <;> simp

@[simp] theorem openTiming_frame (s : State) :
    (openTiming s).now = s.now ∧ (openTiming s).est = s.est ∧ (openTiming s).gov = s.gov ∧ (openTiming s).runner = s.runner ∧
    (openTiming s).dosing = s.dosing ∧ (openTiming s).lines = s.lines ∧ (openTiming s).cport = s.cport ∧ (openTiming s).dport = s.dport ∧
    (openTiming s).link = s.link ∧ (openTiming s).settings = s.settings ∧ (openTiming s).pages = s.pages ∧ (openTiming s).cmd = s.cmd ∧
    (openTiming s).tel = s.tel ∧ (openTiming s).report = s.report ∧ (openTiming s).hand = s.hand ∧ (openTiming s).mem = s.mem ∧
    (openTiming s).choices = s.choices ∧ (openTiming s).pending = s.pending := by
  unfold openTiming; (try dsimp only); (repeat' split) <;> simp

@[simp] theorem governorFlags_frame (old : Lines) (s : State) :
    (governorFlags old s).now = s.now ∧ (governorFlags old s).timing = s.timing ∧ (governorFlags old s).cport = s.cport ∧ (governorFlags old s).dport = s.dport ∧
    (governorFlags old s).link = s.link ∧ (governorFlags old s).settings = s.settings ∧ (governorFlags old s).pages = s.pages ∧ (governorFlags old s).cmd = s.cmd ∧
    (governorFlags old s).tel = s.tel ∧ (governorFlags old s).hand = s.hand ∧ (governorFlags old s).mem = s.mem ∧ (governorFlags old s).pending = s.pending := by
  unfold governorFlags; (try dsimp only); (repeat' split) <;> simp

@[simp] theorem evaluateTests_frame (s : State) :
    (evaluateTests s).now = s.now ∧ (evaluateTests s).timing = s.timing ∧ (evaluateTests s).cport = s.cport ∧ (evaluateTests s).dport = s.dport ∧
    (evaluateTests s).link = s.link ∧ (evaluateTests s).settings = s.settings ∧ (evaluateTests s).pages = s.pages ∧ (evaluateTests s).cmd = s.cmd ∧
    (evaluateTests s).tel = s.tel ∧ (evaluateTests s).hand = s.hand ∧ (evaluateTests s).mem = s.mem ∧ (evaluateTests s).pending = s.pending := by
  unfold evaluateTests; (try dsimp only); (repeat' split) <;> simp

@[simp] theorem acceptChange_frame (n : Fin 8) (s : State) :
    (acceptChange n s).now = s.now ∧ (acceptChange n s).timing = s.timing ∧ (acceptChange n s).cport = s.cport ∧ (acceptChange n s).dport = s.dport ∧
    (acceptChange n s).link = s.link ∧ (acceptChange n s).settings = s.settings ∧ (acceptChange n s).pages = s.pages ∧ (acceptChange n s).cmd = s.cmd ∧
    (acceptChange n s).tel = s.tel ∧ (acceptChange n s).hand = s.hand ∧ (acceptChange n s).mem = s.mem ∧ (acceptChange n s).pending = s.pending := by
  unfold acceptChange; (try dsimp only); (repeat' split) <;> simp

@[simp] theorem adoptLines_frame (s : State) :
    (adoptLines s).now = s.now ∧ (adoptLines s).timing = s.timing ∧ (adoptLines s).cport = s.cport ∧ (adoptLines s).dport = s.dport ∧
    (adoptLines s).link = s.link ∧ (adoptLines s).settings = s.settings ∧ (adoptLines s).pages = s.pages ∧ (adoptLines s).cmd = s.cmd ∧
    (adoptLines s).tel = s.tel ∧ (adoptLines s).hand = s.hand ∧ (adoptLines s).mem = s.mem ∧ (adoptLines s).pending = s.pending := by
  unfold adoptLines; (try dsimp only); (repeat' split) <;> simp

@[simp] theorem setPort_frame (s : State) (p : Port) (v : PortState) :
    (setPort s p v).now = s.now ∧ (setPort s p v).timing = s.timing ∧ (setPort s p v).est = s.est ∧ (setPort s p v).gov = s.gov ∧
    (setPort s p v).runner = s.runner ∧ (setPort s p v).dosing = s.dosing ∧ (setPort s p v).lines = s.lines ∧ (setPort s p v).link = s.link ∧
    (setPort s p v).settings = s.settings ∧ (setPort s p v).pages = s.pages ∧ (setPort s p v).cmd = s.cmd ∧ (setPort s p v).tel = s.tel ∧
    (setPort s p v).report = s.report ∧ (setPort s p v).hand = s.hand ∧ (setPort s p v).mem = s.mem ∧ (setPort s p v).choices = s.choices ∧
    (setPort s p v).pending = s.pending := by
  unfold setPort; (try dsimp only); (repeat' split) <;> simp

@[simp] theorem accessFault_frame (p : Port) (k : AccessKind) (a : Nat) (s : State) :
    (accessFault p k a s).now = s.now ∧ (accessFault p k a s).timing = s.timing ∧ (accessFault p k a s).est = s.est ∧ (accessFault p k a s).gov = s.gov ∧
    (accessFault p k a s).runner = s.runner ∧ (accessFault p k a s).dosing = s.dosing ∧ (accessFault p k a s).lines = s.lines ∧ (accessFault p k a s).link = s.link ∧
    (accessFault p k a s).settings = s.settings ∧ (accessFault p k a s).pages = s.pages ∧ (accessFault p k a s).cmd = s.cmd ∧ (accessFault p k a s).tel = s.tel ∧
    (accessFault p k a s).hand = s.hand ∧ (accessFault p k a s).mem = s.mem ∧ (accessFault p k a s).choices = s.choices ∧ (accessFault p k a s).pending = s.pending := by
  unfold accessFault; (try dsimp only); (repeat' split) <;> simp

@[simp] theorem snoop_frame (p : Port) (point : SnoopPoint) (v : Byte) (s : State) :
    (snoop p point v s).now = s.now ∧ (snoop p point v s).timing = s.timing ∧ (snoop p point v s).est = s.est ∧ (snoop p point v s).gov = s.gov ∧
    (snoop p point v s).runner = s.runner ∧ (snoop p point v s).dosing = s.dosing ∧ (snoop p point v s).lines = s.lines ∧ (snoop p point v s).link = s.link ∧
    (snoop p point v s).settings = s.settings ∧ (snoop p point v s).report = s.report ∧ (snoop p point v s).hand = s.hand ∧ (snoop p point v s).mem = s.mem ∧
    (snoop p point v s).choices = s.choices ∧ (snoop p point v s).pending = s.pending := by
  unfold snoop; (try dsimp only); (repeat' split) <;> simp

@[simp] theorem snoopAt_frame (p : Port) (point : Option SnoopPoint) (v : Byte) (s : State) :
    (snoopAt p point v s).now = s.now ∧ (snoopAt p point v s).timing = s.timing ∧ (snoopAt p point v s).est = s.est ∧ (snoopAt p point v s).gov = s.gov ∧
    (snoopAt p point v s).runner = s.runner ∧ (snoopAt p point v s).dosing = s.dosing ∧ (snoopAt p point v s).lines = s.lines ∧ (snoopAt p point v s).link = s.link ∧
    (snoopAt p point v s).settings = s.settings ∧ (snoopAt p point v s).report = s.report ∧ (snoopAt p point v s).hand = s.hand ∧ (snoopAt p point v s).mem = s.mem ∧
    (snoopAt p point v s).choices = s.choices ∧ (snoopAt p point v s).pending = s.pending := by
  unfold snoopAt; (try dsimp only); (repeat' split) <;> simp

@[simp] theorem answer_frame (p : Port) (r : Reply) (s : State) :
    (answer p r s).now = s.now ∧ (answer p r s).timing = s.timing ∧ (answer p r s).est = s.est ∧ (answer p r s).gov = s.gov ∧
    (answer p r s).runner = s.runner ∧ (answer p r s).dosing = s.dosing ∧ (answer p r s).lines = s.lines ∧ (answer p r s).link = s.link ∧
    (answer p r s).settings = s.settings ∧ (answer p r s).pages = s.pages ∧ (answer p r s).cmd = s.cmd ∧ (answer p r s).tel = s.tel ∧
    (answer p r s).report = s.report ∧ (answer p r s).hand = s.hand ∧ (answer p r s).mem = s.mem ∧ (answer p r s).choices = s.choices ∧
    (answer p r s).pending = s.pending := by
  unfold answer; (try dsimp only); (repeat' split) <;> simp

@[simp] theorem setTransfer_frame (s : State) (t : Option Transfer) :
    (setTransfer s t).now = s.now ∧ (setTransfer s t).timing = s.timing ∧ (setTransfer s t).est = s.est ∧ (setTransfer s t).gov = s.gov ∧
    (setTransfer s t).runner = s.runner ∧ (setTransfer s t).dosing = s.dosing ∧ (setTransfer s t).lines = s.lines ∧ (setTransfer s t).cport = s.cport ∧
    (setTransfer s t).dport = s.dport ∧ (setTransfer s t).settings = s.settings ∧ (setTransfer s t).pages = s.pages ∧ (setTransfer s t).cmd = s.cmd ∧
    (setTransfer s t).tel = s.tel ∧ (setTransfer s t).report = s.report ∧ (setTransfer s t).hand = s.hand ∧ (setTransfer s t).mem = s.mem ∧
    (setTransfer s t).choices = s.choices ∧ (setTransfer s t).pending = s.pending := by
  unfold setTransfer; (try dsimp only); (repeat' split) <;> simp

@[simp] theorem closeOwn_frame (p : Port) (s : State) :
    (closeOwn p s).now = s.now ∧ (closeOwn p s).timing = s.timing ∧ (closeOwn p s).est = s.est ∧ (closeOwn p s).gov = s.gov ∧
    (closeOwn p s).runner = s.runner ∧ (closeOwn p s).dosing = s.dosing ∧ (closeOwn p s).lines = s.lines ∧ (closeOwn p s).cport = s.cport ∧
    (closeOwn p s).dport = s.dport ∧ (closeOwn p s).settings = s.settings ∧ (closeOwn p s).pages = s.pages ∧ (closeOwn p s).cmd = s.cmd ∧
    (closeOwn p s).tel = s.tel ∧ (closeOwn p s).report = s.report ∧ (closeOwn p s).hand = s.hand ∧ (closeOwn p s).mem = s.mem ∧
    (closeOwn p s).choices = s.choices ∧ (closeOwn p s).pending = s.pending := by
  unfold closeOwn; (try dsimp only); (repeat' split) <;> simp

@[simp] theorem clearAge_frame (r : Requester) (s : State) :
    (clearAge r s).now = s.now ∧ (clearAge r s).timing = s.timing ∧ (clearAge r s).est = s.est ∧ (clearAge r s).gov = s.gov ∧
    (clearAge r s).runner = s.runner ∧ (clearAge r s).dosing = s.dosing ∧ (clearAge r s).lines = s.lines ∧ (clearAge r s).cport = s.cport ∧
    (clearAge r s).dport = s.dport ∧ (clearAge r s).settings = s.settings ∧ (clearAge r s).pages = s.pages ∧ (clearAge r s).cmd = s.cmd ∧
    (clearAge r s).tel = s.tel ∧ (clearAge r s).report = s.report ∧ (clearAge r s).hand = s.hand ∧ (clearAge r s).mem = s.mem ∧
    (clearAge r s).choices = s.choices ∧ (clearAge r s).pending = s.pending := by
  unfold clearAge; (try dsimp only); (repeat' split) <;> simp

@[simp] theorem dropStretch_frame (p : Port) (s : State) :
    (dropStretch p s).now = s.now ∧ (dropStretch p s).timing = s.timing ∧ (dropStretch p s).est = s.est ∧ (dropStretch p s).gov = s.gov ∧
    (dropStretch p s).runner = s.runner ∧ (dropStretch p s).dosing = s.dosing ∧ (dropStretch p s).lines = s.lines ∧ (dropStretch p s).settings = s.settings ∧
    (dropStretch p s).pages = s.pages ∧ (dropStretch p s).cmd = s.cmd ∧ (dropStretch p s).tel = s.tel ∧ (dropStretch p s).report = s.report ∧
    (dropStretch p s).hand = s.hand ∧ (dropStretch p s).mem = s.mem ∧ (dropStretch p s).choices = s.choices ∧ (dropStretch p s).pending = s.pending := by
  unfold dropStretch; (try dsimp only); (repeat' split) <;> simp

@[simp] theorem stretchByte_frame (p : Port) (w : Waiting) (a start : Nat) (s : State) :
    (stretchByte p w a start s).now = s.now ∧ (stretchByte p w a start s).timing = s.timing ∧ (stretchByte p w a start s).est = s.est ∧ (stretchByte p w a start s).gov = s.gov ∧
    (stretchByte p w a start s).runner = s.runner ∧ (stretchByte p w a start s).dosing = s.dosing ∧ (stretchByte p w a start s).lines = s.lines ∧ (stretchByte p w a start s).link = s.link ∧
    (stretchByte p w a start s).settings = s.settings ∧ (stretchByte p w a start s).pages = s.pages ∧ (stretchByte p w a start s).cmd = s.cmd ∧ (stretchByte p w a start s).tel = s.tel ∧
    (stretchByte p w a start s).report = s.report ∧ (stretchByte p w a start s).hand = s.hand ∧ (stretchByte p w a start s).mem = s.mem ∧ (stretchByte p w a start s).choices = s.choices ∧
    (stretchByte p w a start s).pending = s.pending := by
  unfold stretchByte; (try dsimp only); (repeat' split) <;> simp

@[simp] theorem holdWrite_frame (p : Port) (target : Nat) (v : Byte) (a start : Nat) (s : State) :
    (holdWrite p target v a start s).now = s.now ∧ (holdWrite p target v a start s).timing = s.timing ∧ (holdWrite p target v a start s).est = s.est ∧ (holdWrite p target v a start s).gov = s.gov ∧
    (holdWrite p target v a start s).runner = s.runner ∧ (holdWrite p target v a start s).dosing = s.dosing ∧ (holdWrite p target v a start s).lines = s.lines ∧ (holdWrite p target v a start s).settings = s.settings ∧
    (holdWrite p target v a start s).pages = s.pages ∧ (holdWrite p target v a start s).cmd = s.cmd ∧ (holdWrite p target v a start s).tel = s.tel ∧ (holdWrite p target v a start s).report = s.report ∧
    (holdWrite p target v a start s).hand = s.hand ∧ (holdWrite p target v a start s).mem = s.mem ∧ (holdWrite p target v a start s).choices = s.choices ∧ (holdWrite p target v a start s).pending = s.pending := by
  unfold holdWrite; (try dsimp only); (repeat' split) <;> simp

@[simp] theorem askRead_frame (p : Port) (target a start : Nat) (s : State) :
    (askRead p target a start s).now = s.now ∧ (askRead p target a start s).timing = s.timing ∧ (askRead p target a start s).est = s.est ∧ (askRead p target a start s).gov = s.gov ∧
    (askRead p target a start s).runner = s.runner ∧ (askRead p target a start s).dosing = s.dosing ∧ (askRead p target a start s).lines = s.lines ∧ (askRead p target a start s).settings = s.settings ∧
    (askRead p target a start s).pages = s.pages ∧ (askRead p target a start s).cmd = s.cmd ∧ (askRead p target a start s).tel = s.tel ∧ (askRead p target a start s).report = s.report ∧
    (askRead p target a start s).hand = s.hand ∧ (askRead p target a start s).mem = s.mem ∧ (askRead p target a start s).choices = s.choices ∧ (askRead p target a start s).pending = s.pending := by
  unfold askRead; (try dsimp only); (repeat' split) <;> simp

@[simp] theorem stepPointer_frame (p : Port) (s : State) :
    (stepPointer p s).now = s.now ∧ (stepPointer p s).timing = s.timing ∧ (stepPointer p s).est = s.est ∧ (stepPointer p s).gov = s.gov ∧
    (stepPointer p s).runner = s.runner ∧ (stepPointer p s).dosing = s.dosing ∧ (stepPointer p s).lines = s.lines ∧ (stepPointer p s).link = s.link ∧
    (stepPointer p s).settings = s.settings ∧ (stepPointer p s).pages = s.pages ∧ (stepPointer p s).cmd = s.cmd ∧ (stepPointer p s).tel = s.tel ∧
    (stepPointer p s).report = s.report ∧ (stepPointer p s).hand = s.hand ∧ (stepPointer p s).mem = s.mem ∧ (stepPointer p s).choices = s.choices ∧
    (stepPointer p s).pending = s.pending := by
  unfold stepPointer; (try dsimp only); (repeat' split) <;> simp

@[simp] theorem noteSending_frame (p : Port) (s : State) :
    (noteSending p s).now = s.now ∧ (noteSending p s).timing = s.timing ∧ (noteSending p s).est = s.est ∧
    (noteSending p s).gov = s.gov ∧ (noteSending p s).runner = s.runner ∧ (noteSending p s).dosing = s.dosing ∧
    (noteSending p s).lines = s.lines ∧ (noteSending p s).link = s.link ∧ (noteSending p s).settings = s.settings ∧
    (noteSending p s).pages = s.pages ∧ (noteSending p s).cmd = s.cmd ∧ (noteSending p s).tel = s.tel ∧
    (noteSending p s).hand = s.hand ∧ (noteSending p s).mem = s.mem ∧ (noteSending p s).choices = s.choices ∧
    (noteSending p s).pending = s.pending := by
  unfold noteSending; (try dsimp only); (repeat' split) <;> simp

@[simp] theorem noteSending_report (p : Port) (s : State) :
    (noteSending p s).report.accessCount = s.report.accessCount ∧ (noteSending p s).report.lastAccess = s.report.lastAccess ∧
    (noteSending p s).report.latches = s.report.latches ∧ (noteSending p s).report.seq = s.report.seq ∧
    (noteSending p s).report.write = s.report.write ∧ (noteSending p s).report.again = s.report.again ∧
    (noteSending p s).report.periodStart = s.report.periodStart ∧ (noteSending p s).report.queue = s.report.queue ∧
    (noteSending p s).report.nextSlot = s.report.nextSlot ∧ (noteSending p s).report.nextSeq = s.report.nextSeq ∧
    (noteSending p s).report.drops = s.report.drops ∧ (noteSending p s).report.ring = s.report.ring := by
  unfold noteSending; (try dsimp only); (repeat' split) <;> simp

/-- So does one that can be taken back. -/
@[simp] theorem begin_fields (r : ReportUnit) (f : AccessFault) (b : Bool) :
    (r.begin f b).latches = r.latches ∧ (r.begin f b).seq = r.seq ∧
    (r.begin f b).write = r.write ∧ (r.begin f b).again = r.again ∧
    (r.begin f b).periodStart = r.periodStart ∧ (r.begin f b).queue = r.queue ∧
    (r.begin f b).nextSlot = r.nextSlot ∧ (r.begin f b).nextSeq = r.nextSeq ∧
    (r.begin f b).drops = r.drops ∧ (r.begin f b).ring = r.ring := by
  simp [ReportUnit.begin]

@[simp] theorem readFault_frame (p : Port) (k : AccessKind) (a : Nat) (s : State) :
    (readFault p k a s).now = s.now ∧ (readFault p k a s).timing = s.timing ∧ (readFault p k a s).est = s.est ∧
    (readFault p k a s).gov = s.gov ∧ (readFault p k a s).runner = s.runner ∧ (readFault p k a s).dosing = s.dosing ∧
    (readFault p k a s).lines = s.lines ∧ (readFault p k a s).link = s.link ∧ (readFault p k a s).settings = s.settings ∧
    (readFault p k a s).pages = s.pages ∧ (readFault p k a s).cmd = s.cmd ∧ (readFault p k a s).tel = s.tel ∧
    (readFault p k a s).hand = s.hand ∧ (readFault p k a s).mem = s.mem ∧ (readFault p k a s).choices = s.choices ∧
    (readFault p k a s).pending = s.pending := by
  unfold readFault; (try dsimp only); (repeat' split) <;> simp

/-- Taking a fault back touches the access faults alone. -/
@[simp] theorem takeBack_fields (r : ReportUnit) (p : Port) :
    (r.takeBack p).latches = r.latches ∧ (r.takeBack p).seq = r.seq ∧ (r.takeBack p).write = r.write ∧
    (r.takeBack p).again = r.again ∧ (r.takeBack p).periodStart = r.periodStart ∧ (r.takeBack p).queue = r.queue ∧
    (r.takeBack p).nextSlot = r.nextSlot ∧ (r.takeBack p).nextSeq = r.nextSeq ∧ (r.takeBack p).drops = r.drops ∧
    (r.takeBack p).ring = r.ring := by
  unfold ReportUnit.takeBack; split <;> simp

@[simp] theorem dropPartial_frame (p : Port) (s : State) :
    (dropPartial p s).now = s.now ∧ (dropPartial p s).timing = s.timing ∧ (dropPartial p s).est = s.est ∧
    (dropPartial p s).gov = s.gov ∧ (dropPartial p s).runner = s.runner ∧ (dropPartial p s).dosing = s.dosing ∧
    (dropPartial p s).lines = s.lines ∧ (dropPartial p s).link = s.link ∧ (dropPartial p s).settings = s.settings ∧
    (dropPartial p s).pages = s.pages ∧ (dropPartial p s).cmd = s.cmd ∧ (dropPartial p s).tel = s.tel ∧
    (dropPartial p s).hand = s.hand ∧ (dropPartial p s).mem = s.mem ∧ (dropPartial p s).choices = s.choices ∧
    (dropPartial p s).pending = s.pending := by
  unfold dropPartial; (try dsimp only); (repeat' split) <;> simp

@[simp] theorem dropPartial_report (p : Port) (s : State) :
    (dropPartial p s).report.latches = s.report.latches ∧ (dropPartial p s).report.seq = s.report.seq ∧
    (dropPartial p s).report.write = s.report.write ∧ (dropPartial p s).report.again = s.report.again ∧
    (dropPartial p s).report.periodStart = s.report.periodStart ∧ (dropPartial p s).report.queue = s.report.queue ∧
    (dropPartial p s).report.nextSlot = s.report.nextSlot ∧ (dropPartial p s).report.nextSeq = s.report.nextSeq ∧
    (dropPartial p s).report.drops = s.report.drops ∧ (dropPartial p s).report.ring = s.report.ring := by
  unfold dropPartial; (try dsimp only); (repeat' split) <;> simp

@[simp] theorem refuseWrite_frame (p : Port) (s : State) :
    (refuseWrite p s).now = s.now ∧ (refuseWrite p s).timing = s.timing ∧ (refuseWrite p s).est = s.est ∧ (refuseWrite p s).gov = s.gov ∧
    (refuseWrite p s).runner = s.runner ∧ (refuseWrite p s).dosing = s.dosing ∧ (refuseWrite p s).lines = s.lines ∧ (refuseWrite p s).link = s.link ∧
    (refuseWrite p s).settings = s.settings ∧ (refuseWrite p s).pages = s.pages ∧ (refuseWrite p s).cmd = s.cmd ∧ (refuseWrite p s).tel = s.tel ∧
    (refuseWrite p s).report = s.report ∧ (refuseWrite p s).hand = s.hand ∧ (refuseWrite p s).mem = s.mem ∧ (refuseWrite p s).choices = s.choices ∧
    (refuseWrite p s).pending = s.pending := by
  unfold refuseWrite; (try dsimp only); (repeat' split) <;> simp

@[simp] theorem refuseRead_frame (p : Port) (s : State) :
    (refuseRead p s).now = s.now ∧ (refuseRead p s).timing = s.timing ∧ (refuseRead p s).est = s.est ∧ (refuseRead p s).gov = s.gov ∧
    (refuseRead p s).runner = s.runner ∧ (refuseRead p s).dosing = s.dosing ∧ (refuseRead p s).lines = s.lines ∧ (refuseRead p s).link = s.link ∧
    (refuseRead p s).settings = s.settings ∧ (refuseRead p s).pages = s.pages ∧ (refuseRead p s).cmd = s.cmd ∧ (refuseRead p s).tel = s.tel ∧
    (refuseRead p s).report = s.report ∧ (refuseRead p s).hand = s.hand ∧ (refuseRead p s).mem = s.mem ∧ (refuseRead p s).choices = s.choices ∧
    (refuseRead p s).pending = s.pending := by
  unfold refuseRead; (try dsimp only); (repeat' split) <;> simp

@[simp] theorem joinPost_frame (p : Port) (target : Nat) (v : Byte) (s : State) :
    (joinPost p target v s).now = s.now ∧ (joinPost p target v s).timing = s.timing ∧ (joinPost p target v s).est = s.est ∧ (joinPost p target v s).gov = s.gov ∧
    (joinPost p target v s).runner = s.runner ∧ (joinPost p target v s).dosing = s.dosing ∧ (joinPost p target v s).lines = s.lines ∧ (joinPost p target v s).link = s.link ∧
    (joinPost p target v s).settings = s.settings ∧ (joinPost p target v s).pages = s.pages ∧ (joinPost p target v s).cmd = s.cmd ∧ (joinPost p target v s).tel = s.tel ∧
    (joinPost p target v s).report = s.report ∧ (joinPost p target v s).hand = s.hand ∧ (joinPost p target v s).mem = s.mem ∧ (joinPost p target v s).choices = s.choices ∧
    (joinPost p target v s).pending = s.pending := by
  unfold joinPost; (try dsimp only); (repeat' split) <;> simp

@[simp] theorem beginTxn_frame (p : Port) (read : Bool) (s : State) :
    (beginTxn p read s).now = s.now ∧ (beginTxn p read s).timing = s.timing ∧ (beginTxn p read s).est = s.est ∧ (beginTxn p read s).gov = s.gov ∧
    (beginTxn p read s).runner = s.runner ∧ (beginTxn p read s).dosing = s.dosing ∧ (beginTxn p read s).lines = s.lines ∧ (beginTxn p read s).link = s.link ∧
    (beginTxn p read s).settings = s.settings ∧ (beginTxn p read s).pages = s.pages ∧ (beginTxn p read s).cmd = s.cmd ∧ (beginTxn p read s).tel = s.tel ∧
    (beginTxn p read s).report = s.report ∧ (beginTxn p read s).hand = s.hand ∧ (beginTxn p read s).mem = s.mem ∧ (beginTxn p read s).choices = s.choices ∧
    (beginTxn p read s).pending = s.pending := by
  unfold beginTxn; (try dsimp only); (repeat' split) <;> simp

@[simp] theorem handOver_frame (touch : Touch) (s : State) :
    (handOver touch s).now = s.now ∧ (handOver touch s).timing = s.timing ∧ (handOver touch s).est = s.est ∧ (handOver touch s).gov = s.gov ∧
    (handOver touch s).runner = s.runner ∧ (handOver touch s).dosing = s.dosing ∧ (handOver touch s).lines = s.lines ∧ (handOver touch s).cport = s.cport ∧
    (handOver touch s).dport = s.dport ∧ (handOver touch s).link = s.link ∧ (handOver touch s).settings = s.settings ∧ (handOver touch s).pages = s.pages ∧
    (handOver touch s).cmd = s.cmd ∧ (handOver touch s).tel = s.tel ∧ (handOver touch s).report = s.report ∧ (handOver touch s).mem = s.mem ∧
    (handOver touch s).choices = s.choices ∧ (handOver touch s).pending = s.pending := by
  unfold handOver; (try dsimp only); (repeat' split) <;> simp

@[simp] theorem endTxn_frame (p : Port) (s : State) :
    (endTxn p s).now = s.now ∧ (endTxn p s).timing = s.timing ∧ (endTxn p s).est = s.est ∧ (endTxn p s).gov = s.gov ∧
    (endTxn p s).runner = s.runner ∧ (endTxn p s).dosing = s.dosing ∧ (endTxn p s).lines = s.lines ∧ (endTxn p s).settings = s.settings ∧
    (endTxn p s).pages = s.pages ∧ (endTxn p s).cmd = s.cmd ∧ (endTxn p s).tel = s.tel ∧ (endTxn p s).report = s.report ∧
    (endTxn p s).mem = s.mem ∧ (endTxn p s).choices = s.choices ∧ (endTxn p s).pending = s.pending := by
  unfold endTxn; (try dsimp only); (repeat' split) <;> simp

@[simp] theorem startOn_frame (p : Port) (addr : BitVec 7) (read : Bool) (s : State) :
    (startOn p addr read s).now = s.now ∧ (startOn p addr read s).timing = s.timing ∧ (startOn p addr read s).est = s.est ∧ (startOn p addr read s).gov = s.gov ∧
    (startOn p addr read s).runner = s.runner ∧ (startOn p addr read s).dosing = s.dosing ∧ (startOn p addr read s).lines = s.lines ∧ (startOn p addr read s).link = s.link ∧
    (startOn p addr read s).settings = s.settings ∧ (startOn p addr read s).pages = s.pages ∧ (startOn p addr read s).cmd = s.cmd ∧ (startOn p addr read s).tel = s.tel ∧
    (startOn p addr read s).report = s.report ∧ (startOn p addr read s).hand = s.hand ∧ (startOn p addr read s).mem = s.mem ∧ (startOn p addr read s).choices = s.choices ∧
    (startOn p addr read s).pending = s.pending := by
  unfold startOn; (try dsimp only); (repeat' split) <;> simp

@[simp] theorem restartTxn_frame (p : Port) (addr : BitVec 7) (read : Bool) (s : State) :
    (restartTxn p addr read s).now = s.now ∧ (restartTxn p addr read s).timing = s.timing ∧ (restartTxn p addr read s).est = s.est ∧ (restartTxn p addr read s).gov = s.gov ∧
    (restartTxn p addr read s).runner = s.runner ∧ (restartTxn p addr read s).dosing = s.dosing ∧ (restartTxn p addr read s).lines = s.lines ∧ (restartTxn p addr read s).settings = s.settings ∧
    (restartTxn p addr read s).pages = s.pages ∧ (restartTxn p addr read s).cmd = s.cmd ∧ (restartTxn p addr read s).tel = s.tel ∧ (restartTxn p addr read s).report = s.report ∧
    (restartTxn p addr read s).mem = s.mem ∧ (restartTxn p addr read s).choices = s.choices ∧ (restartTxn p addr read s).pending = s.pending := by
  unfold restartTxn; (try dsimp only); (repeat' split) <;> simp

@[simp] theorem addressByte_frame (p : Port) (v : Byte) (s : State) :
    (addressByte p v s).now = s.now ∧ (addressByte p v s).timing = s.timing ∧ (addressByte p v s).est = s.est ∧ (addressByte p v s).gov = s.gov ∧
    (addressByte p v s).runner = s.runner ∧ (addressByte p v s).dosing = s.dosing ∧ (addressByte p v s).lines = s.lines ∧ (addressByte p v s).link = s.link ∧
    (addressByte p v s).settings = s.settings ∧ (addressByte p v s).pages = s.pages ∧ (addressByte p v s).cmd = s.cmd ∧ (addressByte p v s).tel = s.tel ∧
    (addressByte p v s).report = s.report ∧ (addressByte p v s).hand = s.hand ∧ (addressByte p v s).mem = s.mem ∧ (addressByte p v s).choices = s.choices ∧
    (addressByte p v s).pending = s.pending := by
  unfold addressByte; (try dsimp only); (repeat' split) <;> simp

@[simp] theorem editWriteOn_frame (p : Port) (offset : Nat) (v : Byte) (a start : Nat) (s : State) :
    (editWriteOn p offset v a start s).now = s.now ∧ (editWriteOn p offset v a start s).timing = s.timing ∧ (editWriteOn p offset v a start s).est = s.est ∧ (editWriteOn p offset v a start s).gov = s.gov ∧
    (editWriteOn p offset v a start s).runner = s.runner ∧ (editWriteOn p offset v a start s).dosing = s.dosing ∧ (editWriteOn p offset v a start s).lines = s.lines ∧ (editWriteOn p offset v a start s).settings = s.settings ∧
    (editWriteOn p offset v a start s).report = s.report ∧ (editWriteOn p offset v a start s).hand = s.hand ∧ (editWriteOn p offset v a start s).mem = s.mem ∧ (editWriteOn p offset v a start s).choices = s.choices ∧
    (editWriteOn p offset v a start s).pending = s.pending := by
  unfold editWriteOn; (try dsimp only); (repeat' split) <;> simp

@[simp] theorem writeByte_frame (p : Port) (v : Byte) (s : State) :
    (writeByte p v s).now = s.now ∧ (writeByte p v s).timing = s.timing ∧ (writeByte p v s).est = s.est ∧ (writeByte p v s).gov = s.gov ∧
    (writeByte p v s).runner = s.runner ∧ (writeByte p v s).dosing = s.dosing ∧ (writeByte p v s).lines = s.lines ∧ (writeByte p v s).settings = s.settings ∧
    (writeByte p v s).hand = s.hand ∧ (writeByte p v s).mem = s.mem ∧ (writeByte p v s).choices = s.choices ∧ (writeByte p v s).pending = s.pending := by
  unfold writeByte; (try dsimp only); (repeat' split) <;> simp

@[simp] theorem takeWriteByte_frame (p : Port) (v : Byte) (s : State) :
    (takeWriteByte p v s).now = s.now ∧ (takeWriteByte p v s).timing = s.timing ∧ (takeWriteByte p v s).est = s.est ∧ (takeWriteByte p v s).gov = s.gov ∧
    (takeWriteByte p v s).runner = s.runner ∧ (takeWriteByte p v s).dosing = s.dosing ∧ (takeWriteByte p v s).lines = s.lines ∧ (takeWriteByte p v s).settings = s.settings ∧
    (takeWriteByte p v s).hand = s.hand ∧ (takeWriteByte p v s).mem = s.mem ∧ (takeWriteByte p v s).choices = s.choices ∧ (takeWriteByte p v s).pending = s.pending := by
  unfold takeWriteByte; (try dsimp only); (repeat' split) <;> simp

@[simp] theorem overlayByte_frame (p : Port) (offset : Nat) (s : State) :
    (overlayByte p offset s).now = s.now ∧ (overlayByte p offset s).timing = s.timing ∧ (overlayByte p offset s).est = s.est ∧ (overlayByte p offset s).gov = s.gov ∧
    (overlayByte p offset s).runner = s.runner ∧ (overlayByte p offset s).dosing = s.dosing ∧ (overlayByte p offset s).lines = s.lines ∧ (overlayByte p offset s).link = s.link ∧
    (overlayByte p offset s).settings = s.settings ∧ (overlayByte p offset s).pages = s.pages ∧ (overlayByte p offset s).cmd = s.cmd ∧ (overlayByte p offset s).tel = s.tel ∧
    (overlayByte p offset s).report = s.report ∧ (overlayByte p offset s).hand = s.hand ∧ (overlayByte p offset s).mem = s.mem ∧ (overlayByte p offset s).choices = s.choices ∧
    (overlayByte p offset s).pending = s.pending := by
  unfold overlayByte; (try dsimp only); (repeat' split) <;> simp

@[simp] theorem noteView_frame (p : Port) (s : State) :
    (noteView p s).now = s.now ∧ (noteView p s).timing = s.timing ∧ (noteView p s).est = s.est ∧ (noteView p s).gov = s.gov ∧
    (noteView p s).runner = s.runner ∧ (noteView p s).dosing = s.dosing ∧ (noteView p s).lines = s.lines ∧ (noteView p s).link = s.link ∧
    (noteView p s).settings = s.settings ∧ (noteView p s).pages = s.pages ∧ (noteView p s).cmd = s.cmd ∧ (noteView p s).tel = s.tel ∧
    (noteView p s).report = s.report ∧ (noteView p s).hand = s.hand ∧ (noteView p s).mem = s.mem ∧ (noteView p s).choices = s.choices ∧
    (noteView p s).pending = s.pending := by
  unfold noteView; (try dsimp only); (repeat' split) <;> simp

@[simp] theorem readByteOn_frame (p : Port) (s : State) :
    (readByteOn p s).now = s.now ∧ (readByteOn p s).timing = s.timing ∧ (readByteOn p s).est = s.est ∧ (readByteOn p s).gov = s.gov ∧
    (readByteOn p s).runner = s.runner ∧ (readByteOn p s).dosing = s.dosing ∧ (readByteOn p s).lines = s.lines ∧ (readByteOn p s).settings = s.settings ∧
    (readByteOn p s).pages = s.pages ∧ (readByteOn p s).cmd = s.cmd ∧ (readByteOn p s).tel = s.tel ∧ (readByteOn p s).hand = s.hand ∧
    (readByteOn p s).mem = s.mem ∧ (readByteOn p s).choices = s.choices ∧ (readByteOn p s).pending = s.pending := by
  unfold readByteOn; (try dsimp only); (repeat' split) <;> simp

@[simp] theorem takeReadByte_frame (p : Port) (s : State) :
    (takeReadByte p s).now = s.now ∧ (takeReadByte p s).timing = s.timing ∧ (takeReadByte p s).est = s.est ∧ (takeReadByte p s).gov = s.gov ∧
    (takeReadByte p s).runner = s.runner ∧ (takeReadByte p s).dosing = s.dosing ∧ (takeReadByte p s).lines = s.lines ∧ (takeReadByte p s).settings = s.settings ∧
    (takeReadByte p s).pages = s.pages ∧ (takeReadByte p s).cmd = s.cmd ∧ (takeReadByte p s).tel = s.tel ∧ (takeReadByte p s).hand = s.hand ∧
    (takeReadByte p s).mem = s.mem ∧ (takeReadByte p s).choices = s.choices ∧ (takeReadByte p s).pending = s.pending := by
  unfold takeReadByte; (try dsimp only); (repeat' split) <;> simp

@[simp] theorem nackRead_frame (p : Port) (s : State) :
    (nackRead p s).now = s.now ∧ (nackRead p s).timing = s.timing ∧ (nackRead p s).est = s.est ∧ (nackRead p s).gov = s.gov ∧
    (nackRead p s).runner = s.runner ∧ (nackRead p s).dosing = s.dosing ∧ (nackRead p s).lines = s.lines ∧ (nackRead p s).settings = s.settings ∧
    (nackRead p s).pages = s.pages ∧ (nackRead p s).cmd = s.cmd ∧ (nackRead p s).tel = s.tel ∧ (nackRead p s).report = s.report ∧
    (nackRead p s).hand = s.hand ∧ (nackRead p s).mem = s.mem ∧ (nackRead p s).choices = s.choices ∧ (nackRead p s).pending = s.pending := by
  unfold nackRead; (try dsimp only); (repeat' split) <;> simp

@[simp] theorem stretchExpires_frame (p : Port) (s : State) :
    (stretchExpires p s).now = s.now ∧ (stretchExpires p s).timing = s.timing ∧ (stretchExpires p s).est = s.est ∧ (stretchExpires p s).gov = s.gov ∧
    (stretchExpires p s).runner = s.runner ∧ (stretchExpires p s).dosing = s.dosing ∧ (stretchExpires p s).lines = s.lines ∧ (stretchExpires p s).settings = s.settings ∧
    (stretchExpires p s).pages = s.pages ∧ (stretchExpires p s).cmd = s.cmd ∧ (stretchExpires p s).tel = s.tel ∧ (stretchExpires p s).hand = s.hand ∧
    (stretchExpires p s).mem = s.mem ∧ (stretchExpires p s).choices = s.choices ∧ (stretchExpires p s).pending = s.pending := by
  unfold stretchExpires; (try dsimp only); (repeat' split) <;> simp

@[simp] theorem idleClose_frame (p : Port) (k : TransferKind) (s : State) :
    (idleClose p k s).now = s.now ∧ (idleClose p k s).timing = s.timing ∧ (idleClose p k s).est = s.est ∧ (idleClose p k s).gov = s.gov ∧
    (idleClose p k s).runner = s.runner ∧ (idleClose p k s).dosing = s.dosing ∧ (idleClose p k s).lines = s.lines ∧ (idleClose p k s).cport = s.cport ∧
    (idleClose p k s).dport = s.dport ∧ (idleClose p k s).settings = s.settings ∧ (idleClose p k s).pages = s.pages ∧ (idleClose p k s).cmd = s.cmd ∧
    (idleClose p k s).tel = s.tel ∧ (idleClose p k s).report = s.report ∧ (idleClose p k s).hand = s.hand ∧ (idleClose p k s).mem = s.mem ∧
    (idleClose p k s).choices = s.choices ∧ (idleClose p k s).pending = s.pending := by
  unfold idleClose; (try dsimp only); (repeat' split) <;> simp

@[simp] theorem burstAck_frame (p : Port) (t : Transfer) (s : State) :
    (burstAck p t s).now = s.now ∧ (burstAck p t s).timing = s.timing ∧ (burstAck p t s).est = s.est ∧ (burstAck p t s).gov = s.gov ∧
    (burstAck p t s).runner = s.runner ∧ (burstAck p t s).dosing = s.dosing ∧ (burstAck p t s).lines = s.lines ∧ (burstAck p t s).settings = s.settings ∧
    (burstAck p t s).pages = s.pages ∧ (burstAck p t s).cmd = s.cmd ∧ (burstAck p t s).tel = s.tel ∧ (burstAck p t s).report = s.report ∧
    (burstAck p t s).hand = s.hand ∧ (burstAck p t s).choices = s.choices ∧ (burstAck p t s).pending = s.pending := by
  unfold burstAck; (try dsimp only); (repeat' split) <;> simp

@[simp] theorem drainAck_frame (p : Port) (t : Transfer) (s : State) :
    (drainAck p t s).now = s.now ∧ (drainAck p t s).timing = s.timing ∧ (drainAck p t s).est = s.est ∧ (drainAck p t s).gov = s.gov ∧
    (drainAck p t s).runner = s.runner ∧ (drainAck p t s).dosing = s.dosing ∧ (drainAck p t s).lines = s.lines ∧ (drainAck p t s).settings = s.settings ∧
    (drainAck p t s).pages = s.pages ∧ (drainAck p t s).cmd = s.cmd ∧ (drainAck p t s).tel = s.tel ∧ (drainAck p t s).report = s.report ∧
    (drainAck p t s).hand = s.hand ∧ (drainAck p t s).choices = s.choices ∧ (drainAck p t s).pending = s.pending := by
  unfold drainAck; (try dsimp only); (repeat' split) <;> simp

@[simp] theorem dataAck_frame (s : State) :
    (dataAck s).now = s.now ∧ (dataAck s).timing = s.timing ∧ (dataAck s).est = s.est ∧ (dataAck s).gov = s.gov ∧
    (dataAck s).runner = s.runner ∧ (dataAck s).dosing = s.dosing ∧ (dataAck s).lines = s.lines ∧ (dataAck s).settings = s.settings ∧
    (dataAck s).pages = s.pages ∧ (dataAck s).cmd = s.cmd ∧ (dataAck s).tel = s.tel ∧ (dataAck s).report = s.report ∧
    (dataAck s).hand = s.hand ∧ (dataAck s).choices = s.choices ∧ (dataAck s).pending = s.pending := by
  unfold dataAck; (try dsimp only); (repeat' split) <;> simp

@[simp] theorem readBack_frame (s : State) :
    (readBack s).now = s.now ∧ (readBack s).timing = s.timing ∧ (readBack s).est = s.est ∧ (readBack s).gov = s.gov ∧
    (readBack s).runner = s.runner ∧ (readBack s).dosing = s.dosing ∧ (readBack s).lines = s.lines ∧ (readBack s).settings = s.settings ∧
    (readBack s).pages = s.pages ∧ (readBack s).cmd = s.cmd ∧ (readBack s).tel = s.tel ∧ (readBack s).report = s.report ∧
    (readBack s).hand = s.hand ∧ (readBack s).mem = s.mem ∧ (readBack s).choices = s.choices ∧ (readBack s).pending = s.pending := by
  unfold readBack; (try dsimp only); (repeat' split) <;> simp

@[simp] theorem endTransfer_frame (s : State) :
    (endTransfer s).now = s.now ∧ (endTransfer s).timing = s.timing ∧ (endTransfer s).est = s.est ∧ (endTransfer s).gov = s.gov ∧
    (endTransfer s).runner = s.runner ∧ (endTransfer s).dosing = s.dosing ∧ (endTransfer s).lines = s.lines ∧ (endTransfer s).cport = s.cport ∧
    (endTransfer s).dport = s.dport ∧ (endTransfer s).settings = s.settings ∧ (endTransfer s).pages = s.pages ∧ (endTransfer s).cmd = s.cmd ∧
    (endTransfer s).tel = s.tel ∧ (endTransfer s).report = s.report ∧ (endTransfer s).hand = s.hand ∧ (endTransfer s).mem = s.mem ∧
    (endTransfer s).choices = s.choices ∧ (endTransfer s).pending = s.pending := by
  unfold endTransfer; (try dsimp only); (repeat' split) <;> simp

@[simp] theorem retryAddress_frame (s : State) :
    (retryAddress s).now = s.now ∧ (retryAddress s).timing = s.timing ∧ (retryAddress s).est = s.est ∧ (retryAddress s).gov = s.gov ∧
    (retryAddress s).runner = s.runner ∧ (retryAddress s).dosing = s.dosing ∧ (retryAddress s).lines = s.lines ∧ (retryAddress s).cport = s.cport ∧
    (retryAddress s).dport = s.dport ∧ (retryAddress s).settings = s.settings ∧ (retryAddress s).pages = s.pages ∧ (retryAddress s).cmd = s.cmd ∧
    (retryAddress s).tel = s.tel ∧ (retryAddress s).report = s.report ∧ (retryAddress s).hand = s.hand ∧ (retryAddress s).mem = s.mem ∧
    (retryAddress s).choices = s.choices ∧ (retryAddress s).pending = s.pending := by
  unfold retryAddress; (try dsimp only); (repeat' split) <;> simp

@[simp] theorem abandonJobs_frame (p : Job → Bool) (s : State) :
    (abandonJobs p s).now = s.now ∧ (abandonJobs p s).timing = s.timing ∧ (abandonJobs p s).est = s.est ∧ (abandonJobs p s).gov = s.gov ∧
    (abandonJobs p s).runner = s.runner ∧ (abandonJobs p s).dosing = s.dosing ∧ (abandonJobs p s).lines = s.lines ∧ (abandonJobs p s).cport = s.cport ∧
    (abandonJobs p s).dport = s.dport ∧ (abandonJobs p s).settings = s.settings ∧ (abandonJobs p s).pages = s.pages ∧ (abandonJobs p s).cmd = s.cmd ∧
    (abandonJobs p s).tel = s.tel ∧ (abandonJobs p s).report = s.report ∧ (abandonJobs p s).hand = s.hand ∧ (abandonJobs p s).mem = s.mem ∧
    (abandonJobs p s).choices = s.choices ∧ (abandonJobs p s).pending = s.pending := by
  unfold abandonJobs; (try dsimp only); (repeat' split) <;> simp

@[simp] theorem freezeReport_frame (s : State) :
    (freezeReport s).now = s.now ∧ (freezeReport s).timing = s.timing ∧ (freezeReport s).est = s.est ∧ (freezeReport s).gov = s.gov ∧
    (freezeReport s).runner = s.runner ∧ (freezeReport s).dosing = s.dosing ∧ (freezeReport s).lines = s.lines ∧ (freezeReport s).cport = s.cport ∧
    (freezeReport s).dport = s.dport ∧ (freezeReport s).link = s.link ∧ (freezeReport s).settings = s.settings ∧ (freezeReport s).pages = s.pages ∧
    (freezeReport s).cmd = s.cmd ∧ (freezeReport s).tel = s.tel ∧ (freezeReport s).hand = s.hand ∧ (freezeReport s).mem = s.mem ∧
    (freezeReport s).choices = s.choices ∧ (freezeReport s).pending = s.pending := by
  unfold freezeReport; (try dsimp only); (repeat' split) <;> simp

@[simp] theorem raiseJobs_frame (s : State) :
    (raiseJobs s).now = s.now ∧ (raiseJobs s).timing = s.timing ∧ (raiseJobs s).est = s.est ∧ (raiseJobs s).gov = s.gov ∧
    (raiseJobs s).runner = s.runner ∧ (raiseJobs s).dosing = s.dosing ∧ (raiseJobs s).lines = s.lines ∧ (raiseJobs s).cport = s.cport ∧
    (raiseJobs s).dport = s.dport ∧ (raiseJobs s).settings = s.settings ∧ (raiseJobs s).pages = s.pages ∧ (raiseJobs s).cmd = s.cmd ∧
    (raiseJobs s).tel = s.tel ∧ (raiseJobs s).hand = s.hand ∧ (raiseJobs s).mem = s.mem ∧ (raiseJobs s).pending = s.pending := by
  unfold raiseJobs; (try dsimp only); (repeat' split) <;> simp

@[simp] theorem takeEntry_frame (s : State) :
    (takeEntry s).1.now = s.now ∧ (takeEntry s).1.timing = s.timing ∧ (takeEntry s).1.est = s.est ∧ (takeEntry s).1.gov = s.gov ∧
    (takeEntry s).1.runner = s.runner ∧ (takeEntry s).1.dosing = s.dosing ∧ (takeEntry s).1.lines = s.lines ∧ (takeEntry s).1.cport = s.cport ∧
    (takeEntry s).1.dport = s.dport ∧ (takeEntry s).1.link = s.link ∧ (takeEntry s).1.settings = s.settings ∧ (takeEntry s).1.pages = s.pages ∧
    (takeEntry s).1.cmd = s.cmd ∧ (takeEntry s).1.tel = s.tel ∧ (takeEntry s).1.hand = s.hand ∧ (takeEntry s).1.mem = s.mem ∧
    (takeEntry s).1.choices = s.choices ∧ (takeEntry s).1.pending = s.pending := by
  unfold takeEntry; (try dsimp only); (repeat' split) <;> simp

@[simp] theorem grantedTransfer_frame (s : State) (r : Requester) :
    (grantedTransfer s r).1.now = s.now ∧ (grantedTransfer s r).1.timing = s.timing ∧ (grantedTransfer s r).1.est = s.est ∧ (grantedTransfer s r).1.gov = s.gov ∧
    (grantedTransfer s r).1.runner = s.runner ∧ (grantedTransfer s r).1.dosing = s.dosing ∧ (grantedTransfer s r).1.lines = s.lines ∧ (grantedTransfer s r).1.cport = s.cport ∧
    (grantedTransfer s r).1.dport = s.dport ∧ (grantedTransfer s r).1.settings = s.settings ∧ (grantedTransfer s r).1.pages = s.pages ∧ (grantedTransfer s r).1.cmd = s.cmd ∧
    (grantedTransfer s r).1.tel = s.tel ∧ (grantedTransfer s r).1.hand = s.hand ∧ (grantedTransfer s r).1.mem = s.mem ∧ (grantedTransfer s r).1.choices = s.choices ∧
    (grantedTransfer s r).1.pending = s.pending := by
  unfold grantedTransfer; (try dsimp only); (repeat' split) <;> simp

@[simp] theorem grant_frame (r : Requester) (s : State) :
    (grant r s).now = s.now ∧ (grant r s).timing = s.timing ∧ (grant r s).est = s.est ∧ (grant r s).gov = s.gov ∧
    (grant r s).runner = s.runner ∧ (grant r s).dosing = s.dosing ∧ (grant r s).lines = s.lines ∧ (grant r s).cport = s.cport ∧
    (grant r s).dport = s.dport ∧ (grant r s).settings = s.settings ∧ (grant r s).pages = s.pages ∧ (grant r s).cmd = s.cmd ∧
    (grant r s).tel = s.tel ∧ (grant r s).hand = s.hand ∧ (grant r s).mem = s.mem ∧ (grant r s).choices = s.choices ∧
    (grant r s).pending = s.pending := by
  unfold grant; (try dsimp only); (repeat' split) <;> simp

@[simp] theorem arbitrate_frame (s : State) :
    (arbitrate s).now = s.now ∧ (arbitrate s).timing = s.timing ∧ (arbitrate s).est = s.est ∧ (arbitrate s).gov = s.gov ∧
    (arbitrate s).runner = s.runner ∧ (arbitrate s).dosing = s.dosing ∧ (arbitrate s).lines = s.lines ∧ (arbitrate s).cport = s.cport ∧
    (arbitrate s).dport = s.dport ∧ (arbitrate s).settings = s.settings ∧ (arbitrate s).pages = s.pages ∧ (arbitrate s).cmd = s.cmd ∧
    (arbitrate s).tel = s.tel ∧ (arbitrate s).hand = s.hand ∧ (arbitrate s).mem = s.mem ∧ (arbitrate s).choices = s.choices ∧
    (arbitrate s).pending = s.pending := by
  unfold arbitrate; (try dsimp only); (repeat' split) <;> simp

@[simp] theorem completeJob_now (p : Job → Bool) {act : Job → State → State} (h : ∀ j u, (act j u).now = u.now) (s : State) :
    (completeJob p act s).now = s.now := by
  unfold completeJob; (try dsimp only); (repeat' split) <;> simp [h]

@[simp] theorem completeJob_timing (p : Job → Bool) {act : Job → State → State} (h : ∀ j u, (act j u).timing = u.timing) (s : State) :
    (completeJob p act s).timing = s.timing := by
  unfold completeJob; (try dsimp only); (repeat' split) <;> simp [h]

@[simp] theorem completeJob_est (p : Job → Bool) {act : Job → State → State} (h : ∀ j u, (act j u).est = u.est) (s : State) :
    (completeJob p act s).est = s.est := by
  unfold completeJob; (try dsimp only); (repeat' split) <;> simp [h]

@[simp] theorem completeJob_gov (p : Job → Bool) {act : Job → State → State} (h : ∀ j u, (act j u).gov = u.gov) (s : State) :
    (completeJob p act s).gov = s.gov := by
  unfold completeJob; (try dsimp only); (repeat' split) <;> simp [h]

@[simp] theorem completeJob_runner (p : Job → Bool) {act : Job → State → State} (h : ∀ j u, (act j u).runner = u.runner) (s : State) :
    (completeJob p act s).runner = s.runner := by
  unfold completeJob; (try dsimp only); (repeat' split) <;> simp [h]

@[simp] theorem completeJob_dosing (p : Job → Bool) {act : Job → State → State} (h : ∀ j u, (act j u).dosing = u.dosing) (s : State) :
    (completeJob p act s).dosing = s.dosing := by
  unfold completeJob; (try dsimp only); (repeat' split) <;> simp [h]

@[simp] theorem completeJob_lines (p : Job → Bool) {act : Job → State → State} (h : ∀ j u, (act j u).lines = u.lines) (s : State) :
    (completeJob p act s).lines = s.lines := by
  unfold completeJob; (try dsimp only); (repeat' split) <;> simp [h]

@[simp] theorem completeJob_cport (p : Job → Bool) {act : Job → State → State} (h : ∀ j u, (act j u).cport = u.cport) (s : State) :
    (completeJob p act s).cport = s.cport := by
  unfold completeJob; (try dsimp only); (repeat' split) <;> simp [h]

@[simp] theorem completeJob_dport (p : Job → Bool) {act : Job → State → State} (h : ∀ j u, (act j u).dport = u.dport) (s : State) :
    (completeJob p act s).dport = s.dport := by
  unfold completeJob; (try dsimp only); (repeat' split) <;> simp [h]

@[simp] theorem completeJob_settings (p : Job → Bool) {act : Job → State → State} (h : ∀ j u, (act j u).settings = u.settings) (s : State) :
    (completeJob p act s).settings = s.settings := by
  unfold completeJob; (try dsimp only); (repeat' split) <;> simp [h]

@[simp] theorem completeJob_pages (p : Job → Bool) {act : Job → State → State} (h : ∀ j u, (act j u).pages = u.pages) (s : State) :
    (completeJob p act s).pages = s.pages := by
  unfold completeJob; (try dsimp only); (repeat' split) <;> simp [h]

@[simp] theorem completeJob_cmd (p : Job → Bool) {act : Job → State → State} (h : ∀ j u, (act j u).cmd = u.cmd) (s : State) :
    (completeJob p act s).cmd = s.cmd := by
  unfold completeJob; (try dsimp only); (repeat' split) <;> simp [h]

@[simp] theorem completeJob_tel (p : Job → Bool) {act : Job → State → State} (h : ∀ j u, (act j u).tel = u.tel) (s : State) :
    (completeJob p act s).tel = s.tel := by
  unfold completeJob; (try dsimp only); (repeat' split) <;> simp [h]

@[simp] theorem completeJob_report (p : Job → Bool) {act : Job → State → State} (h : ∀ j u, (act j u).report = u.report) (s : State) :
    (completeJob p act s).report = s.report := by
  unfold completeJob; (try dsimp only); (repeat' split) <;> simp [h]

@[simp] theorem completeJob_hand (p : Job → Bool) {act : Job → State → State} (h : ∀ j u, (act j u).hand = u.hand) (s : State) :
    (completeJob p act s).hand = s.hand := by
  unfold completeJob; (try dsimp only); (repeat' split) <;> simp [h]

@[simp] theorem completeJob_choices (p : Job → Bool) {act : Job → State → State} (h : ∀ j u, (act j u).choices = u.choices) (s : State) :
    (completeJob p act s).choices = s.choices := by
  unfold completeJob; (try dsimp only); (repeat' split) <;> simp [h]

@[simp] theorem completeJob_pending (p : Job → Bool) {act : Job → State → State} (h : ∀ j u, (act j u).pending = u.pending) (s : State) :
    (completeJob p act s).pending = s.pending := by
  unfold completeJob; (try dsimp only); (repeat' split) <;> simp [h]

@[simp] theorem granuleWritten_frame (s : State) :
    (granuleWritten s).now = s.now ∧ (granuleWritten s).timing = s.timing ∧ (granuleWritten s).est = s.est ∧ (granuleWritten s).gov = s.gov ∧
    (granuleWritten s).runner = s.runner ∧ (granuleWritten s).dosing = s.dosing ∧ (granuleWritten s).lines = s.lines ∧ (granuleWritten s).cport = s.cport ∧
    (granuleWritten s).dport = s.dport ∧ (granuleWritten s).link = s.link ∧ (granuleWritten s).settings = s.settings ∧ (granuleWritten s).pages = s.pages ∧
    (granuleWritten s).cmd = s.cmd ∧ (granuleWritten s).tel = s.tel ∧ (granuleWritten s).hand = s.hand ∧ (granuleWritten s).mem = s.mem ∧
    (granuleWritten s).choices = s.choices ∧ (granuleWritten s).pending = s.pending := by
  unfold granuleWritten; (try dsimp only); (repeat' split) <;> simp

@[simp] theorem granuleFailed_frame (s : State) :
    (granuleFailed s).now = s.now ∧ (granuleFailed s).timing = s.timing ∧ (granuleFailed s).est = s.est ∧ (granuleFailed s).gov = s.gov ∧
    (granuleFailed s).runner = s.runner ∧ (granuleFailed s).dosing = s.dosing ∧ (granuleFailed s).lines = s.lines ∧ (granuleFailed s).cport = s.cport ∧
    (granuleFailed s).dport = s.dport ∧ (granuleFailed s).link = s.link ∧ (granuleFailed s).settings = s.settings ∧ (granuleFailed s).pages = s.pages ∧
    (granuleFailed s).cmd = s.cmd ∧ (granuleFailed s).tel = s.tel ∧ (granuleFailed s).hand = s.hand ∧ (granuleFailed s).mem = s.mem ∧
    (granuleFailed s).choices = s.choices ∧ (granuleFailed s).pending = s.pending := by
  unfold granuleFailed; (try dsimp only); (repeat' split) <;> simp

@[simp] theorem abandonReport_frame (s : State) :
    (abandonReport s).now = s.now ∧ (abandonReport s).timing = s.timing ∧ (abandonReport s).est = s.est ∧ (abandonReport s).gov = s.gov ∧
    (abandonReport s).runner = s.runner ∧ (abandonReport s).dosing = s.dosing ∧ (abandonReport s).lines = s.lines ∧ (abandonReport s).cport = s.cport ∧
    (abandonReport s).dport = s.dport ∧ (abandonReport s).settings = s.settings ∧ (abandonReport s).pages = s.pages ∧ (abandonReport s).cmd = s.cmd ∧
    (abandonReport s).tel = s.tel ∧ (abandonReport s).hand = s.hand ∧ (abandonReport s).mem = s.mem ∧ (abandonReport s).choices = s.choices ∧
    (abandonReport s).pending = s.pending := by
  unfold abandonReport; (try dsimp only); (repeat' split) <;> simp

@[simp] theorem commitResult_frame (r : CommitResult) (check : Nat) (step : Option Nat) (id : Option Word16) (s : State) :
    (commitResult r check step id s).now = s.now ∧ (commitResult r check step id s).timing = s.timing ∧ (commitResult r check step id s).est = s.est ∧ (commitResult r check step id s).gov = s.gov ∧
    (commitResult r check step id s).runner = s.runner ∧ (commitResult r check step id s).dosing = s.dosing ∧ (commitResult r check step id s).lines = s.lines ∧ (commitResult r check step id s).cport = s.cport ∧
    (commitResult r check step id s).dport = s.dport ∧ (commitResult r check step id s).link = s.link ∧ (commitResult r check step id s).settings = s.settings ∧ (commitResult r check step id s).cmd = s.cmd ∧
    (commitResult r check step id s).tel = s.tel ∧ (commitResult r check step id s).hand = s.hand ∧ (commitResult r check step id s).mem = s.mem ∧ (commitResult r check step id s).choices = s.choices ∧
    (commitResult r check step id s).pending = s.pending := by
  unfold commitResult; (try dsimp only); (repeat' split) <;> simp

@[simp] theorem endSwap_frame (r : CommitResult) (check : Nat) (step : Option Nat) (id : Option Word16) (s : State) :
    (endSwap r check step id s).now = s.now ∧ (endSwap r check step id s).timing = s.timing ∧ (endSwap r check step id s).est = s.est ∧ (endSwap r check step id s).gov = s.gov ∧
    (endSwap r check step id s).runner = s.runner ∧ (endSwap r check step id s).dosing = s.dosing ∧ (endSwap r check step id s).lines = s.lines ∧ (endSwap r check step id s).cport = s.cport ∧
    (endSwap r check step id s).dport = s.dport ∧ (endSwap r check step id s).link = s.link ∧ (endSwap r check step id s).settings = s.settings ∧ (endSwap r check step id s).cmd = s.cmd ∧
    (endSwap r check step id s).tel = s.tel ∧ (endSwap r check step id s).hand = s.hand ∧ (endSwap r check step id s).mem = s.mem ∧ (endSwap r check step id s).choices = s.choices ∧
    (endSwap r check step id s).pending = s.pending := by
  unfold endSwap; (try dsimp only); (repeat' split) <;> simp

@[simp] theorem takeCommit_frame (s : State) :
    (takeCommit s).now = s.now ∧ (takeCommit s).timing = s.timing ∧ (takeCommit s).est = s.est ∧ (takeCommit s).gov = s.gov ∧
    (takeCommit s).runner = s.runner ∧ (takeCommit s).dosing = s.dosing ∧ (takeCommit s).lines = s.lines ∧ (takeCommit s).cport = s.cport ∧
    (takeCommit s).dport = s.dport ∧ (takeCommit s).link = s.link ∧ (takeCommit s).settings = s.settings ∧ (takeCommit s).cmd = s.cmd ∧
    (takeCommit s).tel = s.tel ∧ (takeCommit s).hand = s.hand ∧ (takeCommit s).mem = s.mem ∧ (takeCommit s).choices = s.choices ∧
    (takeCommit s).pending = s.pending := by
  unfold takeCommit; (try dsimp only); (repeat' split) <;> simp

@[simp] theorem setSwap_frame (s : State) (w : Swap) :
    (setSwap s w).now = s.now ∧ (setSwap s w).timing = s.timing ∧ (setSwap s w).est = s.est ∧ (setSwap s w).gov = s.gov ∧
    (setSwap s w).runner = s.runner ∧ (setSwap s w).dosing = s.dosing ∧ (setSwap s w).lines = s.lines ∧ (setSwap s w).cport = s.cport ∧
    (setSwap s w).dport = s.dport ∧ (setSwap s w).link = s.link ∧ (setSwap s w).settings = s.settings ∧ (setSwap s w).cmd = s.cmd ∧
    (setSwap s w).tel = s.tel ∧ (setSwap s w).report = s.report ∧ (setSwap s w).hand = s.hand ∧ (setSwap s w).mem = s.mem ∧
    (setSwap s w).choices = s.choices ∧ (setSwap s w).pending = s.pending := by
  unfold setSwap; (try dsimp only); (repeat' split) <;> simp

@[simp] theorem commitRecordDone_frame (l : List Byte) (s : State) :
    (commitRecordDone l s).now = s.now ∧ (commitRecordDone l s).timing = s.timing ∧ (commitRecordDone l s).est = s.est ∧ (commitRecordDone l s).gov = s.gov ∧
    (commitRecordDone l s).runner = s.runner ∧ (commitRecordDone l s).dosing = s.dosing ∧ (commitRecordDone l s).lines = s.lines ∧ (commitRecordDone l s).cport = s.cport ∧
    (commitRecordDone l s).dport = s.dport ∧ (commitRecordDone l s).link = s.link ∧ (commitRecordDone l s).settings = s.settings ∧ (commitRecordDone l s).cmd = s.cmd ∧
    (commitRecordDone l s).tel = s.tel ∧ (commitRecordDone l s).hand = s.hand ∧ (commitRecordDone l s).mem = s.mem ∧ (commitRecordDone l s).choices = s.choices ∧
    (commitRecordDone l s).pending = s.pending := by
  unfold commitRecordDone; (try dsimp only); (repeat' split) <;> simp

@[simp] theorem carryReadDone_frame (l : List Byte) (s : State) :
    (carryReadDone l s).now = s.now ∧ (carryReadDone l s).timing = s.timing ∧ (carryReadDone l s).est = s.est ∧ (carryReadDone l s).gov = s.gov ∧
    (carryReadDone l s).runner = s.runner ∧ (carryReadDone l s).dosing = s.dosing ∧ (carryReadDone l s).lines = s.lines ∧ (carryReadDone l s).cport = s.cport ∧
    (carryReadDone l s).dport = s.dport ∧ (carryReadDone l s).link = s.link ∧ (carryReadDone l s).settings = s.settings ∧ (carryReadDone l s).cmd = s.cmd ∧
    (carryReadDone l s).tel = s.tel ∧ (carryReadDone l s).report = s.report ∧ (carryReadDone l s).hand = s.hand ∧ (carryReadDone l s).mem = s.mem ∧
    (carryReadDone l s).choices = s.choices ∧ (carryReadDone l s).pending = s.pending := by
  unfold carryReadDone; (try dsimp only); (repeat' split) <;> simp

@[simp] theorem carryWriteDone_frame (s : State) :
    (carryWriteDone s).now = s.now ∧ (carryWriteDone s).timing = s.timing ∧ (carryWriteDone s).est = s.est ∧ (carryWriteDone s).gov = s.gov ∧
    (carryWriteDone s).runner = s.runner ∧ (carryWriteDone s).dosing = s.dosing ∧ (carryWriteDone s).lines = s.lines ∧ (carryWriteDone s).cport = s.cport ∧
    (carryWriteDone s).dport = s.dport ∧ (carryWriteDone s).link = s.link ∧ (carryWriteDone s).settings = s.settings ∧ (carryWriteDone s).cmd = s.cmd ∧
    (carryWriteDone s).tel = s.tel ∧ (carryWriteDone s).report = s.report ∧ (carryWriteDone s).hand = s.hand ∧ (carryWriteDone s).mem = s.mem ∧
    (carryWriteDone s).choices = s.choices ∧ (carryWriteDone s).pending = s.pending := by
  unfold carryWriteDone; (try dsimp only); (repeat' split) <;> simp

@[simp] theorem flip_frame (l : List Byte) (s : State) :
    (flip l s).now = s.now ∧ (flip l s).timing = s.timing ∧ (flip l s).est = s.est ∧ (flip l s).gov = s.gov ∧
    (flip l s).dosing = s.dosing ∧ (flip l s).lines = s.lines ∧ (flip l s).cport = s.cport ∧ (flip l s).dport = s.dport ∧
    (flip l s).link = s.link ∧ (flip l s).settings = s.settings ∧ (flip l s).cmd = s.cmd ∧ (flip l s).tel = s.tel ∧
    (flip l s).hand = s.hand ∧ (flip l s).mem = s.mem ∧ (flip l s).choices = s.choices ∧ (flip l s).pending = s.pending := by
  unfold flip; (try dsimp only); (repeat' split) <;> simp

@[simp] theorem validatePage_frame (noted : Option Word16) (l : List Byte) (s : State) :
    (validatePage noted l s).now = s.now ∧ (validatePage noted l s).timing = s.timing ∧ (validatePage noted l s).est = s.est ∧ (validatePage noted l s).gov = s.gov ∧
    (validatePage noted l s).dosing = s.dosing ∧ (validatePage noted l s).lines = s.lines ∧ (validatePage noted l s).cport = s.cport ∧ (validatePage noted l s).dport = s.dport ∧
    (validatePage noted l s).link = s.link ∧ (validatePage noted l s).settings = s.settings ∧ (validatePage noted l s).cmd = s.cmd ∧ (validatePage noted l s).tel = s.tel ∧
    (validatePage noted l s).hand = s.hand ∧ (validatePage noted l s).mem = s.mem ∧ (validatePage noted l s).choices = s.choices ∧ (validatePage noted l s).pending = s.pending := by
  unfold validatePage; (try dsimp only); (repeat' split) <;> simp

@[simp] theorem validationDone_frame (l : List Byte) (s : State) :
    (validationDone l s).now = s.now ∧ (validationDone l s).timing = s.timing ∧ (validationDone l s).est = s.est ∧ (validationDone l s).gov = s.gov ∧
    (validationDone l s).dosing = s.dosing ∧ (validationDone l s).lines = s.lines ∧ (validationDone l s).cport = s.cport ∧ (validationDone l s).dport = s.dport ∧
    (validationDone l s).link = s.link ∧ (validationDone l s).settings = s.settings ∧ (validationDone l s).cmd = s.cmd ∧ (validationDone l s).tel = s.tel ∧
    (validationDone l s).hand = s.hand ∧ (validationDone l s).mem = s.mem ∧ (validationDone l s).choices = s.choices ∧ (validationDone l s).pending = s.pending := by
  unfold validationDone; (try dsimp only); (repeat' split) <;> simp

@[simp] theorem swapFailed_frame (s : State) :
    (swapFailed s).now = s.now ∧ (swapFailed s).timing = s.timing ∧ (swapFailed s).est = s.est ∧ (swapFailed s).gov = s.gov ∧
    (swapFailed s).runner = s.runner ∧ (swapFailed s).dosing = s.dosing ∧ (swapFailed s).lines = s.lines ∧ (swapFailed s).cport = s.cport ∧
    (swapFailed s).dport = s.dport ∧ (swapFailed s).link = s.link ∧ (swapFailed s).settings = s.settings ∧ (swapFailed s).cmd = s.cmd ∧
    (swapFailed s).tel = s.tel ∧ (swapFailed s).hand = s.hand ∧ (swapFailed s).mem = s.mem ∧ (swapFailed s).choices = s.choices ∧
    (swapFailed s).pending = s.pending := by
  unfold swapFailed; (try dsimp only); (repeat' split) <;> simp

@[simp] theorem adoptPages_frame (old : TrafficSettings) (s : State) :
    (adoptPages old s).now = s.now ∧ (adoptPages old s).timing = s.timing ∧ (adoptPages old s).est = s.est ∧ (adoptPages old s).gov = s.gov ∧
    (adoptPages old s).runner = s.runner ∧ (adoptPages old s).dosing = s.dosing ∧ (adoptPages old s).lines = s.lines ∧ (adoptPages old s).cport = s.cport ∧
    (adoptPages old s).dport = s.dport ∧ (adoptPages old s).link = s.link ∧ (adoptPages old s).settings = s.settings ∧ (adoptPages old s).cmd = s.cmd ∧
    (adoptPages old s).tel = s.tel ∧ (adoptPages old s).report = s.report ∧ (adoptPages old s).hand = s.hand ∧ (adoptPages old s).mem = s.mem ∧
    (adoptPages old s).choices = s.choices ∧ (adoptPages old s).pending = s.pending := by
  unfold adoptPages; (try dsimp only); (repeat' split) <;> simp

@[simp] theorem setStatus_frame (st : SettingsStatus) (check : Nat) (s : State) :
    (setStatus st check s).now = s.now ∧ (setStatus st check s).timing = s.timing ∧ (setStatus st check s).est = s.est ∧ (setStatus st check s).gov = s.gov ∧
    (setStatus st check s).runner = s.runner ∧ (setStatus st check s).dosing = s.dosing ∧ (setStatus st check s).lines = s.lines ∧ (setStatus st check s).cport = s.cport ∧
    (setStatus st check s).dport = s.dport ∧ (setStatus st check s).link = s.link ∧ (setStatus st check s).pages = s.pages ∧ (setStatus st check s).cmd = s.cmd ∧
    (setStatus st check s).tel = s.tel ∧ (setStatus st check s).hand = s.hand ∧ (setStatus st check s).mem = s.mem ∧ (setStatus st check s).choices = s.choices ∧
    (setStatus st check s).pending = s.pending := by
  unfold setStatus; (try dsimp only); (repeat' split) <;> simp

@[simp] theorem adoptAge_frame (s : State) :
    (adoptAge s).now = s.now ∧ (adoptAge s).timing = s.timing ∧ (adoptAge s).est = s.est ∧ (adoptAge s).gov = s.gov ∧
    (adoptAge s).runner = s.runner ∧ (adoptAge s).dosing = s.dosing ∧ (adoptAge s).lines = s.lines ∧ (adoptAge s).cport = s.cport ∧
    (adoptAge s).dport = s.dport ∧ (adoptAge s).link = s.link ∧ (adoptAge s).settings = s.settings ∧ (adoptAge s).pages = s.pages ∧
    (adoptAge s).cmd = s.cmd ∧ (adoptAge s).report = s.report ∧ (adoptAge s).hand = s.hand ∧ (adoptAge s).mem = s.mem ∧
    (adoptAge s).choices = s.choices ∧ (adoptAge s).pending = s.pending := by
  unfold adoptAge; (try dsimp only); (repeat' split) <;> simp

@[simp] theorem adoptPeriod_frame (old : Settings) (s : State) :
    (adoptPeriod old s).now = s.now ∧ (adoptPeriod old s).timing = s.timing ∧ (adoptPeriod old s).est = s.est ∧ (adoptPeriod old s).gov = s.gov ∧
    (adoptPeriod old s).runner = s.runner ∧ (adoptPeriod old s).dosing = s.dosing ∧ (adoptPeriod old s).lines = s.lines ∧ (adoptPeriod old s).cport = s.cport ∧
    (adoptPeriod old s).dport = s.dport ∧ (adoptPeriod old s).link = s.link ∧ (adoptPeriod old s).settings = s.settings ∧ (adoptPeriod old s).pages = s.pages ∧
    (adoptPeriod old s).cmd = s.cmd ∧ (adoptPeriod old s).tel = s.tel ∧ (adoptPeriod old s).hand = s.hand ∧ (adoptPeriod old s).mem = s.mem ∧
    (adoptPeriod old s).choices = s.choices ∧ (adoptPeriod old s).pending = s.pending := by
  unfold adoptPeriod; (try dsimp only); (repeat' split) <;> simp

@[simp] theorem adoptRing_frame (old : Settings) (s : State) :
    (adoptRing old s).now = s.now ∧ (adoptRing old s).timing = s.timing ∧ (adoptRing old s).est = s.est ∧ (adoptRing old s).gov = s.gov ∧
    (adoptRing old s).runner = s.runner ∧ (adoptRing old s).dosing = s.dosing ∧ (adoptRing old s).lines = s.lines ∧ (adoptRing old s).cport = s.cport ∧
    (adoptRing old s).dport = s.dport ∧ (adoptRing old s).pages = s.pages ∧ (adoptRing old s).cmd = s.cmd ∧ (adoptRing old s).tel = s.tel ∧
    (adoptRing old s).hand = s.hand ∧ (adoptRing old s).mem = s.mem ∧ (adoptRing old s).choices = s.choices ∧ (adoptRing old s).pending = s.pending := by
  unfold adoptRing; (try dsimp only); (repeat' split) <;> simp

@[simp] theorem adoptSettings_frame (new : Settings) (s : State) :
    (adoptSettings new s).now = s.now ∧ (adoptSettings new s).cport = s.cport ∧ (adoptSettings new s).dport = s.dport ∧ (adoptSettings new s).cmd = s.cmd ∧
    (adoptSettings new s).hand = s.hand ∧ (adoptSettings new s).mem = s.mem ∧ (adoptSettings new s).pending = s.pending := by
  unfold adoptSettings; (try dsimp only); (repeat' split) <;> simp

@[simp] theorem beginReread_frame (s : State) :
    (beginReread s).now = s.now ∧ (beginReread s).timing = s.timing ∧ (beginReread s).est = s.est ∧ (beginReread s).gov = s.gov ∧
    (beginReread s).runner = s.runner ∧ (beginReread s).dosing = s.dosing ∧ (beginReread s).lines = s.lines ∧ (beginReread s).cport = s.cport ∧
    (beginReread s).dport = s.dport ∧ (beginReread s).pages = s.pages ∧ (beginReread s).cmd = s.cmd ∧ (beginReread s).tel = s.tel ∧
    (beginReread s).report = s.report ∧ (beginReread s).hand = s.hand ∧ (beginReread s).mem = s.mem ∧ (beginReread s).choices = s.choices ∧
    (beginReread s).pending = s.pending := by
  unfold beginReread; (try dsimp only); (repeat' split) <;> simp

@[simp] theorem judgeImage_frame (l : List Byte) (s : State) :
    (judgeImage l s).now = s.now ∧ (judgeImage l s).cport = s.cport ∧ (judgeImage l s).dport = s.dport ∧ (judgeImage l s).cmd = s.cmd ∧
    (judgeImage l s).hand = s.hand ∧ (judgeImage l s).mem = s.mem ∧ (judgeImage l s).pending = s.pending := by
  unfold judgeImage; (try dsimp only); (repeat' split) <;> simp

@[simp] theorem rereadDone_frame (l : List Byte) (s : State) :
    (rereadDone l s).now = s.now ∧ (rereadDone l s).cport = s.cport ∧ (rereadDone l s).dport = s.dport ∧ (rereadDone l s).cmd = s.cmd ∧
    (rereadDone l s).hand = s.hand ∧ (rereadDone l s).mem = s.mem ∧ (rereadDone l s).pending = s.pending := by
  unfold rereadDone; (try dsimp only); (repeat' split) <;> simp

@[simp] theorem adoptPending_frame (s : State) :
    (adoptPending s).now = s.now ∧ (adoptPending s).cport = s.cport ∧ (adoptPending s).dport = s.dport ∧ (adoptPending s).cmd = s.cmd ∧
    (adoptPending s).hand = s.hand ∧ (adoptPending s).mem = s.mem ∧ (adoptPending s).pending = s.pending := by
  unfold adoptPending; (try dsimp only); (repeat' split) <;> simp

@[simp] theorem openDevice_frame (s : State) :
    (openDevice s).now = s.now ∧ (openDevice s).est = s.est ∧ (openDevice s).gov = s.gov ∧ (openDevice s).runner = s.runner ∧
    (openDevice s).dosing = s.dosing ∧ (openDevice s).cport = s.cport ∧ (openDevice s).dport = s.dport ∧ (openDevice s).link = s.link ∧
    (openDevice s).pages = s.pages ∧ (openDevice s).cmd = s.cmd ∧ (openDevice s).tel = s.tel ∧ (openDevice s).hand = s.hand ∧
    (openDevice s).mem = s.mem ∧ (openDevice s).choices = s.choices ∧ (openDevice s).pending = s.pending := by
  unfold openDevice; (try dsimp only); (repeat' split) <;> simp

@[simp] theorem afterSettings_frame (s : State) :
    (afterSettings s).now = s.now ∧ (afterSettings s).est = s.est ∧ (afterSettings s).gov = s.gov ∧ (afterSettings s).runner = s.runner ∧
    (afterSettings s).dosing = s.dosing ∧ (afterSettings s).cport = s.cport ∧ (afterSettings s).dport = s.dport ∧ (afterSettings s).link = s.link ∧
    (afterSettings s).pages = s.pages ∧ (afterSettings s).cmd = s.cmd ∧ (afterSettings s).tel = s.tel ∧ (afterSettings s).hand = s.hand ∧
    (afterSettings s).mem = s.mem ∧ (afterSettings s).choices = s.choices ∧ (afterSettings s).pending = s.pending := by
  unfold afterSettings; (try dsimp only); (repeat' split) <;> simp

@[simp] theorem startRestricted_frame (check : Nat) (s : State) :
    (startRestricted check s).now = s.now ∧ (startRestricted check s).timing = s.timing ∧ (startRestricted check s).est = s.est ∧ (startRestricted check s).gov = s.gov ∧
    (startRestricted check s).runner = s.runner ∧ (startRestricted check s).dosing = s.dosing ∧ (startRestricted check s).lines = s.lines ∧ (startRestricted check s).cport = s.cport ∧
    (startRestricted check s).dport = s.dport ∧ (startRestricted check s).link = s.link ∧ (startRestricted check s).pages = s.pages ∧ (startRestricted check s).cmd = s.cmd ∧
    (startRestricted check s).tel = s.tel ∧ (startRestricted check s).hand = s.hand ∧ (startRestricted check s).mem = s.mem ∧ (startRestricted check s).choices = s.choices ∧
    (startRestricted check s).pending = s.pending := by
  unfold startRestricted; (try dsimp only); (repeat' split) <;> simp

@[simp] theorem judgeStartup_frame (l : List Byte) (s : State) :
    (judgeStartup l s).now = s.now ∧ (judgeStartup l s).cport = s.cport ∧ (judgeStartup l s).dport = s.dport ∧ (judgeStartup l s).cmd = s.cmd ∧
    (judgeStartup l s).hand = s.hand ∧ (judgeStartup l s).mem = s.mem ∧ (judgeStartup l s).pending = s.pending := by
  unfold judgeStartup; (try dsimp only); (repeat' split) <;> simp

@[simp] theorem startupReadDone_frame (l : List Byte) (s : State) :
    (startupReadDone l s).now = s.now ∧ (startupReadDone l s).cport = s.cport ∧ (startupReadDone l s).dport = s.dport ∧ (startupReadDone l s).cmd = s.cmd ∧
    (startupReadDone l s).hand = s.hand ∧ (startupReadDone l s).mem = s.mem ∧ (startupReadDone l s).pending = s.pending := by
  unfold startupReadDone; (try dsimp only); (repeat' split) <;> simp

@[simp] theorem startupFailed_frame (s : State) :
    (startupFailed s).now = s.now ∧ (startupFailed s).est = s.est ∧ (startupFailed s).gov = s.gov ∧ (startupFailed s).runner = s.runner ∧
    (startupFailed s).dosing = s.dosing ∧ (startupFailed s).cport = s.cport ∧ (startupFailed s).dport = s.dport ∧ (startupFailed s).link = s.link ∧
    (startupFailed s).pages = s.pages ∧ (startupFailed s).cmd = s.cmd ∧ (startupFailed s).tel = s.tel ∧ (startupFailed s).hand = s.hand ∧
    (startupFailed s).mem = s.mem ∧ (startupFailed s).choices = s.choices ∧ (startupFailed s).pending = s.pending := by
  unfold startupFailed; (try dsimp only); (repeat' split) <;> simp

@[simp] theorem startupRetry_frame (s : State) :
    (startupRetry s).now = s.now ∧ (startupRetry s).timing = s.timing ∧ (startupRetry s).est = s.est ∧ (startupRetry s).gov = s.gov ∧
    (startupRetry s).runner = s.runner ∧ (startupRetry s).dosing = s.dosing ∧ (startupRetry s).lines = s.lines ∧ (startupRetry s).cport = s.cport ∧
    (startupRetry s).dport = s.dport ∧ (startupRetry s).link = s.link ∧ (startupRetry s).pages = s.pages ∧ (startupRetry s).cmd = s.cmd ∧
    (startupRetry s).tel = s.tel ∧ (startupRetry s).report = s.report ∧ (startupRetry s).hand = s.hand ∧ (startupRetry s).mem = s.mem ∧
    (startupRetry s).choices = s.choices ∧ (startupRetry s).pending = s.pending := by
  unfold startupRetry; (try dsimp only); (repeat' split) <;> simp

@[simp] theorem endScan_frame (l : List (Nat × Word32)) (s : State) :
    (endScan l s).now = s.now ∧ (endScan l s).est = s.est ∧ (endScan l s).gov = s.gov ∧ (endScan l s).runner = s.runner ∧
    (endScan l s).dosing = s.dosing ∧ (endScan l s).cport = s.cport ∧ (endScan l s).dport = s.dport ∧ (endScan l s).link = s.link ∧
    (endScan l s).pages = s.pages ∧ (endScan l s).cmd = s.cmd ∧ (endScan l s).tel = s.tel ∧ (endScan l s).hand = s.hand ∧
    (endScan l s).mem = s.mem ∧ (endScan l s).choices = s.choices ∧ (endScan l s).pending = s.pending := by
  unfold endScan; (try dsimp only); (repeat' split) <;> simp

@[simp] theorem slotScanned_frame (l : List Byte) (s : State) :
    (slotScanned l s).now = s.now ∧ (slotScanned l s).est = s.est ∧ (slotScanned l s).gov = s.gov ∧ (slotScanned l s).runner = s.runner ∧
    (slotScanned l s).dosing = s.dosing ∧ (slotScanned l s).cport = s.cport ∧ (slotScanned l s).dport = s.dport ∧ (slotScanned l s).link = s.link ∧
    (slotScanned l s).pages = s.pages ∧ (slotScanned l s).cmd = s.cmd ∧ (slotScanned l s).tel = s.tel ∧ (slotScanned l s).hand = s.hand ∧
    (slotScanned l s).mem = s.mem ∧ (slotScanned l s).choices = s.choices ∧ (slotScanned l s).pending = s.pending := by
  unfold slotScanned; (try dsimp only); (repeat' split) <;> simp

@[simp] theorem cutOffWrite_frame (acked : Nat) (s : State) :
    (cutOffWrite acked s).now = s.now ∧ (cutOffWrite acked s).timing = s.timing ∧ (cutOffWrite acked s).est = s.est ∧ (cutOffWrite acked s).gov = s.gov ∧
    (cutOffWrite acked s).runner = s.runner ∧ (cutOffWrite acked s).dosing = s.dosing ∧ (cutOffWrite acked s).lines = s.lines ∧ (cutOffWrite acked s).cport = s.cport ∧
    (cutOffWrite acked s).dport = s.dport ∧ (cutOffWrite acked s).link = s.link ∧ (cutOffWrite acked s).settings = s.settings ∧ (cutOffWrite acked s).pages = s.pages ∧
    (cutOffWrite acked s).cmd = s.cmd ∧ (cutOffWrite acked s).tel = s.tel ∧ (cutOffWrite acked s).report = s.report ∧ (cutOffWrite acked s).hand = s.hand ∧
    (cutOffWrite acked s).choices = s.choices ∧ (cutOffWrite acked s).pending = s.pending := by
  unfold cutOffWrite; (try dsimp only); (repeat' split) <;> simp

@[simp] theorem resetHard_frame (straps : Fin 4) (levels : BitVec 8) (acked : Nat) (s : State) :
    (resetHard straps levels acked s).now = s.now ∧ (resetHard straps levels acked s).choices = s.choices ∧ (resetHard straps levels acked s).pending = s.pending := by
  unfold resetHard; (try dsimp only); (repeat' split) <;> simp

@[simp] theorem resetSoft_frame (levels : BitVec 8) (s : State) :
    (resetSoft levels s).now = s.now ∧ (resetSoft levels s).cmd = s.cmd ∧ (resetSoft levels s).mem = s.mem ∧ (resetSoft levels s).choices = s.choices ∧
    (resetSoft levels s).pending = s.pending := by
  unfold resetSoft; (try dsimp only); (repeat' split) <;> simp

@[simp] theorem leaveDrainWait_frame (s : State) :
    (leaveDrainWait s).now = s.now ∧ (leaveDrainWait s).timing = s.timing ∧ (leaveDrainWait s).est = s.est ∧ (leaveDrainWait s).gov = s.gov ∧
    (leaveDrainWait s).runner = s.runner ∧ (leaveDrainWait s).dosing = s.dosing ∧ (leaveDrainWait s).lines = s.lines ∧ (leaveDrainWait s).cport = s.cport ∧
    (leaveDrainWait s).dport = s.dport ∧ (leaveDrainWait s).link = s.link ∧ (leaveDrainWait s).pages = s.pages ∧ (leaveDrainWait s).cmd = s.cmd ∧
    (leaveDrainWait s).tel = s.tel ∧ (leaveDrainWait s).report = s.report ∧ (leaveDrainWait s).hand = s.hand ∧ (leaveDrainWait s).mem = s.mem ∧
    (leaveDrainWait s).choices = s.choices ∧ (leaveDrainWait s).pending = s.pending := by
  unfold leaveDrainWait; (try dsimp only); (repeat' split) <;> simp

@[simp] theorem jobFailed_frame (j : Job) (s : State) :
    (jobFailed j s).now = s.now ∧ (jobFailed j s).est = s.est ∧ (jobFailed j s).gov = s.gov ∧ (jobFailed j s).runner = s.runner ∧
    (jobFailed j s).dosing = s.dosing ∧ (jobFailed j s).cport = s.cport ∧ (jobFailed j s).dport = s.dport ∧ (jobFailed j s).link = s.link ∧
    (jobFailed j s).cmd = s.cmd ∧ (jobFailed j s).tel = s.tel ∧ (jobFailed j s).hand = s.hand ∧ (jobFailed j s).mem = s.mem ∧
    (jobFailed j s).choices = s.choices ∧ (jobFailed j s).pending = s.pending := by
  unfold jobFailed; (try dsimp only); (repeat' split) <;> simp

@[simp] theorem drainFailed_frame (p : Port) (taken : Nat) (cause : FailCause) (s : State) :
    (drainFailed p taken cause s).now = s.now ∧ (drainFailed p taken cause s).timing = s.timing ∧ (drainFailed p taken cause s).est = s.est ∧ (drainFailed p taken cause s).gov = s.gov ∧
    (drainFailed p taken cause s).runner = s.runner ∧ (drainFailed p taken cause s).dosing = s.dosing ∧ (drainFailed p taken cause s).lines = s.lines ∧ (drainFailed p taken cause s).link = s.link ∧
    (drainFailed p taken cause s).settings = s.settings ∧ (drainFailed p taken cause s).pages = s.pages ∧ (drainFailed p taken cause s).cmd = s.cmd ∧ (drainFailed p taken cause s).tel = s.tel ∧
    (drainFailed p taken cause s).hand = s.hand ∧ (drainFailed p taken cause s).mem = s.mem ∧ (drainFailed p taken cause s).choices = s.choices ∧ (drainFailed p taken cause s).pending = s.pending := by
  unfold drainFailed; (try dsimp only); (repeat' split) <;> simp

@[simp] theorem byteFailed_frame (p : Port) (s : State) :
    (byteFailed p s).now = s.now ∧ (byteFailed p s).timing = s.timing ∧ (byteFailed p s).est = s.est ∧ (byteFailed p s).gov = s.gov ∧
    (byteFailed p s).runner = s.runner ∧ (byteFailed p s).dosing = s.dosing ∧ (byteFailed p s).lines = s.lines ∧ (byteFailed p s).link = s.link ∧
    (byteFailed p s).settings = s.settings ∧ (byteFailed p s).pages = s.pages ∧ (byteFailed p s).cmd = s.cmd ∧ (byteFailed p s).tel = s.tel ∧
    (byteFailed p s).report = s.report ∧ (byteFailed p s).hand = s.hand ∧ (byteFailed p s).mem = s.mem ∧ (byteFailed p s).choices = s.choices ∧
    (byteFailed p s).pending = s.pending := by
  unfold byteFailed; (try dsimp only); (repeat' split) <;> simp

@[simp] theorem partialWrite_frame (j : Job) (cause : FailCause) (s : State) :
    (partialWrite j cause s).now = s.now ∧ (partialWrite j cause s).timing = s.timing ∧ (partialWrite j cause s).est = s.est ∧ (partialWrite j cause s).gov = s.gov ∧
    (partialWrite j cause s).runner = s.runner ∧ (partialWrite j cause s).dosing = s.dosing ∧ (partialWrite j cause s).lines = s.lines ∧ (partialWrite j cause s).cport = s.cport ∧
    (partialWrite j cause s).dport = s.dport ∧ (partialWrite j cause s).link = s.link ∧ (partialWrite j cause s).settings = s.settings ∧ (partialWrite j cause s).pages = s.pages ∧
    (partialWrite j cause s).cmd = s.cmd ∧ (partialWrite j cause s).tel = s.tel ∧ (partialWrite j cause s).report = s.report ∧ (partialWrite j cause s).hand = s.hand ∧
    (partialWrite j cause s).choices = s.choices ∧ (partialWrite j cause s).pending = s.pending := by
  unfold partialWrite; (try dsimp only); (repeat' split) <;> simp

@[simp] theorem failTransfer_frame (cause : FailCause) (s : State) :
    (failTransfer cause s).now = s.now ∧ (failTransfer cause s).est = s.est ∧ (failTransfer cause s).gov = s.gov ∧ (failTransfer cause s).runner = s.runner ∧
    (failTransfer cause s).dosing = s.dosing ∧ (failTransfer cause s).cmd = s.cmd ∧ (failTransfer cause s).tel = s.tel ∧ (failTransfer cause s).hand = s.hand ∧
    (failTransfer cause s).choices = s.choices ∧ (failTransfer cause s).pending = s.pending := by
  unfold failTransfer; (try dsimp only); (repeat' split) <;> simp

@[simp] theorem clearCrossCounts_frame (s : State) :
    (clearCrossCounts s).now = s.now ∧ (clearCrossCounts s).timing = s.timing ∧ (clearCrossCounts s).est = s.est ∧ (clearCrossCounts s).gov = s.gov ∧
    (clearCrossCounts s).runner = s.runner ∧ (clearCrossCounts s).dosing = s.dosing ∧ (clearCrossCounts s).lines = s.lines ∧ (clearCrossCounts s).cport = s.cport ∧
    (clearCrossCounts s).dport = s.dport ∧ (clearCrossCounts s).link = s.link ∧ (clearCrossCounts s).settings = s.settings ∧ (clearCrossCounts s).pages = s.pages ∧
    (clearCrossCounts s).cmd = s.cmd ∧ (clearCrossCounts s).report = s.report ∧ (clearCrossCounts s).hand = s.hand ∧ (clearCrossCounts s).mem = s.mem ∧
    (clearCrossCounts s).choices = s.choices ∧ (clearCrossCounts s).pending = s.pending := by
  unfold clearCrossCounts; (try dsimp only); (repeat' split) <;> simp

@[simp] theorem setStanding_frame (standing : Bool) (s : State) :
    (setStanding standing s).now = s.now ∧ (setStanding standing s).timing = s.timing ∧ (setStanding standing s).gov = s.gov ∧ (setStanding standing s).cport = s.cport ∧
    (setStanding standing s).dport = s.dport ∧ (setStanding standing s).link = s.link ∧ (setStanding standing s).settings = s.settings ∧ (setStanding standing s).pages = s.pages ∧
    (setStanding standing s).cmd = s.cmd ∧ (setStanding standing s).hand = s.hand ∧ (setStanding standing s).mem = s.mem ∧ (setStanding standing s).choices = s.choices ∧
    (setStanding standing s).pending = s.pending := by
  unfold setStanding; (try dsimp only); (repeat' split) <;> simp

@[simp] theorem crossCount_frame (disagrees : Bool) (s : State) :
    (crossCount disagrees s).now = s.now ∧ (crossCount disagrees s).timing = s.timing ∧ (crossCount disagrees s).gov = s.gov ∧ (crossCount disagrees s).cport = s.cport ∧
    (crossCount disagrees s).dport = s.dport ∧ (crossCount disagrees s).link = s.link ∧ (crossCount disagrees s).settings = s.settings ∧ (crossCount disagrees s).pages = s.pages ∧
    (crossCount disagrees s).cmd = s.cmd ∧ (crossCount disagrees s).hand = s.hand ∧ (crossCount disagrees s).mem = s.mem ∧ (crossCount disagrees s).choices = s.choices ∧
    (crossCount disagrees s).pending = s.pending := by
  unfold crossCount; (try dsimp only); (repeat' split) <;> simp

@[simp] theorem crossCheck_frame (drive : Nat) (s : State) :
    (crossCheck drive s).now = s.now ∧ (crossCheck drive s).timing = s.timing ∧ (crossCheck drive s).gov = s.gov ∧ (crossCheck drive s).cport = s.cport ∧
    (crossCheck drive s).dport = s.dport ∧ (crossCheck drive s).link = s.link ∧ (crossCheck drive s).settings = s.settings ∧ (crossCheck drive s).pages = s.pages ∧
    (crossCheck drive s).cmd = s.cmd ∧ (crossCheck drive s).hand = s.hand ∧ (crossCheck drive s).mem = s.mem ∧ (crossCheck drive s).choices = s.choices ∧
    (crossCheck drive s).pending = s.pending := by
  unfold crossCheck; (try dsimp only); (repeat' split) <;> simp

@[simp] theorem driveCheck_frame (r : TelRecord) (s : State) :
    (driveCheck r s).now = s.now ∧ (driveCheck r s).timing = s.timing ∧ (driveCheck r s).cport = s.cport ∧ (driveCheck r s).dport = s.dport ∧
    (driveCheck r s).link = s.link ∧ (driveCheck r s).settings = s.settings ∧ (driveCheck r s).pages = s.pages ∧ (driveCheck r s).cmd = s.cmd ∧
    (driveCheck r s).hand = s.hand ∧ (driveCheck r s).mem = s.mem ∧ (driveCheck r s).pending = s.pending := by
  unfold driveCheck; (try dsimp only); (repeat' split) <;> simp

@[simp] theorem adoptRecord_frame (r : TelRecord) (fresh : Bool) (s : State) :
    (adoptRecord r fresh s).now = s.now ∧ (adoptRecord r fresh s).timing = s.timing ∧ (adoptRecord r fresh s).est = s.est ∧ (adoptRecord r fresh s).gov = s.gov ∧
    (adoptRecord r fresh s).runner = s.runner ∧ (adoptRecord r fresh s).dosing = s.dosing ∧ (adoptRecord r fresh s).lines = s.lines ∧ (adoptRecord r fresh s).cport = s.cport ∧
    (adoptRecord r fresh s).dport = s.dport ∧ (adoptRecord r fresh s).link = s.link ∧ (adoptRecord r fresh s).settings = s.settings ∧ (adoptRecord r fresh s).pages = s.pages ∧
    (adoptRecord r fresh s).cmd = s.cmd ∧ (adoptRecord r fresh s).report = s.report ∧ (adoptRecord r fresh s).hand = s.hand ∧ (adoptRecord r fresh s).mem = s.mem ∧
    (adoptRecord r fresh s).choices = s.choices ∧ (adoptRecord r fresh s).pending = s.pending := by
  unfold adoptRecord; (try dsimp only); (repeat' split) <;> simp

@[simp] theorem adoptTelemetry_frame (s : State) :
    (adoptTelemetry s).now = s.now ∧ (adoptTelemetry s).timing = s.timing ∧ (adoptTelemetry s).cport = s.cport ∧ (adoptTelemetry s).dport = s.dport ∧
    (adoptTelemetry s).link = s.link ∧ (adoptTelemetry s).settings = s.settings ∧ (adoptTelemetry s).pages = s.pages ∧ (adoptTelemetry s).cmd = s.cmd ∧
    (adoptTelemetry s).hand = s.hand ∧ (adoptTelemetry s).mem = s.mem ∧ (adoptTelemetry s).pending = s.pending := by
  unfold adoptTelemetry; (try dsimp only); (repeat' split) <;> simp

@[simp] theorem ageExpires_frame (s : State) :
    (ageExpires s).now = s.now ∧ (ageExpires s).timing = s.timing ∧ (ageExpires s).cport = s.cport ∧ (ageExpires s).dport = s.dport ∧
    (ageExpires s).link = s.link ∧ (ageExpires s).settings = s.settings ∧ (ageExpires s).pages = s.pages ∧ (ageExpires s).cmd = s.cmd ∧
    (ageExpires s).hand = s.hand ∧ (ageExpires s).mem = s.mem ∧ (ageExpires s).choices = s.choices ∧ (ageExpires s).pending = s.pending := by
  unfold ageExpires; (try dsimp only); (repeat' split) <;> simp

@[simp] theorem taken_frame (s : State) :
    (taken s).state.now = s.now ∧ (taken s).state.timing = s.timing ∧ (taken s).state.est = s.est ∧ (taken s).state.gov = s.gov ∧
    (taken s).state.runner = s.runner ∧ (taken s).state.dosing = s.dosing ∧ (taken s).state.lines = s.lines ∧ (taken s).state.cport = s.cport ∧
    (taken s).state.dport = s.dport ∧ (taken s).state.link = s.link ∧ (taken s).state.settings = s.settings ∧ (taken s).state.pages = s.pages ∧
    (taken s).state.cmd = s.cmd ∧ (taken s).state.tel = s.tel ∧ (taken s).state.report = s.report ∧ (taken s).state.hand = s.hand ∧
    (taken s).state.mem = s.mem ∧ (taken s).state.choices = s.choices ∧ (taken s).state.pending = s.pending := by
  unfold taken; (try dsimp only); (repeat' split) <;> simp

@[simp] theorem refusedWith_frame (r : CmdResult) (s : State) :
    (refusedWith r s).state.now = s.now ∧ (refusedWith r s).state.timing = s.timing ∧ (refusedWith r s).state.est = s.est ∧ (refusedWith r s).state.gov = s.gov ∧
    (refusedWith r s).state.runner = s.runner ∧ (refusedWith r s).state.dosing = s.dosing ∧ (refusedWith r s).state.lines = s.lines ∧ (refusedWith r s).state.cport = s.cport ∧
    (refusedWith r s).state.dport = s.dport ∧ (refusedWith r s).state.link = s.link ∧ (refusedWith r s).state.settings = s.settings ∧ (refusedWith r s).state.pages = s.pages ∧
    (refusedWith r s).state.cmd = s.cmd ∧ (refusedWith r s).state.tel = s.tel ∧ (refusedWith r s).state.report = s.report ∧ (refusedWith r s).state.hand = s.hand ∧
    (refusedWith r s).state.mem = s.mem ∧ (refusedWith r s).state.choices = s.choices ∧ (refusedWith r s).state.pending = s.pending := by
  unfold refusedWith; (try dsimp only); (repeat' split) <;> simp

@[simp] theorem storeResult_frame (r : CmdResult) (mask : Byte) (s : State) :
    (storeResult r mask s).now = s.now ∧ (storeResult r mask s).timing = s.timing ∧ (storeResult r mask s).est = s.est ∧ (storeResult r mask s).gov = s.gov ∧
    (storeResult r mask s).runner = s.runner ∧ (storeResult r mask s).dosing = s.dosing ∧ (storeResult r mask s).lines = s.lines ∧ (storeResult r mask s).cport = s.cport ∧
    (storeResult r mask s).dport = s.dport ∧ (storeResult r mask s).link = s.link ∧ (storeResult r mask s).settings = s.settings ∧ (storeResult r mask s).pages = s.pages ∧
    (storeResult r mask s).tel = s.tel ∧ (storeResult r mask s).hand = s.hand ∧ (storeResult r mask s).mem = s.mem ∧ (storeResult r mask s).choices = s.choices ∧
    (storeResult r mask s).pending = s.pending := by
  unfold storeResult; (try dsimp only); (repeat' split) <;> simp

@[simp] theorem markTaken_frame (s : State) :
    (markTaken s).now = s.now ∧ (markTaken s).timing = s.timing ∧ (markTaken s).est = s.est ∧ (markTaken s).gov = s.gov ∧
    (markTaken s).runner = s.runner ∧ (markTaken s).dosing = s.dosing ∧ (markTaken s).lines = s.lines ∧ (markTaken s).cport = s.cport ∧
    (markTaken s).dport = s.dport ∧ (markTaken s).link = s.link ∧ (markTaken s).settings = s.settings ∧ (markTaken s).pages = s.pages ∧
    (markTaken s).tel = s.tel ∧ (markTaken s).report = s.report ∧ (markTaken s).mem = s.mem ∧ (markTaken s).choices = s.choices ∧
    (markTaken s).pending = s.pending := by
  unfold markTaken; (try dsimp only); (repeat' split) <;> simp

@[simp] theorem takeUp_now (c : Byte → Bool) {body : State → Taken} (h : ∀ u, (body u).state.now = u.now) (s : State) :
    (takeUp c body s).now = s.now := by
  unfold takeUp; (try dsimp only); (repeat' split) <;> simp [h]

@[simp] theorem takeUp_timing (c : Byte → Bool) {body : State → Taken} (h : ∀ u, (body u).state.timing = u.timing) (s : State) :
    (takeUp c body s).timing = s.timing := by
  unfold takeUp; (try dsimp only); (repeat' split) <;> simp [h]

@[simp] theorem takeUp_est (c : Byte → Bool) {body : State → Taken} (h : ∀ u, (body u).state.est = u.est) (s : State) :
    (takeUp c body s).est = s.est := by
  unfold takeUp; (try dsimp only); (repeat' split) <;> simp [h]

@[simp] theorem takeUp_gov (c : Byte → Bool) {body : State → Taken} (h : ∀ u, (body u).state.gov = u.gov) (s : State) :
    (takeUp c body s).gov = s.gov := by
  unfold takeUp; (try dsimp only); (repeat' split) <;> simp [h]

@[simp] theorem takeUp_runner (c : Byte → Bool) {body : State → Taken} (h : ∀ u, (body u).state.runner = u.runner) (s : State) :
    (takeUp c body s).runner = s.runner := by
  unfold takeUp; (try dsimp only); (repeat' split) <;> simp [h]

@[simp] theorem takeUp_dosing (c : Byte → Bool) {body : State → Taken} (h : ∀ u, (body u).state.dosing = u.dosing) (s : State) :
    (takeUp c body s).dosing = s.dosing := by
  unfold takeUp; (try dsimp only); (repeat' split) <;> simp [h]

@[simp] theorem takeUp_lines (c : Byte → Bool) {body : State → Taken} (h : ∀ u, (body u).state.lines = u.lines) (s : State) :
    (takeUp c body s).lines = s.lines := by
  unfold takeUp; (try dsimp only); (repeat' split) <;> simp [h]

@[simp] theorem takeUp_cport (c : Byte → Bool) {body : State → Taken} (h : ∀ u, (body u).state.cport = u.cport) (s : State) :
    (takeUp c body s).cport = s.cport := by
  unfold takeUp; (try dsimp only); (repeat' split) <;> simp [h]

@[simp] theorem takeUp_dport (c : Byte → Bool) {body : State → Taken} (h : ∀ u, (body u).state.dport = u.dport) (s : State) :
    (takeUp c body s).dport = s.dport := by
  unfold takeUp; (try dsimp only); (repeat' split) <;> simp [h]

@[simp] theorem takeUp_link (c : Byte → Bool) {body : State → Taken} (h : ∀ u, (body u).state.link = u.link) (s : State) :
    (takeUp c body s).link = s.link := by
  unfold takeUp; (try dsimp only); (repeat' split) <;> simp [h]

@[simp] theorem takeUp_settings (c : Byte → Bool) {body : State → Taken} (h : ∀ u, (body u).state.settings = u.settings) (s : State) :
    (takeUp c body s).settings = s.settings := by
  unfold takeUp; (try dsimp only); (repeat' split) <;> simp [h]

@[simp] theorem takeUp_pages (c : Byte → Bool) {body : State → Taken} (h : ∀ u, (body u).state.pages = u.pages) (s : State) :
    (takeUp c body s).pages = s.pages := by
  unfold takeUp; (try dsimp only); (repeat' split) <;> simp [h]

@[simp] theorem takeUp_tel (c : Byte → Bool) {body : State → Taken} (h : ∀ u, (body u).state.tel = u.tel) (s : State) :
    (takeUp c body s).tel = s.tel := by
  unfold takeUp; (try dsimp only); (repeat' split) <;> simp [h]

@[simp] theorem takeUp_mem (c : Byte → Bool) {body : State → Taken} (h : ∀ u, (body u).state.mem = u.mem) (s : State) :
    (takeUp c body s).mem = s.mem := by
  unfold takeUp; (try dsimp only); (repeat' split) <;> simp [h]

@[simp] theorem takeUp_choices (c : Byte → Bool) {body : State → Taken} (h : ∀ u, (body u).state.choices = u.choices) (s : State) :
    (takeUp c body s).choices = s.choices := by
  unfold takeUp; (try dsimp only); (repeat' split) <;> simp [h]

@[simp] theorem takeUp_pending (c : Byte → Bool) {body : State → Taken} (h : ∀ u, (body u).state.pending = u.pending) (s : State) :
    (takeUp c body s).pending = s.pending := by
  unfold takeUp; (try dsimp only); (repeat' split) <;> simp [h]

@[simp] theorem startPlan_frame (s : State) :
    (startPlan s).state.now = s.now ∧ (startPlan s).state.timing = s.timing ∧ (startPlan s).state.cport = s.cport ∧ (startPlan s).state.dport = s.dport ∧
    (startPlan s).state.link = s.link ∧ (startPlan s).state.settings = s.settings ∧ (startPlan s).state.pages = s.pages ∧ (startPlan s).state.cmd = s.cmd ∧
    (startPlan s).state.tel = s.tel ∧ (startPlan s).state.hand = s.hand ∧ (startPlan s).state.mem = s.mem ∧ (startPlan s).state.choices = s.choices ∧
    (startPlan s).state.pending = s.pending := by
  unfold startPlan; (try dsimp only); (repeat' split) <;> simp

@[simp] theorem stopGovernor_frame (s : State) :
    (stopGovernor s).now = s.now ∧ (stopGovernor s).timing = s.timing ∧ (stopGovernor s).cport = s.cport ∧ (stopGovernor s).dport = s.dport ∧
    (stopGovernor s).link = s.link ∧ (stopGovernor s).settings = s.settings ∧ (stopGovernor s).pages = s.pages ∧ (stopGovernor s).cmd = s.cmd ∧
    (stopGovernor s).tel = s.tel ∧ (stopGovernor s).hand = s.hand ∧ (stopGovernor s).mem = s.mem ∧ (stopGovernor s).choices = s.choices ∧
    (stopGovernor s).pending = s.pending := by
  unfold stopGovernor; (try dsimp only); (repeat' split) <;> simp

@[simp] theorem stopPlan_frame (s : State) :
    (stopPlan s).state.now = s.now ∧ (stopPlan s).state.timing = s.timing ∧ (stopPlan s).state.cport = s.cport ∧ (stopPlan s).state.dport = s.dport ∧
    (stopPlan s).state.link = s.link ∧ (stopPlan s).state.settings = s.settings ∧ (stopPlan s).state.pages = s.pages ∧ (stopPlan s).state.cmd = s.cmd ∧
    (stopPlan s).state.tel = s.tel ∧ (stopPlan s).state.hand = s.hand ∧ (stopPlan s).state.mem = s.mem ∧ (stopPlan s).state.choices = s.choices ∧
    (stopPlan s).state.pending = s.pending := by
  unfold stopPlan; (try dsimp only); (repeat' split) <;> simp

@[simp] theorem haltNow_frame (s : State) :
    (haltNow s).state.now = s.now ∧ (haltNow s).state.timing = s.timing ∧ (haltNow s).state.cport = s.cport ∧ (haltNow s).state.dport = s.dport ∧
    (haltNow s).state.link = s.link ∧ (haltNow s).state.settings = s.settings ∧ (haltNow s).state.pages = s.pages ∧ (haltNow s).state.cmd = s.cmd ∧
    (haltNow s).state.tel = s.tel ∧ (haltNow s).state.hand = s.hand ∧ (haltNow s).state.mem = s.mem ∧ (haltNow s).state.choices = s.choices ∧
    (haltNow s).state.pending = s.pending := by
  unfold haltNow; (try dsimp only); (repeat' split) <;> simp

@[simp] theorem resumePlan_frame (s : State) :
    (resumePlan s).state.now = s.now ∧ (resumePlan s).state.timing = s.timing ∧ (resumePlan s).state.cport = s.cport ∧ (resumePlan s).state.dport = s.dport ∧
    (resumePlan s).state.link = s.link ∧ (resumePlan s).state.settings = s.settings ∧ (resumePlan s).state.pages = s.pages ∧ (resumePlan s).state.cmd = s.cmd ∧
    (resumePlan s).state.tel = s.tel ∧ (resumePlan s).state.hand = s.hand ∧ (resumePlan s).state.mem = s.mem ∧ (resumePlan s).state.choices = s.choices ∧
    (resumePlan s).state.pending = s.pending := by
  unfold resumePlan; (try dsimp only); (repeat' split) <;> simp

@[simp] theorem doseNow_frame (s : State) :
    (doseNow s).state.now = s.now ∧ (doseNow s).state.timing = s.timing ∧ (doseNow s).state.est = s.est ∧ (doseNow s).state.gov = s.gov ∧
    (doseNow s).state.runner = s.runner ∧ (doseNow s).state.lines = s.lines ∧ (doseNow s).state.cport = s.cport ∧ (doseNow s).state.dport = s.dport ∧
    (doseNow s).state.link = s.link ∧ (doseNow s).state.settings = s.settings ∧ (doseNow s).state.pages = s.pages ∧ (doseNow s).state.cmd = s.cmd ∧
    (doseNow s).state.tel = s.tel ∧ (doseNow s).state.report = s.report ∧ (doseNow s).state.hand = s.hand ∧ (doseNow s).state.mem = s.mem ∧
    (doseNow s).state.choices = s.choices ∧ (doseNow s).state.pending = s.pending := by
  unfold doseNow; (try dsimp only); (repeat' split) <;> simp

@[simp] theorem cancelDoses_frame (s : State) :
    (cancelDoses s).state.now = s.now ∧ (cancelDoses s).state.timing = s.timing ∧ (cancelDoses s).state.gov = s.gov ∧ (cancelDoses s).state.cport = s.cport ∧
    (cancelDoses s).state.dport = s.dport ∧ (cancelDoses s).state.link = s.link ∧ (cancelDoses s).state.settings = s.settings ∧ (cancelDoses s).state.pages = s.pages ∧
    (cancelDoses s).state.cmd = s.cmd ∧ (cancelDoses s).state.tel = s.tel ∧ (cancelDoses s).state.hand = s.hand ∧ (cancelDoses s).state.mem = s.mem ∧
    (cancelDoses s).state.choices = s.choices ∧ (cancelDoses s).state.pending = s.pending := by
  unfold cancelDoses; (try dsimp only); (repeat' split) <;> simp

@[simp] theorem setLines_frame (s : State) :
    (setLines s).state.now = s.now ∧ (setLines s).state.timing = s.timing ∧ (setLines s).state.est = s.est ∧ (setLines s).state.gov = s.gov ∧
    (setLines s).state.runner = s.runner ∧ (setLines s).state.dosing = s.dosing ∧ (setLines s).state.cport = s.cport ∧ (setLines s).state.dport = s.dport ∧
    (setLines s).state.link = s.link ∧ (setLines s).state.settings = s.settings ∧ (setLines s).state.pages = s.pages ∧ (setLines s).state.cmd = s.cmd ∧
    (setLines s).state.tel = s.tel ∧ (setLines s).state.report = s.report ∧ (setLines s).state.hand = s.hand ∧ (setLines s).state.mem = s.mem ∧
    (setLines s).state.choices = s.choices ∧ (setLines s).state.pending = s.pending := by
  unfold setLines; (try dsimp only); (repeat' split) <;> simp

@[simp] theorem clearLatches_frame (mask : BitVec 11) (s : State) :
    (clearLatches mask s).now = s.now ∧ (clearLatches mask s).timing = s.timing ∧ (clearLatches mask s).est = s.est ∧ (clearLatches mask s).gov = s.gov ∧
    (clearLatches mask s).runner = s.runner ∧ (clearLatches mask s).dosing = s.dosing ∧ (clearLatches mask s).lines = s.lines ∧ (clearLatches mask s).cport = s.cport ∧
    (clearLatches mask s).dport = s.dport ∧ (clearLatches mask s).link = s.link ∧ (clearLatches mask s).settings = s.settings ∧ (clearLatches mask s).pages = s.pages ∧
    (clearLatches mask s).cmd = s.cmd ∧ (clearLatches mask s).tel = s.tel ∧ (clearLatches mask s).hand = s.hand ∧ (clearLatches mask s).mem = s.mem ∧
    (clearLatches mask s).choices = s.choices ∧ (clearLatches mask s).pending = s.pending := by
  unfold clearLatches; (try dsimp only); (repeat' split) <;> simp

@[simp] theorem ackFaults_frame (s : State) :
    (ackFaults s).state.now = s.now ∧ (ackFaults s).state.timing = s.timing ∧ (ackFaults s).state.est = s.est ∧ (ackFaults s).state.gov = s.gov ∧
    (ackFaults s).state.runner = s.runner ∧ (ackFaults s).state.dosing = s.dosing ∧ (ackFaults s).state.lines = s.lines ∧ (ackFaults s).state.cport = s.cport ∧
    (ackFaults s).state.dport = s.dport ∧ (ackFaults s).state.link = s.link ∧ (ackFaults s).state.settings = s.settings ∧ (ackFaults s).state.pages = s.pages ∧
    (ackFaults s).state.cmd = s.cmd ∧ (ackFaults s).state.tel = s.tel ∧ (ackFaults s).state.hand = s.hand ∧ (ackFaults s).state.mem = s.mem ∧
    (ackFaults s).state.choices = s.choices ∧ (ackFaults s).state.pending = s.pending := by
  unfold ackFaults; (try dsimp only); (repeat' split) <;> simp

@[simp] theorem clearAccess_frame (s : State) :
    (clearAccess s).state.now = s.now ∧ (clearAccess s).state.timing = s.timing ∧ (clearAccess s).state.est = s.est ∧ (clearAccess s).state.gov = s.gov ∧
    (clearAccess s).state.runner = s.runner ∧ (clearAccess s).state.dosing = s.dosing ∧ (clearAccess s).state.lines = s.lines ∧ (clearAccess s).state.cport = s.cport ∧
    (clearAccess s).state.dport = s.dport ∧ (clearAccess s).state.link = s.link ∧ (clearAccess s).state.settings = s.settings ∧ (clearAccess s).state.pages = s.pages ∧
    (clearAccess s).state.cmd = s.cmd ∧ (clearAccess s).state.tel = s.tel ∧ (clearAccess s).state.hand = s.hand ∧ (clearAccess s).state.mem = s.mem ∧
    (clearAccess s).state.choices = s.choices ∧ (clearAccess s).state.pending = s.pending := by
  unfold clearAccess; (try dsimp only); (repeat' split) <;> simp

@[simp] theorem reportNow_frame (s : State) :
    (reportNow s).state.now = s.now ∧ (reportNow s).state.timing = s.timing ∧ (reportNow s).state.est = s.est ∧ (reportNow s).state.gov = s.gov ∧
    (reportNow s).state.runner = s.runner ∧ (reportNow s).state.dosing = s.dosing ∧ (reportNow s).state.lines = s.lines ∧ (reportNow s).state.cport = s.cport ∧
    (reportNow s).state.dport = s.dport ∧ (reportNow s).state.link = s.link ∧ (reportNow s).state.settings = s.settings ∧ (reportNow s).state.pages = s.pages ∧
    (reportNow s).state.cmd = s.cmd ∧ (reportNow s).state.tel = s.tel ∧ (reportNow s).state.report = s.report ∧ (reportNow s).state.hand = s.hand ∧
    (reportNow s).state.mem = s.mem ∧ (reportNow s).state.choices = s.choices ∧ (reportNow s).state.pending = s.pending := by
  unfold reportNow; (try dsimp only); (repeat' split) <;> simp

@[simp] theorem unknownCode_frame (s : State) :
    (unknownCode s).state.now = s.now ∧ (unknownCode s).state.timing = s.timing ∧ (unknownCode s).state.est = s.est ∧ (unknownCode s).state.gov = s.gov ∧
    (unknownCode s).state.runner = s.runner ∧ (unknownCode s).state.dosing = s.dosing ∧ (unknownCode s).state.lines = s.lines ∧ (unknownCode s).state.cport = s.cport ∧
    (unknownCode s).state.dport = s.dport ∧ (unknownCode s).state.link = s.link ∧ (unknownCode s).state.settings = s.settings ∧ (unknownCode s).state.pages = s.pages ∧
    (unknownCode s).state.cmd = s.cmd ∧ (unknownCode s).state.tel = s.tel ∧ (unknownCode s).state.report = s.report ∧ (unknownCode s).state.hand = s.hand ∧
    (unknownCode s).state.mem = s.mem ∧ (unknownCode s).state.choices = s.choices ∧ (unknownCode s).state.pending = s.pending := by
  unfold unknownCode; (try dsimp only); (repeat' split) <;> simp

@[simp] theorem restartNow_frame (levels : BitVec 8) (s : State) :
    (restartNow levels s).now = s.now ∧ (restartNow levels s).mem = s.mem ∧ (restartNow levels s).choices = s.choices ∧ (restartNow levels s).pending = s.pending := by
  unfold restartNow; (try dsimp only); (repeat' split) <;> simp

@[simp] theorem releaseEdit_frame (p : Port) (s : State) :
    (releaseEdit p s).now = s.now ∧ (releaseEdit p s).timing = s.timing ∧ (releaseEdit p s).est = s.est ∧ (releaseEdit p s).gov = s.gov ∧
    (releaseEdit p s).runner = s.runner ∧ (releaseEdit p s).dosing = s.dosing ∧ (releaseEdit p s).lines = s.lines ∧ (releaseEdit p s).settings = s.settings ∧
    (releaseEdit p s).report = s.report ∧ (releaseEdit p s).hand = s.hand ∧ (releaseEdit p s).mem = s.mem ∧ (releaseEdit p s).choices = s.choices ∧
    (releaseEdit p s).pending = s.pending := by
  unfold releaseEdit; (try dsimp only); (repeat' split) <;> simp

@[simp] theorem releasePost_frame (p : Port) (s : State) :
    (releasePost p s).now = s.now ∧ (releasePost p s).timing = s.timing ∧ (releasePost p s).est = s.est ∧ (releasePost p s).gov = s.gov ∧
    (releasePost p s).runner = s.runner ∧ (releasePost p s).dosing = s.dosing ∧ (releasePost p s).lines = s.lines ∧ (releasePost p s).link = s.link ∧
    (releasePost p s).settings = s.settings ∧ (releasePost p s).pages = s.pages ∧ (releasePost p s).cmd = s.cmd ∧ (releasePost p s).tel = s.tel ∧
    (releasePost p s).report = s.report ∧ (releasePost p s).hand = s.hand ∧ (releasePost p s).mem = s.mem ∧ (releasePost p s).choices = s.choices ∧
    (releasePost p s).pending = s.pending := by
  unfold releasePost; (try dsimp only); (repeat' split) <;> simp

@[simp] theorem releaseStart_frame (p : Port) (s : State) :
    (releaseStart p s).now = s.now ∧ (releaseStart p s).timing = s.timing ∧ (releaseStart p s).est = s.est ∧ (releaseStart p s).gov = s.gov ∧
    (releaseStart p s).runner = s.runner ∧ (releaseStart p s).dosing = s.dosing ∧ (releaseStart p s).lines = s.lines ∧ (releaseStart p s).link = s.link ∧
    (releaseStart p s).settings = s.settings ∧ (releaseStart p s).pages = s.pages ∧ (releaseStart p s).cmd = s.cmd ∧ (releaseStart p s).tel = s.tel ∧
    (releaseStart p s).report = s.report ∧ (releaseStart p s).hand = s.hand ∧ (releaseStart p s).mem = s.mem ∧ (releaseStart p s).choices = s.choices ∧
    (releaseStart p s).pending = s.pending := by
  unfold releaseStart; (try dsimp only); (repeat' split) <;> simp

@[simp] theorem releasePort_frame (p : Port) (s : State) :
    (releasePort p s).now = s.now ∧ (releasePort p s).timing = s.timing ∧ (releasePort p s).est = s.est ∧ (releasePort p s).gov = s.gov ∧
    (releasePort p s).runner = s.runner ∧ (releasePort p s).dosing = s.dosing ∧ (releasePort p s).lines = s.lines ∧ (releasePort p s).settings = s.settings ∧
    (releasePort p s).report = s.report ∧ (releasePort p s).hand = s.hand ∧ (releasePort p s).mem = s.mem ∧ (releasePort p s).choices = s.choices ∧
    (releasePort p s).pending = s.pending := by
  unfold releasePort; (try dsimp only); (repeat' split) <;> simp

@[simp] theorem settle_frame (s : State) :
    (settle s).now = s.now ∧ (settle s).timing = s.timing ∧ (settle s).est = s.est ∧ (settle s).gov = s.gov ∧
    (settle s).runner = s.runner ∧ (settle s).dosing = s.dosing ∧ (settle s).lines = s.lines ∧ (settle s).hand = s.hand ∧
    (settle s).mem = s.mem ∧ (settle s).pending = s.pending := by
  unfold settle; (try dsimp only); (repeat' split) <;> simp

@[simp] theorem stamp_frame (old s : State) :
    (stamp old s).now = s.now ∧ (stamp old s).timing = s.timing ∧ (stamp old s).est = s.est ∧ (stamp old s).runner = s.runner ∧
    (stamp old s).dosing = s.dosing ∧ (stamp old s).lines = s.lines ∧ (stamp old s).cport = s.cport ∧ (stamp old s).dport = s.dport ∧
    (stamp old s).link = s.link ∧ (stamp old s).settings = s.settings ∧ (stamp old s).pages = s.pages ∧ (stamp old s).cmd = s.cmd ∧
    (stamp old s).tel = s.tel ∧ (stamp old s).report = s.report ∧ (stamp old s).hand = s.hand ∧ (stamp old s).mem = s.mem ∧
    (stamp old s).choices = s.choices ∧ (stamp old s).pending = s.pending := by
  unfold stamp; (try dsimp only); (repeat' split) <;> simp

@[simp] theorem takeAngle_frame (a : Nat) (s : State) :
    (takeAngle a s).now = s.now ∧ (takeAngle a s).timing = s.timing ∧ (takeAngle a s).est = s.est ∧ (takeAngle a s).gov = s.gov ∧
    (takeAngle a s).runner = s.runner ∧ (takeAngle a s).lines = s.lines ∧ (takeAngle a s).cport = s.cport ∧ (takeAngle a s).dport = s.dport ∧
    (takeAngle a s).link = s.link ∧ (takeAngle a s).settings = s.settings ∧ (takeAngle a s).pages = s.pages ∧ (takeAngle a s).cmd = s.cmd ∧
    (takeAngle a s).tel = s.tel ∧ (takeAngle a s).report = s.report ∧ (takeAngle a s).hand = s.hand ∧ (takeAngle a s).mem = s.mem ∧
    (takeAngle a s).choices = s.choices ∧ (takeAngle a s).pending = s.pending := by
  unfold takeAngle; (try dsimp only); (repeat' split) <;> simp

@[simp] theorem keepAngle_frame (a : Nat) (s : State) :
    (keepAngle a s).now = s.now ∧ (keepAngle a s).timing = s.timing ∧ (keepAngle a s).est = s.est ∧ (keepAngle a s).gov = s.gov ∧
    (keepAngle a s).runner = s.runner ∧ (keepAngle a s).lines = s.lines ∧ (keepAngle a s).cport = s.cport ∧ (keepAngle a s).dport = s.dport ∧
    (keepAngle a s).link = s.link ∧ (keepAngle a s).settings = s.settings ∧ (keepAngle a s).pages = s.pages ∧ (keepAngle a s).cmd = s.cmd ∧
    (keepAngle a s).tel = s.tel ∧ (keepAngle a s).report = s.report ∧ (keepAngle a s).hand = s.hand ∧ (keepAngle a s).mem = s.mem ∧
    (keepAngle a s).choices = s.choices ∧ (keepAngle a s).pending = s.pending := by
  unfold keepAngle; (try dsimp only); (repeat' split) <;> simp

@[simp] theorem passStart_frame (s : State) :
    (passStart s).now = s.now ∧ (passStart s).timing = s.timing ∧ (passStart s).est = s.est ∧ (passStart s).gov = s.gov ∧
    (passStart s).runner = s.runner ∧ (passStart s).cport = s.cport ∧ (passStart s).dport = s.dport ∧ (passStart s).link = s.link ∧
    (passStart s).settings = s.settings ∧ (passStart s).pages = s.pages ∧ (passStart s).cmd = s.cmd ∧ (passStart s).tel = s.tel ∧
    (passStart s).report = s.report ∧ (passStart s).hand = s.hand ∧ (passStart s).mem = s.mem ∧ (passStart s).choices = s.choices ∧
    (passStart s).pending = s.pending := by
  unfold passStart; (try dsimp only); (repeat' split) <;> simp

@[simp] theorem nominalOpen_frame (s : State) :
    (nominalOpen s).now = s.now ∧ (nominalOpen s).timing = s.timing ∧ (nominalOpen s).est = s.est ∧ (nominalOpen s).gov = s.gov ∧
    (nominalOpen s).runner = s.runner ∧ (nominalOpen s).lines = s.lines ∧ (nominalOpen s).cport = s.cport ∧ (nominalOpen s).dport = s.dport ∧
    (nominalOpen s).link = s.link ∧ (nominalOpen s).settings = s.settings ∧ (nominalOpen s).pages = s.pages ∧ (nominalOpen s).cmd = s.cmd ∧
    (nominalOpen s).tel = s.tel ∧ (nominalOpen s).report = s.report ∧ (nominalOpen s).hand = s.hand ∧ (nominalOpen s).mem = s.mem ∧
    (nominalOpen s).choices = s.choices ∧ (nominalOpen s).pending = s.pending := by
  unfold nominalOpen; (try dsimp only); (repeat' split) <;> simp

@[simp] theorem passClose_frame (s : State) :
    (passClose s).now = s.now ∧ (passClose s).timing = s.timing ∧ (passClose s).gov = s.gov ∧ (passClose s).cport = s.cport ∧
    (passClose s).dport = s.dport ∧ (passClose s).link = s.link ∧ (passClose s).settings = s.settings ∧ (passClose s).pages = s.pages ∧
    (passClose s).cmd = s.cmd ∧ (passClose s).tel = s.tel ∧ (passClose s).hand = s.hand ∧ (passClose s).mem = s.mem ∧
    (passClose s).choices = s.choices ∧ (passClose s).pending = s.pending := by
  unfold passClose; (try dsimp only); (repeat' split) <;> simp

@[simp] theorem holdExpiry_frame (s : State) :
    (holdExpiry s).now = s.now ∧ (holdExpiry s).timing = s.timing ∧ (holdExpiry s).cport = s.cport ∧ (holdExpiry s).dport = s.dport ∧
    (holdExpiry s).link = s.link ∧ (holdExpiry s).settings = s.settings ∧ (holdExpiry s).pages = s.pages ∧ (holdExpiry s).cmd = s.cmd ∧
    (holdExpiry s).tel = s.tel ∧ (holdExpiry s).hand = s.hand ∧ (holdExpiry s).mem = s.mem ∧ (holdExpiry s).choices = s.choices ∧
    (holdExpiry s).pending = s.pending := by
  unfold holdExpiry; (try dsimp only); (repeat' split) <;> simp

@[simp] theorem bandWaitExpiry_frame (s : State) :
    (bandWaitExpiry s).now = s.now ∧ (bandWaitExpiry s).timing = s.timing ∧ (bandWaitExpiry s).cport = s.cport ∧ (bandWaitExpiry s).dport = s.dport ∧
    (bandWaitExpiry s).link = s.link ∧ (bandWaitExpiry s).settings = s.settings ∧ (bandWaitExpiry s).pages = s.pages ∧ (bandWaitExpiry s).cmd = s.cmd ∧
    (bandWaitExpiry s).tel = s.tel ∧ (bandWaitExpiry s).hand = s.hand ∧ (bandWaitExpiry s).mem = s.mem ∧ (bandWaitExpiry s).choices = s.choices ∧
    (bandWaitExpiry s).pending = s.pending := by
  unfold bandWaitExpiry; (try dsimp only); (repeat' split) <;> simp

@[simp] theorem fiveSecondMark_frame (s : State) :
    (fiveSecondMark s).now = s.now ∧ (fiveSecondMark s).timing = s.timing ∧ (fiveSecondMark s).cport = s.cport ∧ (fiveSecondMark s).dport = s.dport ∧
    (fiveSecondMark s).link = s.link ∧ (fiveSecondMark s).settings = s.settings ∧ (fiveSecondMark s).pages = s.pages ∧ (fiveSecondMark s).cmd = s.cmd ∧
    (fiveSecondMark s).tel = s.tel ∧ (fiveSecondMark s).hand = s.hand ∧ (fiveSecondMark s).mem = s.mem ∧ (fiveSecondMark s).choices = s.choices ∧
    (fiveSecondMark s).pending = s.pending := by
  unfold fiveSecondMark; (try dsimp only); (repeat' split) <;> simp

@[simp] theorem trimHistory_frame (s : State) :
    (trimHistory s).now = s.now ∧ (trimHistory s).timing = s.timing ∧ (trimHistory s).est = s.est ∧ (trimHistory s).runner = s.runner ∧
    (trimHistory s).dosing = s.dosing ∧ (trimHistory s).lines = s.lines ∧ (trimHistory s).cport = s.cport ∧ (trimHistory s).dport = s.dport ∧
    (trimHistory s).link = s.link ∧ (trimHistory s).settings = s.settings ∧ (trimHistory s).pages = s.pages ∧ (trimHistory s).cmd = s.cmd ∧
    (trimHistory s).tel = s.tel ∧ (trimHistory s).report = s.report ∧ (trimHistory s).hand = s.hand ∧ (trimHistory s).mem = s.mem ∧
    (trimHistory s).choices = s.choices ∧ (trimHistory s).pending = s.pending := by
  unfold trimHistory; (try dsimp only); (repeat' split) <;> simp

@[simp] theorem pinChange_frame (n : Fin 8) (level : Bool) (s : State) :
    (pinChange n level s).now = s.now ∧ (pinChange n level s).timing = s.timing ∧ (pinChange n level s).est = s.est ∧ (pinChange n level s).gov = s.gov ∧
    (pinChange n level s).runner = s.runner ∧ (pinChange n level s).dosing = s.dosing ∧ (pinChange n level s).cport = s.cport ∧ (pinChange n level s).dport = s.dport ∧
    (pinChange n level s).link = s.link ∧ (pinChange n level s).settings = s.settings ∧ (pinChange n level s).pages = s.pages ∧ (pinChange n level s).cmd = s.cmd ∧
    (pinChange n level s).tel = s.tel ∧ (pinChange n level s).report = s.report ∧ (pinChange n level s).hand = s.hand ∧ (pinChange n level s).mem = s.mem ∧
    (pinChange n level s).choices = s.choices ∧ (pinChange n level s).pending = s.pending := by
  unfold pinChange; (try dsimp only); (repeat' split) <;> simp

@[simp] theorem commitNow_frame (s : State) :
    (commitNow s).now = s.now ∧ (commitNow s).timing = s.timing ∧ (commitNow s).est = s.est ∧ (commitNow s).gov = s.gov ∧
    (commitNow s).runner = s.runner ∧ (commitNow s).dosing = s.dosing ∧ (commitNow s).lines = s.lines ∧ (commitNow s).cport = s.cport ∧
    (commitNow s).dport = s.dport ∧ (commitNow s).link = s.link ∧ (commitNow s).settings = s.settings ∧ (commitNow s).cmd = s.cmd ∧
    (commitNow s).tel = s.tel ∧ (commitNow s).mem = s.mem ∧ (commitNow s).choices = s.choices ∧ (commitNow s).pending = s.pending := by
  unfold commitNow; (try dsimp only); (repeat' split) <;> simp

@[simp] theorem upstreamStart_frame (p : Port) (addr : BitVec 7) (read : Bool) (s : State) :
    (upstreamStart p addr read s).now = s.now ∧ (upstreamStart p addr read s).timing = s.timing ∧ (upstreamStart p addr read s).est = s.est ∧ (upstreamStart p addr read s).gov = s.gov ∧
    (upstreamStart p addr read s).runner = s.runner ∧ (upstreamStart p addr read s).dosing = s.dosing ∧ (upstreamStart p addr read s).lines = s.lines ∧ (upstreamStart p addr read s).settings = s.settings ∧
    (upstreamStart p addr read s).pages = s.pages ∧ (upstreamStart p addr read s).cmd = s.cmd ∧ (upstreamStart p addr read s).tel = s.tel ∧ (upstreamStart p addr read s).report = s.report ∧
    (upstreamStart p addr read s).mem = s.mem ∧ (upstreamStart p addr read s).choices = s.choices ∧ (upstreamStart p addr read s).pending = s.pending := by
  unfold upstreamStart; (try dsimp only); (repeat' split) <;> simp

@[simp] theorem busEnd_frame (p : Port) (s : State) :
    (busEnd p s).now = s.now ∧ (busEnd p s).timing = s.timing ∧ (busEnd p s).est = s.est ∧ (busEnd p s).gov = s.gov ∧
    (busEnd p s).runner = s.runner ∧ (busEnd p s).dosing = s.dosing ∧ (busEnd p s).lines = s.lines ∧ (busEnd p s).settings = s.settings ∧
    (busEnd p s).pages = s.pages ∧ (busEnd p s).cmd = s.cmd ∧ (busEnd p s).tel = s.tel ∧ (busEnd p s).report = s.report ∧
    (busEnd p s).mem = s.mem ∧ (busEnd p s).choices = s.choices ∧ (busEnd p s).pending = s.pending := by
  unfold busEnd; (try dsimp only); (repeat' split) <;> simp

@[simp] theorem midByte_frame (x : PartialByte) (s : State) :
    (midByte x s).now = s.now ∧ (midByte x s).timing = s.timing ∧ (midByte x s).est = s.est ∧ (midByte x s).gov = s.gov ∧
    (midByte x s).runner = s.runner ∧ (midByte x s).dosing = s.dosing ∧ (midByte x s).lines = s.lines ∧
    (midByte x s).settings = s.settings ∧ (midByte x s).pages = s.pages ∧ (midByte x s).cmd = s.cmd ∧
    (midByte x s).tel = s.tel ∧ (midByte x s).mem = s.mem ∧ (midByte x s).choices = s.choices ∧
    (midByte x s).pending = s.pending := by
  unfold midByte; (try dsimp only); (repeat' split) <;> simp

@[simp] theorem midByte_report (x : PartialByte) (s : State) :
    (midByte x s).report.latches = s.report.latches ∧ (midByte x s).report.seq = s.report.seq ∧
    (midByte x s).report.write = s.report.write ∧ (midByte x s).report.again = s.report.again ∧
    (midByte x s).report.periodStart = s.report.periodStart ∧ (midByte x s).report.queue = s.report.queue ∧
    (midByte x s).report.nextSlot = s.report.nextSlot ∧ (midByte x s).report.nextSeq = s.report.nextSeq ∧
    (midByte x s).report.drops = s.report.drops ∧ (midByte x s).report.ring = s.report.ring := by
  unfold midByte; (try dsimp only); (repeat' split) <;> simp

@[simp] theorem periodExpiry_frame (s : State) :
    (periodExpiry s).now = s.now ∧ (periodExpiry s).timing = s.timing ∧ (periodExpiry s).est = s.est ∧ (periodExpiry s).gov = s.gov ∧
    (periodExpiry s).runner = s.runner ∧ (periodExpiry s).dosing = s.dosing ∧ (periodExpiry s).lines = s.lines ∧ (periodExpiry s).cport = s.cport ∧
    (periodExpiry s).dport = s.dport ∧ (periodExpiry s).link = s.link ∧ (periodExpiry s).settings = s.settings ∧ (periodExpiry s).pages = s.pages ∧
    (periodExpiry s).cmd = s.cmd ∧ (periodExpiry s).tel = s.tel ∧ (periodExpiry s).hand = s.hand ∧ (periodExpiry s).mem = s.mem ∧
    (periodExpiry s).choices = s.choices ∧ (periodExpiry s).pending = s.pending := by
  unfold periodExpiry; (try dsimp only); (repeat' split) <;> simp

@[simp] theorem rereadNow_frame (s : State) :
    (rereadNow s).now = s.now ∧ (rereadNow s).timing = s.timing ∧ (rereadNow s).est = s.est ∧ (rereadNow s).gov = s.gov ∧
    (rereadNow s).runner = s.runner ∧ (rereadNow s).dosing = s.dosing ∧ (rereadNow s).lines = s.lines ∧ (rereadNow s).cport = s.cport ∧
    (rereadNow s).dport = s.dport ∧ (rereadNow s).pages = s.pages ∧ (rereadNow s).cmd = s.cmd ∧ (rereadNow s).tel = s.tel ∧
    (rereadNow s).report = s.report ∧ (rereadNow s).mem = s.mem ∧ (rereadNow s).choices = s.choices ∧ (rereadNow s).pending = s.pending := by
  unfold rereadNow; (try dsimp only); (repeat' split) <;> simp

@[simp] theorem telemetryNow_frame (s : State) :
    (telemetryNow s).now = s.now ∧ (telemetryNow s).timing = s.timing ∧ (telemetryNow s).cport = s.cport ∧ (telemetryNow s).dport = s.dport ∧
    (telemetryNow s).link = s.link ∧ (telemetryNow s).settings = s.settings ∧ (telemetryNow s).pages = s.pages ∧ (telemetryNow s).cmd = s.cmd ∧
    (telemetryNow s).mem = s.mem ∧ (telemetryNow s).pending = s.pending := by
  unfold telemetryNow; (try dsimp only); (repeat' split) <;> simp

@[simp] theorem indexPulse_frame (s : State) :
    (indexPulse s).now = s.now ∧ (indexPulse s).cport = s.cport ∧ (indexPulse s).dport = s.dport ∧ (indexPulse s).link = s.link ∧
    (indexPulse s).settings = s.settings ∧ (indexPulse s).pages = s.pages ∧ (indexPulse s).cmd = s.cmd ∧ (indexPulse s).tel = s.tel ∧
    (indexPulse s).hand = s.hand ∧ (indexPulse s).mem = s.mem ∧ (indexPulse s).pending = s.pending := by
  unfold indexPulse; (try dsimp only); (repeat' split) <;> simp

@[simp] theorem commPulse_frame (s : State) :
    (commPulse s).now = s.now ∧ (commPulse s).cport = s.cport ∧ (commPulse s).dport = s.dport ∧ (commPulse s).link = s.link ∧
    (commPulse s).settings = s.settings ∧ (commPulse s).pages = s.pages ∧ (commPulse s).cmd = s.cmd ∧ (commPulse s).tel = s.tel ∧
    (commPulse s).hand = s.hand ∧ (commPulse s).mem = s.mem ∧ (commPulse s).pending = s.pending := by
  unfold commPulse; (try dsimp only); (repeat' split) <;> simp

@[simp] theorem searchAgain_frame (src : Source) (s : State) :
    (searchAgain src s).now = s.now ∧ (searchAgain src s).est = s.est ∧ (searchAgain src s).gov = s.gov ∧ (searchAgain src s).runner = s.runner ∧
    (searchAgain src s).dosing = s.dosing ∧ (searchAgain src s).lines = s.lines ∧ (searchAgain src s).cport = s.cport ∧ (searchAgain src s).dport = s.dport ∧
    (searchAgain src s).link = s.link ∧ (searchAgain src s).settings = s.settings ∧ (searchAgain src s).pages = s.pages ∧ (searchAgain src s).cmd = s.cmd ∧
    (searchAgain src s).tel = s.tel ∧ (searchAgain src s).report = s.report ∧ (searchAgain src s).hand = s.hand ∧ (searchAgain src s).mem = s.mem ∧
    (searchAgain src s).choices = s.choices ∧ (searchAgain src s).pending = s.pending := by
  unfold searchAgain; (try dsimp only); (repeat' split) <;> simp

end Sys2Proof.Machine
end

