-- ==== Sys2Proof/Laws/Memory.lean ====
section
/-! SUPPORT. The laws of the FRAM: the canonical form is kept, and what a read gives after a write. -/

namespace Sys2Proof.Machine

theorem Memory.wfFrom_mono {n k : Nat} (h : k ≤ n) : ∀ {m : List Host.Cell}, Memory.wfFrom n m = true → Memory.wfFrom k m = true
  | [], _ => rfl
  | (a, v) :: rest, hw => by
    simp only [Memory.wfFrom, Bool.and_eq_true, decide_eq_true_eq] at hw ⊢
    exact ⟨⟨⟨by omega, hw.1.1.2⟩, hw.1.2⟩, hw.2⟩

/-- Below the least address of a canonical list every byte is blank. -/
theorem Memory.read_below : ∀ {m : List Host.Cell} {n a : Nat}, Memory.wfFrom n m = true → a < n → Memory.read m a = Memory.blank
  | [], _, _, _, _ => rfl
  | (b, v) :: rest, n, a, hw, h => by
    simp only [Memory.wfFrom, Bool.and_eq_true, decide_eq_true_eq] at hw
    have hb : a ≠ b := by omega
    simp only [Memory.read, if_neg hb]
    exact Memory.read_below hw.2 (by omega)

/-- A write keeps the canonical form. -/
theorem Memory.put_wfFrom : ∀ {m : List Host.Cell} {n a : Nat} (v : Byte), Memory.wfFrom n m = true → n ≤ a →
    a < Config.memSize → Memory.wfFrom n (Memory.put m a v) = true
  | [], n, a, v, _, hn, ha => by
    by_cases hv : v = Memory.blank <;> simp [Memory.put, Memory.wfFrom, hv, hn, ha]
  | (b, w) :: rest, n, a, v, hw, hn, ha => by
    simp only [Memory.wfFrom, Bool.and_eq_true, decide_eq_true_eq] at hw
    obtain ⟨⟨⟨h1, h2⟩, h3⟩, h4⟩ := hw
    by_cases hab : a < b
    · by_cases hv : v = Memory.blank
      · simp [Memory.put, Memory.wfFrom, hab, hv, h1, h2, h3, h4]
      · simp [Memory.put, Memory.wfFrom, hab, hv, hn, ha, h2, h3, h4] <;> omega
    · by_cases he : a = b
      · subst he
        by_cases hv : v = Memory.blank
        · simpa [Memory.put, hv] using Memory.wfFrom_mono (by omega) h4
        · simp [Memory.put, Memory.wfFrom, hv, hn, ha, h4]
      · have := Memory.put_wfFrom v h4 (by omega : b + 1 ≤ a) ha
        simp [Memory.put, Memory.wfFrom, hab, he, h1, h2, h3, this]

/-- A write keeps the canonical form of the FRAM. -/
theorem Memory.put_wf {m : List Host.Cell} {a : Nat} (v : Byte) (h : Memory.wf m = true) (ha : a < Config.memSize) :
    Memory.wf (Memory.put m a v) = true := Memory.put_wfFrom v h (Nat.zero_le a) ha

/-- The byte just written reads back. -/
theorem Memory.read_put_same : ∀ {m : List Host.Cell} {n a : Nat} (v : Byte), Memory.wfFrom n m = true →
    Memory.read (Memory.put m a v) a = v
  | [], _, a, v, _ => by by_cases hv : v = Memory.blank <;> simp [Memory.put, Memory.read, hv]
  | (b, w) :: rest, n, a, v, hw => by
    simp only [Memory.wfFrom, Bool.and_eq_true, decide_eq_true_eq] at hw
    by_cases hab : a < b
    · by_cases hv : v = Memory.blank
      · have hne : a ≠ b := by omega
        simp only [Memory.put, if_pos hab, if_pos hv, Memory.read, if_neg hne]
        rw [Memory.read_below hw.2 (by omega), hv]
      · simp [Memory.put, Memory.read, hab, hv]
    · by_cases he : a = b
      · subst he
        by_cases hv : v = Memory.blank
        · simp only [Memory.put, Nat.lt_irrefl, if_false, if_true, if_pos hv]
          rw [Memory.read_below hw.2 (by omega), hv]
        · simp [Memory.put, Memory.read, hv]
      · simp only [Memory.put, if_neg hab, if_neg he, Memory.read]
        exact Memory.read_put_same v hw.2

/-- Every other byte reads as before. -/
theorem Memory.read_put_other : ∀ {m : List Host.Cell} {n a c : Nat} (v : Byte), Memory.wfFrom n m = true → c ≠ a →
    Memory.read (Memory.put m a v) c = Memory.read m c
  | [], _, a, c, v, _, h => by by_cases hv : v = Memory.blank <;> simp [Memory.put, Memory.read, hv, h]
  | (b, w) :: rest, n, a, c, v, hw, h => by
    simp only [Memory.wfFrom, Bool.and_eq_true, decide_eq_true_eq] at hw
    by_cases hab : a < b
    · by_cases hv : v = Memory.blank <;> simp [Memory.put, Memory.read, hab, hv, h]
    · by_cases he : a = b
      · subst he
        by_cases hv : v = Memory.blank <;> simp [Memory.put, Memory.read, hv, h]
      · simp only [Memory.put, if_neg hab, if_neg he, Memory.read, Memory.read_put_other v hw.2 h]

/-! ### The memory operations on the state -/

/-- `storeByte` keeps the canonical form. -/
theorem storeByte_wf {s : State} {a : Nat} (v : Byte) (h : Memory.wf s.mem = true) :
    Memory.wf (storeByte s a v).mem = true := by
  unfold storeByte
  split
  · exact Memory.put_wf v h (by assumption)
  · exact h

/-- `storeBytes` keeps the canonical form. -/
theorem storeBytes_wf : ∀ (l : List Byte) {s : State} {a : Nat}, Memory.wf s.mem = true →
    Memory.wf (storeBytes s a l).mem = true
  | [], _, _, h => h
  | v :: rest, _, _, h => storeBytes_wf rest (storeByte_wf v h)

/-- The byte just stored reads back. -/
theorem readByte_storeByte_same {s : State} {a : Nat} (v : Byte) (h : Memory.wf s.mem = true) (ha : a < Config.memSize) :
    readByte (storeByte s a v) a = v := by
  unfold storeByte readByte
  rw [if_pos ha]
  exact Memory.read_put_same v h

/-- Every other byte reads as before. -/
theorem readByte_storeByte_other {s : State} {a c : Nat} (v : Byte) (h : Memory.wf s.mem = true) (hc : c ≠ a) :
    readByte (storeByte s a v) c = readByte s c := by
  unfold storeByte readByte
  split
  · exact Memory.read_put_other v h hc
  · rfl

/-- Bytes outside the stored range read as before. -/
theorem readByte_storeBytes_other : ∀ (l : List Byte) {s : State} {a c : Nat}, Memory.wf s.mem = true →
    (c < a ∨ a + l.length ≤ c) → readByte (storeBytes s a l) c = readByte s c
  | [], _, _, _, _, _ => rfl
  | v :: rest, s, a, c, h, hc => by
    have hne : c ≠ a := by simp only [List.length_cons] at hc; omega
    rw [storeBytes, readByte_storeBytes_other rest (storeByte_wf v h) (by simp only [List.length_cons] at hc; omega),
      readByte_storeByte_other v h hne]

/-- A stored byte reads back from its place. -/
theorem readByte_storeBytes_same : ∀ (l : List Byte) {s : State} {a : Nat} (i : Nat), Memory.wf s.mem = true →
    i < l.length → a + l.length ≤ Config.memSize → readByte (storeBytes s a l) (a + i) = l.getD i 0
  | [], _, _, i, _, hi, _ => by simp at hi
  | v :: rest, s, a, 0, h, _, ha => by
    simp only [List.length_cons] at ha
    rw [storeBytes, readByte_storeBytes_other rest (storeByte_wf v h) (by omega), Nat.add_zero,
      readByte_storeByte_same v h (by omega)]
    rfl
  | v :: rest, s, a, i + 1, h, hi, ha => by
    simp only [List.length_cons] at hi ha
    rw [storeBytes, show a + (i + 1) = (a + 1) + i by omega,
      readByte_storeBytes_same rest i (storeByte_wf v h) (by omega) (by omega)]
    rfl

end Sys2Proof.Machine
end

