-- ==== Sys2Proof/Laws/Events.lean ====
section
/-! SUPPORT. What an event does around its own effect: time passes, owed updates are handed on, what has waited goes on, and the
command number follows the live command. -/

namespace Sys2Proof.Machine

@[simp] theorem advance_now (dt : Nat) (s : State) : (advance dt s).now = s.now + dt := rfl

/-- Nothing owed, nothing handed on. -/
theorem deliver_of_not_owed {s : State} (h : s.est.owed = false) : deliver s = s := by
  simp [deliver, deliverTimes, h]

/-- After the hand-over nothing is owed. -/
theorem deliverTimes_owed (n : Nat) (s : State) : (deliverTimes n s).est.owed = false := by
  induction n generalizing s with
  | zero => rfl
  | succ n ih =>
    unfold deliverTimes
    split
    · exact ih _
    · simpa using ‹¬s.est.owed = true›

@[simp] theorem deliver_owed (s : State) : (deliver s).est.owed = false := deliverTimes_owed 4 s

/-- The command number is all that `stamp` may change. -/
theorem stamp_eq (old s : State) :
    stamp old s = s ∨ stamp old s = s.setGov { s.gov with number := s.gov.number + 1 } := by
  unfold stamp
  split
  · exact Or.inr rfl
  · exact Or.inl rfl

@[simp] theorem stamp_gov_fields (old s : State) :
    (stamp old s).gov.state = s.gov.state ∧ (stamp old s).gov.target = s.gov.target ∧ (stamp old s).gov.ramp = s.gov.ramp ∧
    (stamp old s).gov.step = s.gov.step ∧ (stamp old s).gov.move = s.gov.move ∧ (stamp old s).gov.arrivals = s.gov.arrivals ∧
    (stamp old s).gov.firstArrival = s.gov.firstArrival ∧ (stamp old s).gov.holdStart = s.gov.holdStart ∧
    (stamp old s).gov.band = s.gov.band ∧ (stamp old s).gov.waits = s.gov.waits ∧
    (stamp old s).gov.waitSince = s.gov.waitSince ∧ (stamp old s).gov.retreats = s.gov.retreats ∧
    (stamp old s).gov.markFallen = s.gov.markFallen ∧ (stamp old s).gov.history = s.gov.history ∧
    (stamp old s).gov.overCount = s.gov.overCount ∧ (stamp old s).gov.prevBoundary = s.gov.prevBoundary ∧
    (stamp old s).gov.run = s.gov.run ∧ (stamp old s).gov.startRunDown = s.gov.startRunDown ∧
    (stamp old s).gov.settledSinceRest = s.gov.settledSinceRest ∧ (stamp old s).gov.classInForce = s.gov.classInForce ∧
    (stamp old s).gov.ceiling = s.gov.ceiling ∧ (stamp old s).gov.effTarget = s.gov.effTarget ∧
    (stamp old s).gov.sensorTest = s.gov.sensorTest := by
  unfold stamp; split <;> simp

/-- Every event delivers what is owed. -/
@[simp] theorem event_owed (f : State → State) (dt : Nat) (s : State) : (event f dt s).est.owed = false := by
  simp [event]

/-- An event whose effect owes no update. -/
theorem event_of_not_owed {f : State → State} {dt : Nat} {s : State} (h : (f (advance dt s)).est.owed = false) :
    event f dt s = settle (stamp (advance dt s) (f (advance dt s))) := by
  simp [event, deliver_of_not_owed h]

/-- The live command has not changed, and the command number does not. -/
theorem stamp_of_gov {old s : State} (h : s.gov = old.gov) : stamp old s = s := by
  simp [stamp, liveChanged, h]

/-- An event whose effect owes no update and leaves the governor as it is. -/
theorem event_quiet {f : State → State} {dt : Nat} {s : State} (h : (f (advance dt s)).est.owed = false)
    (k : (f (advance dt s)).gov = s.gov) : event f dt s = settle (f (advance dt s)) := by
  rw [event_of_not_owed h, stamp_of_gov (by simp [k])]

/-- What an event's own effect leaves, the event leaves: the FRAM, the hand-overs, the queue. -/
@[simp] theorem event_mem {f : State → State} (h : ∀ u, (f u).mem = u.mem) (dt : Nat) (s : State) :
    (event f dt s).mem = s.mem := by simp [event, h]

@[simp] theorem event_hand {f : State → State} (h : ∀ u, (f u).hand = u.hand) (dt : Nat) (s : State) :
    (event f dt s).hand = s.hand := by simp [event, h]

@[simp] theorem event_pending {f : State → State} (h : ∀ u, (f u).pending = u.pending) (dt : Nat) (s : State) :
    (event f dt s).pending = s.pending := by simp [event, h]

/-- An event takes its time. -/
@[simp] theorem event_now {f : State → State} (h : ∀ u, (f u).now = u.now) (dt : Nat) (s : State) :
    (event f dt s).now = s.now + dt := by simp [event, h]

/-- After the event's own effect and its updates nothing touches the timing unit. -/
@[simp] theorem event_timing (f : State → State) (dt : Nat) (s : State) :
    (event f dt s).timing = (f (advance dt s)).timing := by simp [event]

end Sys2Proof.Machine
end

