-- ==== Sys2Proof/Laws/Arbiter.lean ====
section
/-! SUPPORT. The arbiter: who waits, what a grant gives and does to the ageing counts, and that every event ends with it. -/

namespace Sys2Proof.Machine

theorem mem_waiting_dport (s : State) : .dport ∈ waitingRequesters s ↔ (portRequest s .d).isSome = true := by
  simp only [waitingRequesters]; (repeat' split) <;> simp_all

theorem mem_waiting_internal (s : State) : .internal ∈ waitingRequesters s ↔ s.link.internal ≠ [] := by
  simp only [waitingRequesters]; (repeat' split) <;> simp_all

theorem mem_waiting_cport (s : State) : .cport ∈ waitingRequesters s ↔ (portRequest s .c).isSome = true := by
  simp only [waitingRequesters]; (repeat' split) <;> simp_all

/-- A port asks for a transfer of its own. -/
theorem portRequest_who {s : State} {p : Port} {x : Transfer} (h : portRequest s p = some x) : x.who = requesterOf p := by
  unfold portRequest at h; (repeat' split at h) <;> simp_all <;> (subst h; rfl)

theorem arbitrate_busy {s : State} (h : s.link.transfer ≠ none) : arbitrate s = s := by
  unfold arbitrate; cases e : s.link.transfer <;> simp_all

theorem arbitrate_nobody {s : State} (h : waitingRequesters s = []) : arbitrate s = s := by
  unfold arbitrate chosen; rw [h]; cases s.link.transfer <;> rfl

theorem arbitrate_grants {s : State} {r : Requester} (h : s.link.transfer = none) (k : chosen s = some r) :
    arbitrate s = grant r s := by
  unfold arbitrate; rw [h, k]

@[simp] theorem ageOf_grant (r q : Requester) (s : State) : ageOf (grant r s).link q = ageAfter s r q := by cases q <;> rfl

@[simp] theorem grant_transfer (r : Requester) (s : State) : (grant r s).link.transfer = (grantedTransfer s r).2 := rfl

@[simp] theorem grant_internal (r : Requester) (s : State) :
    (grant r s).link.internal = (grantedTransfer s r).1.link.internal := rfl

/-- A granted transfer is the requester's own. -/
theorem grantedTransfer_who {s : State} {r : Requester} {x : Transfer} (h : (grantedTransfer s r).2 = some x) : x.who = r := by
  cases r with
  | dport => exact portRequest_who (p := .d) h
  | cport => exact portRequest_who (p := .c) h
  | internal => simp only [grantedTransfer, takeEntry] at h; (repeat' split at h) <;> simp_all <;> (subst h; rfl)

/-- Every event ends with the arbiter. -/
theorem event_arbitrates (f : State → State) (dt : Nat) (s : State) :
    event f dt s = arbitrate (raiseJobs (leaveDrainWait (releasePort .d (releasePort .c
      (stamp (advance dt s) (deliver (f (advance dt s)))))))) := rfl

theorem resetEvent_arbitrates (f : State → State) (dt : Nat) (s : State) :
    resetEvent f dt s = arbitrate (raiseJobs (leaveDrainWait (releasePort .d (releasePort .c
      (deliver (f (advance dt s))))))) := rfl

end Sys2Proof.Machine
end

