-- ==== Sys2Proof/Laws/Settle.lean ====
section
/-! SUPPORT. The parts of the blocks that what follows every event (`settle`) and the hand-over of updates (`deliver`) never
touch, field by field; and the operations on ports and on the lines L0 and L1. -/

namespace Sys2Proof.Machine

/-! ### Ports -/

@[simp] theorem portOf_setPort_same (s : State) (p : Port) (v : PortState) : portOf (setPort s p v) p = v := by
  cases p <;> rfl

theorem portOf_setPort_other (s : State) {p q : Port} (v : PortState) (h : q ≠ p) :
    portOf (setPort s p v) q = portOf s q := by
  cases p <;> cases q <;> first | rfl | exact absurd rfl h

@[simp] theorem portOf_setLink (s : State) (v : MemoryLink) (p : Port) : portOf (s.setLink v) p = portOf s p := by
  cases p <;> rfl

@[simp] theorem portOf_setTransfer (s : State) (t : Option Transfer) (p : Port) : portOf (setTransfer s t) p = portOf s p := by
  cases p <;> rfl

@[simp] theorem portOf_closeOwn (s : State) (p q : Port) : portOf (closeOwn p s) q = portOf s q := by
  cases q <;> simp [portOf]

@[simp] theorem portOf_advance (dt : Nat) (s : State) (p : Port) : portOf (advance dt s) p = portOf s p := by
  cases p <;> rfl

@[simp] theorem portOf_stamp (old s : State) (p : Port) : portOf (stamp old s) p = portOf s p := by cases p <;> simp [portOf]

/-- Nothing stretched and no start held: nothing on the port has waited. -/
theorem releasePort_idle {s : State} {p : Port} (h : (portOf s p).stretch = none) (k : (portOf s p).heldStart = none) :
    releasePort p s = s := by
  have e : releaseEdit p s = s := by unfold releaseEdit; rw [h]; split <;> rfl
  have f : releasePost p s = s := by unfold releasePost; rw [h]
  have g : releaseStart p s = s := by unfold releaseStart; rw [k]
  unfold releasePort; rw [e, f, g]

/-- What has waited on one port goes on without touching the other. -/
theorem portOf_releasePort_other {q r : Port} (hqr : r ≠ q) (t : State) : portOf (releasePort q t) r = portOf t r := by
  have e (t : State) : portOf (releaseEdit q t) r = portOf t r := by
    unfold releaseEdit
    repeat' split
    all_goals try rfl
    all_goals simp only [editWriteOn, holdWrite, askRead, stretchByte, portOf_setPort_other _ _ hqr]
    all_goals split
    all_goals simp only [portOf_setTransfer, portOf_closeOwn]
    all_goals
      rename_i o _ _ _
      rcases (by unfold editSnoop; split <;> simp : editSnoop o = none ∨ editSnoop o = some .commit) with h | h
      all_goals rw [h]
      all_goals simp only [snoopAt, snoop]
      all_goals
        cases r <;> cases q <;> first | rfl | exact absurd rfl hqr
  have f (t : State) : portOf (releasePost q t) r = portOf t r := by
    unfold releasePost
    repeat' split
    all_goals first | rfl | simp only [joinPost, portOf_setPort_other _ _ hqr]
  have g (t : State) : portOf (releaseStart q t) r = portOf t r := by
    unfold releaseStart
    repeat' split
    all_goals first | rfl | simp only [beginTxn, portOf_setPort_other _ _ hqr]
  unfold releasePort; rw [g, f, e]

/-- After the ports have gone on, `settle` touches no port. -/
theorem portOf_rest (t : State) (p : Port) : portOf (arbitrate (raiseJobs (leaveDrainWait t))) p = portOf t p := by
  cases p <;> simp [portOf]

/-- Nothing stretched and no start held: `settle` leaves the port as it is. -/
theorem portOf_settle {s : State} {p : Port} (h : (portOf s p).stretch = none) (k : (portOf s p).heldStart = none) :
    portOf (settle s) p = portOf s p := by
  unfold settle; rw [portOf_rest]
  cases p with
  | c => rw [portOf_releasePort_other (by decide), releasePort_idle h k]
  | d =>
    have o : portOf (releasePort .c s) .d = portOf s .d := portOf_releasePort_other (by decide) s
    rw [releasePort_idle (by rw [o]; exact h) (by rw [o]; exact k), o]

/-- What a stretched byte waits for has not come: the swap's end for a PLAN_EDIT byte, room in the post buffer for a POSTED one, the
memory for any other. -/
def stillWaits (s : State) (q : PortState) (x : Stretch) : Prop :=
  match x.what with
  | .editWrite _ _ | .editRead _ => swapBusy s = true
  | .post _ _ => 32 ≤ q.post.length
  | _ => True

theorem releasePort_waits {s : State} {p : Port} {x : Stretch} (h : (portOf s p).stretch = some x)
    (k : (portOf s p).heldStart = none) (w : stillWaits s (portOf s p) x) : releasePort p s = s := by
  have e : releaseEdit p s = s := by
    unfold releaseEdit; rw [h]; dsimp only; cases hx : x.what <;> simp_all [stillWaits]
  have f : releasePost p s = s := by
    unfold releasePost; rw [h]; dsimp only
    cases hx : x.what <;> simp_all [stillWaits, Config.postRoom]
    exact if_neg (by omega)
  have g : releaseStart p s = s := by unfold releaseStart; rw [k]
  unfold releasePort; rw [e, f, g]

/-- A byte that still waits: `settle` leaves the port as it is. -/
theorem portOf_settle_waits {s : State} {p : Port} {x : Stretch} (h : (portOf s p).stretch = some x)
    (k : (portOf s p).heldStart = none) (w : stillWaits s (portOf s p) x) : portOf (settle s) p = portOf s p := by
  have b : swapBusy (releasePort .c s) = swapBusy s := by
    have swap : (releasePort .c s).pages.swap = s.pages.swap := by
      have r (t : State) : (releaseStart .c (releasePost .c t)).pages = t.pages := by simp
      unfold releasePort; rw [r]
      unfold releaseEdit
      repeat' split
      all_goals try rfl
      · rename_i o v _
        rcases (by unfold editSnoop; split <;> simp : editSnoop o = none ∨ editSnoop o = some .commit) with h | h
        all_goals simp [editWriteOn, snoopAt, snoop, h]
      · simp
    simp [swapBusy, swap]
  unfold settle; rw [portOf_rest]
  cases p with
  | c => rw [portOf_releasePort_other (by decide), releasePort_waits h k w]
  | d =>
    have o : portOf (releasePort .c s) .d = portOf s .d := portOf_releasePort_other (by decide) s
    rw [releasePort_waits (x := x) (by rw [o]; exact h) (by rw [o]; exact k), o]
    rw [o]; unfold stillWaits at *; simpa only [b] using w

@[simp] theorem portOf_deliver (s : State) (p : Port) : portOf (deliver s) p = portOf s p := by cases p <;> simp [portOf]

/-! ### What a byte that goes on after a swap leaves (R146) -/

theorem editSnoop_cases (o : Nat) : editSnoop o = none ∨ editSnoop o = some .commit := by
  unfold editSnoop; split <;> simp

/-- R139: a PLAN_EDIT byte is snooped as the commit code only. -/
@[simp] theorem snoopAt_edit (p : Port) (o : Nat) (v : Byte) (s : State) :
    (snoopAt p (editSnoop o) v s).cmd = s.cmd ∧ (snoopAt p (editSnoop o) v s).tel = s.tel ∧
    (snoopAt p (editSnoop o) v s).pages.active = s.pages.active ∧ (snoopAt p (editSnoop o) v s).pages.swap = s.pages.swap ∧
    (snoopAt p (editSnoop o) v s).pages.valid = s.pages.valid ∧
    (snoopAt p (editSnoop o) v s).pages.result = s.pages.result ∧
    (snoopAt p (editSnoop o) v s).pages.check = s.pages.check ∧
    (snoopAt p (editSnoop o) v s).pages.stepIndex = s.pages.stepIndex := by
  rcases editSnoop_cases o with h | h <;> rw [h] <;> simp [snoopAt, snoop]

@[simp] theorem editWriteOn_blocks (p : Port) (o : Nat) (v : Byte) (a start : Nat) (s : State) :
    (editWriteOn p o v a start s).cmd = s.cmd ∧ (editWriteOn p o v a start s).tel = s.tel ∧
    (editWriteOn p o v a start s).pages.active = s.pages.active ∧
    (editWriteOn p o v a start s).pages.swap = s.pages.swap ∧ (editWriteOn p o v a start s).pages.valid = s.pages.valid ∧
    (editWriteOn p o v a start s).pages.result = s.pages.result ∧
    (editWriteOn p o v a start s).pages.check = s.pages.check ∧
    (editWriteOn p o v a start s).pages.stepIndex = s.pages.stepIndex := by
  simp [editWriteOn]

@[simp] theorem releasePort_blocks (p : Port) (s : State) :
    (releasePort p s).cmd = s.cmd ∧ (releasePort p s).tel = s.tel ∧ (releasePort p s).report = s.report ∧
    (releasePort p s).settings = s.settings ∧ (releasePort p s).pages.active = s.pages.active ∧
    (releasePort p s).pages.swap = s.pages.swap ∧ (releasePort p s).pages.valid = s.pages.valid ∧
    (releasePort p s).pages.result = s.pages.result ∧ (releasePort p s).pages.check = s.pages.check ∧
    (releasePort p s).pages.stepIndex = s.pages.stepIndex ∧ (releasePort p s).link.straps = s.link.straps := by
  have h (t : State) : (closeOwn p t).link.straps = t.link.straps := by unfold closeOwn setTransfer; split <;> simp
  have he : (releaseEdit p s).link.straps = s.link.straps := by
    unfold releaseEdit
    repeat' split
    all_goals simp [editWriteOn, holdWrite, askRead, stretchByte]
    all_goals split <;> simp [h, setTransfer]
  have hb : (releaseEdit p s).cmd = s.cmd ∧ (releaseEdit p s).tel = s.tel ∧ (releaseEdit p s).report = s.report ∧
      (releaseEdit p s).settings = s.settings ∧ (releaseEdit p s).pages.active = s.pages.active ∧
      (releaseEdit p s).pages.swap = s.pages.swap ∧ (releaseEdit p s).pages.valid = s.pages.valid ∧
      (releaseEdit p s).pages.result = s.pages.result ∧ (releaseEdit p s).pages.check = s.pages.check ∧
      (releaseEdit p s).pages.stepIndex = s.pages.stepIndex := by
    unfold releaseEdit; repeat' split
    all_goals simp
  have hp (t : State) : (releasePost p t).link = t.link ∧ (releasePost p t).settings = t.settings ∧
      (releasePost p t).pages = t.pages ∧ (releasePost p t).cmd = t.cmd ∧ (releasePost p t).tel = t.tel ∧
      (releasePost p t).report = t.report := by
    unfold releasePost; repeat' split
    all_goals simp
  have hst (t : State) : (releaseStart p t).link = t.link ∧ (releaseStart p t).settings = t.settings ∧
      (releaseStart p t).pages = t.pages ∧ (releaseStart p t).cmd = t.cmd ∧ (releaseStart p t).tel = t.tel ∧
      (releaseStart p t).report = t.report := by
    unfold releaseStart; repeat' split
    all_goals simp
  simp only [releasePort, hp, hst, hb, he]
  simp

/-! ### What `settle` leaves of the blocks that it may touch -/

@[simp] theorem leaveDrainWait_settings (s : State) :
    (leaveDrainWait s).settings.inForce = s.settings.inForce ∧ (leaveDrainWait s).settings.restricted = s.settings.restricted ∧
    (leaveDrainWait s).settings.pending = s.settings.pending ∧ (leaveDrainWait s).settings.status = s.settings.status ∧
    (leaveDrainWait s).settings.check = s.settings.check ∧ (leaveDrainWait s).settings.restarting = s.settings.restarting ∧
    (leaveDrainWait s).settings.scan = s.settings.scan := by
  unfold leaveDrainWait; split <;> simp

@[simp] theorem raiseJobs_report (s : State) :
    (raiseJobs s).report.latches = s.report.latches ∧ (raiseJobs s).report.accessCount = s.report.accessCount ∧
    (raiseJobs s).report.lastAccess = s.report.lastAccess ∧
    (raiseJobs s).report.accessOver = s.report.accessOver ∧ (raiseJobs s).report.begun = s.report.begun ∧ (raiseJobs s).report.again = s.report.again ∧
    (raiseJobs s).report.periodStart = s.report.periodStart ∧ (raiseJobs s).report.queue = s.report.queue ∧
    (raiseJobs s).report.nextSlot = s.report.nextSlot ∧ (raiseJobs s).report.nextSeq = s.report.nextSeq ∧
    (raiseJobs s).report.drops = s.report.drops ∧ (raiseJobs s).report.ring = s.report.ring ∧
    (raiseJobs s).link.straps = s.link.straps ∧ (raiseJobs s).link.transfer = s.link.transfer := by
  unfold raiseJobs freezeReport nextChoice; dsimp only; repeat' split
  all_goals simp

@[simp] theorem takeEntry_report (s : State) :
    (takeEntry s).1.report.latches = s.report.latches ∧ (takeEntry s).1.report.accessCount = s.report.accessCount ∧
    (takeEntry s).1.report.lastAccess = s.report.lastAccess ∧
    (takeEntry s).1.report.accessOver = s.report.accessOver ∧ (takeEntry s).1.report.begun = s.report.begun ∧ (takeEntry s).1.report.again = s.report.again ∧
    (takeEntry s).1.report.periodStart = s.report.periodStart ∧ (takeEntry s).1.report.drops = s.report.drops ∧
    (takeEntry s).1.report.ring = s.report.ring ∧ (takeEntry s).1.report.seq = s.report.seq ∧
    (takeEntry s).1.report.write = s.report.write := by
  unfold takeEntry; split <;> simp

@[simp] theorem arbitrate_report (s : State) :
    (arbitrate s).report.latches = s.report.latches ∧ (arbitrate s).report.accessCount = s.report.accessCount ∧
    (arbitrate s).report.lastAccess = s.report.lastAccess ∧
    (arbitrate s).report.accessOver = s.report.accessOver ∧ (arbitrate s).report.begun = s.report.begun ∧ (arbitrate s).report.again = s.report.again ∧
    (arbitrate s).report.periodStart = s.report.periodStart ∧ (arbitrate s).report.drops = s.report.drops ∧
    (arbitrate s).report.ring = s.report.ring ∧ (arbitrate s).report.seq = s.report.seq ∧
    (arbitrate s).report.write = s.report.write ∧ (arbitrate s).link.straps = s.link.straps := by
  unfold arbitrate grant grantedTransfer; repeat' split
  all_goals simp

@[simp] theorem settle_cmd (s : State) : (settle s).cmd = s.cmd := by simp [settle]
@[simp] theorem settle_tel (s : State) : (settle s).tel = s.tel := by simp [settle]

@[simp] theorem settle_settings (s : State) :
    (settle s).settings.inForce = s.settings.inForce ∧ (settle s).settings.restricted = s.settings.restricted ∧
    (settle s).settings.pending = s.settings.pending ∧ (settle s).settings.status = s.settings.status ∧
    (settle s).settings.check = s.settings.check ∧ (settle s).settings.restarting = s.settings.restarting ∧
    (settle s).settings.scan = s.settings.scan := by
  simp [settle]

@[simp] theorem settle_pages (s : State) :
    (settle s).pages.active = s.pages.active ∧ (settle s).pages.swap = s.pages.swap ∧
    (settle s).pages.valid = s.pages.valid ∧ (settle s).pages.result = s.pages.result ∧
    (settle s).pages.check = s.pages.check ∧ (settle s).pages.stepIndex = s.pages.stepIndex := by
  simp [settle]

@[simp] theorem settle_report (s : State) :
    (settle s).report.latches = s.report.latches ∧ (settle s).report.accessCount = s.report.accessCount ∧
    (settle s).report.lastAccess = s.report.lastAccess ∧
    (settle s).report.accessOver = s.report.accessOver ∧ (settle s).report.begun = s.report.begun ∧ (settle s).report.again = s.report.again ∧
    (settle s).report.periodStart = s.report.periodStart ∧ (settle s).report.drops = s.report.drops ∧
    (settle s).report.ring = s.report.ring := by
  simp [settle]

@[simp] theorem settle_straps (s : State) : (settle s).link.straps = s.link.straps := by simp [settle]

/-! ### Events that reset the governor -/

@[simp] theorem restartNow_kept (levels : BitVec 8) (s : State) :
    (restartNow levels s).now = s.now ∧ (restartNow levels s).pending = s.pending ∧ (restartNow levels s).mem = s.mem := by
  unfold restartNow; dsimp only; repeat' split
  all_goals simp [resetSoft, storeResult, markTaken]

@[simp] theorem resetHard_kept (straps : Fin 4) (levels : BitVec 8) (acked : Nat) (s : State) :
    (resetHard straps levels acked s).now = s.now ∧ (resetHard straps levels acked s).pending = s.pending :=
  ⟨rfl, rfl⟩

@[simp] theorem resetEvent_kept {f : State → State} (h : ∀ u, (f u).now = u.now ∧ (f u).pending = u.pending) (dt : Nat)
    (s : State) :
    (resetEvent f dt s).now = s.now + dt ∧ (resetEvent f dt s).pending = s.pending ∧
    (resetEvent f dt s).est.owed = false := by
  simp [resetEvent, h]

/-- R202: right after a hard reset the start-up read is on the M-port, so nothing else begins. -/
theorem settle_resetHard (straps : Fin 4) (levels : BitVec 8) (acked : Nat) (s : State) :
    settle (deliver (resetHard straps levels acked s)) = resetHard straps levels acked s := by
  rw [deliver_of_not_owed (by rfl)]
  have c : releasePort .c (resetHard straps levels acked s) = resetHard straps levels acked s := releasePort_idle rfl rfl
  have d : releasePort .d (resetHard straps levels acked s) = resetHard straps levels acked s := releasePort_idle rfl rfl
  have l : leaveDrainWait (resetHard straps levels acked s) = resetHard straps levels acked s := if_neg (by
    intro h; exact absurd h.1 (by intro k; cases k))
  have w : wantOf (resetHard straps levels acked s) .settings (settingsWant (resetHard straps levels acked s)) ++
      wantOf (resetHard straps levels acked s) .pages (pagesWant (resetHard straps levels acked s)) ++
      wantOf (resetHard straps levels acked s) .report (reportWant (resetHard straps levels acked s)) = [] := rfl
  have r : raiseJobs (resetHard straps levels acked s) = resetHard straps levels acked s := by
    unfold raiseJobs; rw [w]; rfl
  unfold settle; rw [c, d, l, r]; rfl

/-! ### What a failed internal transfer leaves in the FRAM -/

/-- Stores of the same bytes keep equal FRAMs equal. -/
theorem storeBytes_mem_congr : ∀ (l : List Byte) {s t : State} {a : Nat}, s.mem = t.mem →
    (storeBytes s a l).mem = (storeBytes t a l).mem
  | [], _, _, _, h => h
  | v :: rest, s, t, a, h => by
    refine storeBytes_mem_congr rest (s := storeByte s a v) (t := storeByte t a v) ?_
    unfold storeByte
    split
    · simp [h]
    · exact h

/-- R194: a failed log write leaves its slot as it was. -/
@[simp] theorem partialWrite_logWrite (a : Nat) (l : List Byte) (cause : FailCause) (s : State) :
    partialWrite (.logWrite a l) cause s = s := by cases cause <;> rfl

/-- What a failed write leaves depends on the FRAM alone. -/
theorem partialWrite_mem_congr (j : Job) (cause : FailCause) {s t : State} (h : s.mem = t.mem) :
    (partialWrite j cause s).mem = (partialWrite j cause t).mem := by
  cases cause with
  | dataByte acked => exact storeBytes_mem_congr _ h
  | deviceAddress | memoryAddress => exact h

/-- R184: a failed internal transfer changes the FRAM by what its write leaves and by nothing else. -/
theorem failTransfer_job_mem {t : Transfer} {j : Job} {o : Bool} {cause : FailCause} {s : State} (h : s.link.transfer = some t)
    (k : t.kind = .job j o) (fits : causeFits t cause = true) : (failTransfer cause s).mem = (partialWrite j cause s).mem := by
  have e : (partialWrite j cause (raiseFault .memoryFault (setTransfer s none))).mem = (partialWrite j cause s).mem :=
    partialWrite_mem_congr j cause (by simp)
  simp only [failTransfer, h, fits, if_true, k]
  split <;> simp [e]

end Sys2Proof.Machine
end

