-- ==== Sys2Proof/Laws/Faults.lean ====
section
/-! SUPPORT. The operations that leave the access faults and the fault latch set as they are. -/

namespace Sys2Proof.Machine

@[simp] theorem unordered_report_accessCount {f g : State → State} (hf : ∀ u, (f u).report.accessCount = u.report.accessCount) (hg : ∀ u, (g u).report.accessCount = u.report.accessCount) (s : State) :
    (unordered f g s).report.accessCount = s.report.accessCount := by
  unfold unordered nextChoice; (repeat' split) <;> simp [hf, hg]

@[simp] theorem unordered_report_lastAccess {f g : State → State} (hf : ∀ u, (f u).report.lastAccess = u.report.lastAccess) (hg : ∀ u, (g u).report.lastAccess = u.report.lastAccess) (s : State) :
    (unordered f g s).report.lastAccess = s.report.lastAccess := by
  unfold unordered nextChoice; (repeat' split) <;> simp [hf, hg]

@[simp] theorem unordered3_report_accessCount {f g h : State → State} (hf : ∀ u, (f u).report.accessCount = u.report.accessCount) (hg : ∀ u, (g u).report.accessCount = u.report.accessCount) (hh : ∀ u, (h u).report.accessCount = u.report.accessCount) (s : State) :
    (unordered3 f g h s).report.accessCount = s.report.accessCount := by
  unfold unordered3 nextChoice; (repeat' split) <;> simp [hf, hg, hh]

@[simp] theorem unordered3_report_lastAccess {f g h : State → State} (hf : ∀ u, (f u).report.lastAccess = u.report.lastAccess) (hg : ∀ u, (g u).report.lastAccess = u.report.lastAccess) (hh : ∀ u, (h u).report.lastAccess = u.report.lastAccess) (s : State) :
    (unordered3 f g h s).report.lastAccess = s.report.lastAccess := by
  unfold unordered3 nextChoice; (repeat' split) <;> simp [hf, hg, hh]

@[simp] theorem trigger_access (s : State) :
    (trigger s).report.accessCount = s.report.accessCount ∧ (trigger s).report.lastAccess = s.report.lastAccess := by
  unfold trigger; (try dsimp only); (repeat' split) <;> simp

@[simp] theorem raiseFault_access (k : FaultKind) (s : State) :
    (raiseFault k s).report.accessCount = s.report.accessCount ∧ (raiseFault k s).report.lastAccess = s.report.lastAccess := by
  unfold raiseFault; (try dsimp only); (repeat' split) <;> simp

@[simp] theorem dropEntry_access (s : State) :
    (dropEntry s).report.accessCount = s.report.accessCount ∧ (dropEntry s).report.lastAccess = s.report.lastAccess := by
  unfold dropEntry; (try dsimp only); (repeat' split) <;> simp

@[simp] theorem askLog_access (d : LogDetail) (s : State) :
    (askLog d s).report.accessCount = s.report.accessCount ∧ (askLog d s).report.lastAccess = s.report.lastAccess := by
  unfold askLog; (try dsimp only); (repeat' split) <;> simp

@[simp] theorem setEstimate_access (x : Estimate) (s : State) :
    (setEstimate x s).report.accessCount = s.report.accessCount ∧ (setEstimate x s).report.lastAccess = s.report.lastAccess := by
  unfold setEstimate; (try dsimp only); (repeat' split) <;> simp

@[simp] theorem flush_access (s : State) :
    (flush s).report.accessCount = s.report.accessCount ∧ (flush s).report.lastAccess = s.report.lastAccess := by
  unfold flush; (try dsimp only); (repeat' split) <;> simp

@[simp] theorem gapMark_access (s : State) :
    (gapMark s).report.accessCount = s.report.accessCount ∧ (gapMark s).report.lastAccess = s.report.lastAccess := by
  unfold gapMark; (try dsimp only); (repeat' split) <;> simp

@[simp] theorem changeover_access (v : Nat) (s : State) :
    (changeover v s).report.accessCount = s.report.accessCount ∧ (changeover v s).report.lastAccess = s.report.lastAccess := by
  unfold changeover; (try dsimp only); (repeat' split) <;> simp

@[simp] theorem recompute_access (joined : Option Record) (s : State) :
    (recompute joined s).report.accessCount = s.report.accessCount ∧ (recompute joined s).report.lastAccess = s.report.lastAccess := by
  unfold recompute; (try dsimp only); (repeat' split) <;> simp

@[simp] theorem joinWindow_access (r : Record) (s : State) :
    (joinWindow r s).report.accessCount = s.report.accessCount ∧ (joinWindow r s).report.lastAccess = s.report.lastAccess := by
  unfold joinWindow; (try dsimp only); (repeat' split) <;> simp

@[simp] theorem takeStaleMark_access (mark : Word32) (s : State) :
    (takeStaleMark mark s).report.accessCount = s.report.accessCount ∧ (takeStaleMark mark s).report.lastAccess = s.report.lastAccess := by
  unfold takeStaleMark; (try dsimp only); (repeat' split) <;> simp

@[simp] theorem adoptEstimator_access (s : State) :
    (adoptEstimator s).report.accessCount = s.report.accessCount ∧ (adoptEstimator s).report.lastAccess = s.report.lastAccess := by
  unfold adoptEstimator; (try dsimp only); (repeat' split) <;> simp

@[simp] theorem accountPass_access (p : PassRecord) (volume : Nat) (s : State) :
    (accountPass p volume s).report.accessCount = s.report.accessCount ∧ (accountPass p volume s).report.lastAccess = s.report.lastAccess := by
  unfold accountPass; (try dsimp only); (repeat' split) <;> simp

@[simp] theorem closeProRata_access (s : State) :
    (closeProRata s).report.accessCount = s.report.accessCount ∧ (closeProRata s).report.lastAccess = s.report.lastAccess := by
  unfold closeProRata; (try dsimp only); (repeat' split) <;> simp

@[simp] theorem passCheck_access (s : State) :
    (passCheck s).report.accessCount = s.report.accessCount ∧ (passCheck s).report.lastAccess = s.report.lastAccess := by
  unfold passCheck; (try dsimp only); (repeat' split) <;> simp

@[simp] theorem cutQueue_access (cause : CutCause) (s : State) :
    (cutQueue cause s).report.accessCount = s.report.accessCount ∧ (cutQueue cause s).report.lastAccess = s.report.lastAccess := by
  unfold cutQueue; (try dsimp only); (repeat' split) <;> simp

@[simp] theorem drain_access (s : State) :
    (drain s).report.accessCount = s.report.accessCount ∧ (drain s).report.lastAccess = s.report.lastAccess := by
  unfold drain; (try dsimp only); (repeat' split) <;> simp

@[simp] theorem dosingSpeed_access (v : Nat) (s : State) :
    (dosingSpeed v s).report.accessCount = s.report.accessCount ∧ (dosingSpeed v s).report.lastAccess = s.report.lastAccess := by
  unfold dosingSpeed; (try dsimp only); (repeat' split) <;> simp

@[simp] theorem countSettle_access (s : State) :
    (countSettle s).report.accessCount = s.report.accessCount ∧ (countSettle s).report.lastAccess = s.report.lastAccess := by
  unfold countSettle; (try dsimp only); (repeat' split) <;> simp

@[simp] theorem enterState_access (st : GovState) (mv : Move) (target : Nat) (band : Option (Fin 6)) (s : State) :
    (enterState st mv target band s).report.accessCount = s.report.accessCount ∧ (enterState st mv target band s).report.lastAccess = s.report.lastAccess := by
  unfold enterState; (try dsimp only); (repeat' split) <;> simp

@[simp] theorem enterHold_access (s : State) :
    (enterHold s).report.accessCount = s.report.accessCount ∧ (enterHold s).report.lastAccess = s.report.lastAccess := by
  unfold enterHold; (try dsimp only); (repeat' split) <;> simp

@[simp] theorem enterCross_access (k : Fin 6) (s : State) :
    (enterCross k s).report.accessCount = s.report.accessCount ∧ (enterCross k s).report.lastAccess = s.report.lastAccess := by
  unfold enterCross; (try dsimp only); (repeat' split) <;> simp

@[simp] theorem enterRetreat_access (k : Fin 6) (s : State) :
    (enterRetreat k s).report.accessCount = s.report.accessCount ∧ (enterRetreat k s).report.lastAccess = s.report.lastAccess := by
  unfold enterRetreat; (try dsimp only); (repeat' split) <;> simp

@[simp] theorem enterWait_access (k : Fin 6) (s : State) :
    (enterWait k s).report.accessCount = s.report.accessCount ∧ (enterWait k s).report.lastAccess = s.report.lastAccess := by
  unfold enterWait; (try dsimp only); (repeat' split) <;> simp

@[simp] theorem climb_access (s : State) :
    (climb s).report.accessCount = s.report.accessCount ∧ (climb s).report.lastAccess = s.report.lastAccess := by
  unfold climb; (try dsimp only); (repeat' split) <;> simp

@[simp] theorem forceDown_access (s : State) :
    (forceDown s).report.accessCount = s.report.accessCount ∧ (forceDown s).report.lastAccess = s.report.lastAccess := by
  unfold forceDown; (try dsimp only); (repeat' split) <;> simp

@[simp] theorem stateLogic_access (dropped : Bool) (s : State) :
    (stateLogic dropped s).report.accessCount = s.report.accessCount ∧ (stateLogic dropped s).report.lastAccess = s.report.lastAccess := by
  unfold stateLogic; (try dsimp only); (repeat' split) <;> simp

@[simp] theorem recomputeCeiling_access (s : State) :
    (recomputeCeiling s).report.accessCount = s.report.accessCount ∧ (recomputeCeiling s).report.lastAccess = s.report.lastAccess := by
  unfold recomputeCeiling; (try dsimp only); (repeat' split) <;> simp

@[simp] theorem leaveStep_access (s : State) :
    (leaveStep s).report.accessCount = s.report.accessCount ∧ (leaveStep s).report.lastAccess = s.report.lastAccess := by
  unfold leaveStep; (try dsimp only); (repeat' split) <;> simp

@[simp] theorem enterStopping_access (s : State) :
    (enterStopping s).report.accessCount = s.report.accessCount ∧ (enterStopping s).report.lastAccess = s.report.lastAccess := by
  unfold enterStopping; (try dsimp only); (repeat' split) <;> simp

@[simp] theorem setRunnerState_access (st : RunnerState) (s : State) :
    (setRunnerState st s).report.accessCount = s.report.accessCount ∧ (setRunnerState st s).report.lastAccess = s.report.lastAccess := by
  unfold setRunnerState; (try dsimp only); (repeat' split) <;> simp

@[simp] theorem abortPlan_access (why : EndReason) (s : State) :
    (abortPlan why s).report.accessCount = s.report.accessCount ∧ (abortPlan why s).report.lastAccess = s.report.lastAccess := by
  unfold abortPlan; (try dsimp only); (repeat' split) <;> simp

@[simp] theorem logTrip_access (k : FaultKind) (step : Option Nat) (s : State) :
    (logTrip k step s).report.accessCount = s.report.accessCount ∧ (logTrip k step s).report.lastAccess = s.report.lastAccess := by
  unfold logTrip; (try dsimp only); (repeat' split) <;> simp

@[simp] theorem detect_access (k : FaultKind) (s : State) :
    (detect k s).report.accessCount = s.report.accessCount ∧ (detect k s).report.lastAccess = s.report.lastAccess := by
  unfold detect; (try dsimp only); (repeat' split) <;> simp

@[simp] theorem runBeginTests_access (s : State) :
    (runBeginTests s).report.accessCount = s.report.accessCount ∧ (runBeginTests s).report.lastAccess = s.report.lastAccess := by
  unfold runBeginTests; (try dsimp only); (repeat' split) <;> simp

@[simp] theorem aimAtStep_access (p : PlanStep) (s : State) :
    (aimAtStep p s).report.accessCount = s.report.accessCount ∧ (aimAtStep p s).report.lastAccess = s.report.lastAccess := by
  unfold aimAtStep; (try dsimp only); (repeat' split) <;> simp

@[simp] theorem stepEntry_access (i : Nat) (s : State) :
    (stepEntry i s).report.accessCount = s.report.accessCount ∧ (stepEntry i s).report.lastAccess = s.report.lastAccess := by
  unfold stepEntry; (try dsimp only); (repeat' split) <;> simp

@[simp] theorem nextStep_access (s : State) :
    (nextStep s).report.accessCount = s.report.accessCount ∧ (nextStep s).report.lastAccess = s.report.lastAccess := by
  unfold nextStep; (try dsimp only); (repeat' split) <;> simp

@[simp] theorem stepFails_access (why : FailReason) (s : State) :
    (stepFails why s).report.accessCount = s.report.accessCount ∧ (stepFails why s).report.lastAccess = s.report.lastAccess := by
  unfold stepFails; (try dsimp only); (repeat' split) <;> simp

@[simp] theorem judgeStep_access (s : State) :
    (judgeStep s).report.accessCount = s.report.accessCount ∧ (judgeStep s).report.lastAccess = s.report.lastAccess := by
  unfold judgeStep; (try dsimp only); (repeat' split) <;> simp

@[simp] theorem balanceTest_access (s : State) :
    (balanceTest s).report.accessCount = s.report.accessCount ∧ (balanceTest s).report.lastAccess = s.report.lastAccess := by
  unfold balanceTest; (try dsimp only); (repeat' split) <;> simp

@[simp] theorem guardFails_access (k : Fin 6) (s : State) :
    (guardFails k s).report.accessCount = s.report.accessCount ∧ (guardFails k s).report.lastAccess = s.report.lastAccess := by
  unfold guardFails; (try dsimp only); (repeat' split) <;> simp

@[simp] theorem guardTest_access (s : State) :
    (guardTest s).report.accessCount = s.report.accessCount ∧ (guardTest s).report.lastAccess = s.report.lastAccess := by
  unfold guardTest; (try dsimp only); (repeat' split) <;> simp

@[simp] theorem recomputeClass_access (s : State) :
    (recomputeClass s).report.accessCount = s.report.accessCount ∧ (recomputeClass s).report.lastAccess = s.report.lastAccess := by
  unfold recomputeClass; (try dsimp only); (repeat' split) <;> simp

@[simp] theorem waitTest_access (s : State) :
    (waitTest s).report.accessCount = s.report.accessCount ∧ (waitTest s).report.lastAccess = s.report.lastAccess := by
  unfold waitTest; (try dsimp only); (repeat' split) <;> simp

@[simp] theorem governorEstimate_access (s : State) :
    (governorEstimate s).report.accessCount = s.report.accessCount ∧ (governorEstimate s).report.lastAccess = s.report.lastAccess := by
  unfold governorEstimate; (try dsimp only); (repeat' split) <;> simp

@[simp] theorem sensorCheck_access (s : State) :
    (sensorCheck s).report.accessCount = s.report.accessCount ∧ (sensorCheck s).report.lastAccess = s.report.lastAccess := by
  unfold sensorCheck; (try dsimp only); (repeat' split) <;> simp

@[simp] theorem bandPassed_access (s : State) :
    (bandPassed s).report.accessCount = s.report.accessCount ∧ (bandPassed s).report.lastAccess = s.report.lastAccess := by
  unfold bandPassed; (try dsimp only); (repeat' split) <;> simp

@[simp] theorem governorSpeed_access (old : Nat) (s : State) :
    (governorSpeed old s).report.accessCount = s.report.accessCount ∧ (governorSpeed old s).report.lastAccess = s.report.lastAccess := by
  unfold governorSpeed; (try dsimp only); (repeat' split) <;> simp

@[simp] theorem windowedTest_access (s : State) :
    (windowedTest s).report.accessCount = s.report.accessCount ∧ (windowedTest s).report.lastAccess = s.report.lastAccess := by
  unfold windowedTest; (try dsimp only); (repeat' split) <;> simp

@[simp] theorem arrive_access (s : State) :
    (arrive s).report.accessCount = s.report.accessCount ∧ (arrive s).report.lastAccess = s.report.lastAccess := by
  unfold arrive; (try dsimp only); (repeat' split) <;> simp

@[simp] theorem arrivalTest_access (s : State) :
    (arrivalTest s).report.accessCount = s.report.accessCount ∧ (arrivalTest s).report.lastAccess = s.report.lastAccess := by
  unfold arrivalTest; (try dsimp only); (repeat' split) <;> simp

@[simp] theorem governorBoundary_access (s : State) :
    (governorBoundary s).report.accessCount = s.report.accessCount ∧ (governorBoundary s).report.lastAccess = s.report.lastAccess := by
  unfold governorBoundary; (try dsimp only); (repeat' split) <;> simp

@[simp] theorem enterIdle_access (s : State) :
    (enterIdle s).report.accessCount = s.report.accessCount ∧ (enterIdle s).report.lastAccess = s.report.lastAccess := by
  unfold enterIdle; (try dsimp only); (repeat' split) <;> simp

@[simp] theorem donePlan_access (s : State) :
    (donePlan s).report.accessCount = s.report.accessCount ∧ (donePlan s).report.lastAccess = s.report.lastAccess := by
  unfold donePlan; (try dsimp only); (repeat' split) <;> simp

@[simp] theorem dropSettledClass_access (s : State) :
    (dropSettledClass s).report.accessCount = s.report.accessCount ∧ (dropSettledClass s).report.lastAccess = s.report.lastAccess := by
  unfold dropSettledClass; (try dsimp only); (repeat' split) <;> simp

@[simp] theorem restMove_access (s : State) :
    (restMove s).report.accessCount = s.report.accessCount ∧ (restMove s).report.lastAccess = s.report.lastAccess := by
  unfold restMove; (try dsimp only); (repeat' split) <;> simp

@[simp] theorem governorRest_access (s : State) :
    (governorRest s).report.accessCount = s.report.accessCount ∧ (governorRest s).report.lastAccess = s.report.lastAccess := by
  unfold governorRest; (try dsimp only); (repeat' split) <;> simp

@[simp] theorem referenceTest_access (s : State) :
    (referenceTest s).report.accessCount = s.report.accessCount ∧ (referenceTest s).report.lastAccess = s.report.lastAccess := by
  unfold referenceTest; (try dsimp only); (repeat' split) <;> simp

@[simp] theorem spinPermitChanged_access (s : State) :
    (spinPermitChanged s).report.accessCount = s.report.accessCount ∧ (spinPermitChanged s).report.lastAccess = s.report.lastAccess := by
  unfold spinPermitChanged; (try dsimp only); (repeat' split) <;> simp

@[simp] theorem knockRaised_access (s : State) :
    (knockRaised s).report.accessCount = s.report.accessCount ∧ (knockRaised s).report.lastAccess = s.report.lastAccess := by
  unfold knockRaised; (try dsimp only); (repeat' split) <;> simp

@[simp] theorem plannerUpdate_access (s : State) :
    (plannerUpdate s).report.accessCount = s.report.accessCount ∧ (plannerUpdate s).report.lastAccess = s.report.lastAccess := by
  unfold plannerUpdate; (try dsimp only); (repeat' split) <;> simp

@[simp] theorem handUpdate_access (s : State) :
    (handUpdate s).report.accessCount = s.report.accessCount ∧ (handUpdate s).report.lastAccess = s.report.lastAccess := by
  unfold handUpdate; (try dsimp only); (repeat' split) <;> simp

@[simp] theorem deliverTimes_access (n : Nat) (s : State) :
    (deliverTimes n s).report.accessCount = s.report.accessCount ∧ (deliverTimes n s).report.lastAccess = s.report.lastAccess := by
  induction n generalizing s with
  | zero => simp [deliverTimes]
  | succ n ih => unfold deliverTimes; split <;> simp [ih]

@[simp] theorem deliver_access (s : State) :
    (deliver s).report.accessCount = s.report.accessCount ∧ (deliver s).report.lastAccess = s.report.lastAccess := by
  unfold deliver; (try dsimp only); (repeat' split) <;> simp

@[simp] theorem excursionFault_access (before : Nat) (s : State) :
    (excursionFault before s).report.accessCount = s.report.accessCount ∧ (excursionFault before s).report.lastAccess = s.report.lastAccess := by
  unfold excursionFault; (try dsimp only); (repeat' split) <;> simp

@[simp] theorem sensorFault_access (s : State) :
    (sensorFault s).report.accessCount = s.report.accessCount ∧ (sensorFault s).report.lastAccess = s.report.lastAccess := by
  unfold sensorFault; (try dsimp only); (repeat' split) <;> simp

@[simp] theorem recover_access (r : BoundaryReport) (s : State) :
    (recover r s).report.accessCount = s.report.accessCount ∧ (recover r s).report.lastAccess = s.report.lastAccess := by
  unfold recover; (try dsimp only); (repeat' split) <;> simp

@[simp] theorem addRecord_access (r : BoundaryReport) (s : State) :
    (addRecord r s).report.accessCount = s.report.accessCount ∧ (addRecord r s).report.lastAccess = s.report.lastAccess := by
  unfold addRecord; (try dsimp only); (repeat' split) <;> simp

@[simp] theorem estimatorReport_access (r : BoundaryReport) (s : State) :
    (estimatorReport r s).report.accessCount = s.report.accessCount ∧ (estimatorReport r s).report.lastAccess = s.report.lastAccess := by
  unfold estimatorReport; (try dsimp only); (repeat' split) <;> simp

@[simp] theorem anchorCheck_access (s : State) :
    (anchorCheck s).report.accessCount = s.report.accessCount ∧ (anchorCheck s).report.lastAccess = s.report.lastAccess := by
  unfold anchorCheck; (try dsimp only); (repeat' split) <;> simp

@[simp] theorem gapIf_access (b : Bool) (s : State) :
    (gapIf b s).report.accessCount = s.report.accessCount ∧ (gapIf b s).report.lastAccess = s.report.lastAccess := by
  unfold gapIf; (try dsimp only); (repeat' split) <;> simp

@[simp] theorem reselect_access (old s : State) :
    (reselect old s).report.accessCount = s.report.accessCount ∧ (reselect old s).report.lastAccess = s.report.lastAccess := by
  unfold reselect; (try dsimp only); (repeat' split) <;> simp

@[simp] theorem handSpeed_access (old s : State) :
    (handSpeed old s).report.accessCount = s.report.accessCount ∧ (handSpeed old s).report.lastAccess = s.report.lastAccess := by
  unfold handSpeed; (try dsimp only); (repeat' split) <;> simp

@[simp] theorem openingBoundary_access (period : Nat) (s : State) :
    (openingBoundary period s).report.accessCount = s.report.accessCount ∧ (openingBoundary period s).report.lastAccess = s.report.lastAccess := by
  unfold openingBoundary; (try dsimp only); (repeat' split) <;> simp

@[simp] theorem switchPreferred_access (s : State) :
    (switchPreferred s).report.accessCount = s.report.accessCount ∧ (switchPreferred s).report.lastAccess = s.report.lastAccess := by
  unfold switchPreferred; (try dsimp only); (repeat' split) <;> simp

@[simp] theorem revolutionBoundary_access (src : Source) (r : Revolution) (s : State) :
    (revolutionBoundary src r s).report.accessCount = s.report.accessCount ∧ (revolutionBoundary src r s).report.lastAccess = s.report.lastAccess := by
  unfold revolutionBoundary; (try dsimp only); (repeat' split) <;> simp

@[simp] theorem boundary_access (src : Source) (period : Nat) (s : State) :
    (boundary src period s).report.accessCount = s.report.accessCount ∧ (boundary src period s).report.lastAccess = s.report.lastAccess := by
  unfold boundary; (try dsimp only); (repeat' split) <;> simp

@[simp] theorem discardRev_access (moved : Bool) (s : State) :
    (discardRev moved s).report.accessCount = s.report.accessCount ∧ (discardRev moved s).report.lastAccess = s.report.lastAccess := by
  unfold discardRev; (try dsimp only); (repeat' split) <;> simp

@[simp] theorem indexAccepted_access (s : State) :
    (indexAccepted s).report.accessCount = s.report.accessCount ∧ (indexAccepted s).report.lastAccess = s.report.lastAccess := by
  unfold indexAccepted; (try dsimp only); (repeat' split) <;> simp

@[simp] theorem commAccepted_access (s : State) :
    (commAccepted s).report.accessCount = s.report.accessCount ∧ (commAccepted s).report.lastAccess = s.report.lastAccess := by
  unfold commAccepted; (try dsimp only); (repeat' split) <;> simp

@[simp] theorem loseSource_access (src : Source) (s : State) :
    (loseSource src s).report.accessCount = s.report.accessCount ∧ (loseSource src s).report.lastAccess = s.report.lastAccess := by
  unfold loseSource; (try dsimp only); (repeat' split) <;> simp

@[simp] theorem foundAtRest_access (s : State) :
    (foundAtRest s).report.accessCount = s.report.accessCount ∧ (foundAtRest s).report.lastAccess = s.report.lastAccess := by
  unfold foundAtRest; (try dsimp only); (repeat' split) <;> simp

@[simp] theorem adoptTiming_access (old : ReferenceSettings) (s : State) :
    (adoptTiming old s).report.accessCount = s.report.accessCount ∧ (adoptTiming old s).report.lastAccess = s.report.lastAccess := by
  unfold adoptTiming; (try dsimp only); (repeat' split) <;> simp

@[simp] theorem governorFlags_access (old : Lines) (s : State) :
    (governorFlags old s).report.accessCount = s.report.accessCount ∧ (governorFlags old s).report.lastAccess = s.report.lastAccess := by
  unfold governorFlags; (try dsimp only); (repeat' split) <;> simp

@[simp] theorem evaluateTests_access (s : State) :
    (evaluateTests s).report.accessCount = s.report.accessCount ∧ (evaluateTests s).report.lastAccess = s.report.lastAccess := by
  unfold evaluateTests; (try dsimp only); (repeat' split) <;> simp

@[simp] theorem acceptChange_access (n : Fin 8) (s : State) :
    (acceptChange n s).report.accessCount = s.report.accessCount ∧ (acceptChange n s).report.lastAccess = s.report.lastAccess := by
  unfold acceptChange; (try dsimp only); (repeat' split) <;> simp

@[simp] theorem adoptLines_access (s : State) :
    (adoptLines s).report.accessCount = s.report.accessCount ∧ (adoptLines s).report.lastAccess = s.report.lastAccess := by
  unfold adoptLines; (try dsimp only); (repeat' split) <;> simp

@[simp] theorem freezeReport_access (s : State) :
    (freezeReport s).report.accessCount = s.report.accessCount ∧ (freezeReport s).report.lastAccess = s.report.lastAccess := by
  unfold freezeReport; (try dsimp only); (repeat' split) <;> simp

@[simp] theorem grantedTransfer_access (s : State) (r : Requester) :
    (grantedTransfer s r).1.report.accessCount = s.report.accessCount ∧ (grantedTransfer s r).1.report.lastAccess = s.report.lastAccess := by
  unfold grantedTransfer; (try dsimp only); (repeat' split) <;> simp

@[simp] theorem grant_access (r : Requester) (s : State) :
    (grant r s).report.accessCount = s.report.accessCount ∧ (grant r s).report.lastAccess = s.report.lastAccess := by
  unfold grant; (try dsimp only); (repeat' split) <;> simp

@[simp] theorem completeJob_report_accessCount (p : Job → Bool) {act : Job → State → State} (h : ∀ j u, (act j u).report.accessCount = u.report.accessCount) (s : State) :
    (completeJob p act s).report.accessCount = s.report.accessCount := by
  unfold completeJob; (try dsimp only); (repeat' split) <;> simp [h]

@[simp] theorem completeJob_report_lastAccess (p : Job → Bool) {act : Job → State → State} (h : ∀ j u, (act j u).report.lastAccess = u.report.lastAccess) (s : State) :
    (completeJob p act s).report.lastAccess = s.report.lastAccess := by
  unfold completeJob; (try dsimp only); (repeat' split) <;> simp [h]

@[simp] theorem granuleWritten_access (s : State) :
    (granuleWritten s).report.accessCount = s.report.accessCount ∧ (granuleWritten s).report.lastAccess = s.report.lastAccess := by
  unfold granuleWritten; (try dsimp only); (repeat' split) <;> simp

@[simp] theorem granuleFailed_access (s : State) :
    (granuleFailed s).report.accessCount = s.report.accessCount ∧ (granuleFailed s).report.lastAccess = s.report.lastAccess := by
  unfold granuleFailed; (try dsimp only); (repeat' split) <;> simp

@[simp] theorem abandonReport_access (s : State) :
    (abandonReport s).report.accessCount = s.report.accessCount ∧ (abandonReport s).report.lastAccess = s.report.lastAccess := by
  unfold abandonReport; (try dsimp only); (repeat' split) <;> simp

@[simp] theorem commitResult_access (r : CommitResult) (check : Nat) (step : Option Nat) (id : Option Word16) (s : State) :
    (commitResult r check step id s).report.accessCount = s.report.accessCount ∧ (commitResult r check step id s).report.lastAccess = s.report.lastAccess := by
  unfold commitResult; (try dsimp only); (repeat' split) <;> simp

@[simp] theorem endSwap_access (r : CommitResult) (check : Nat) (step : Option Nat) (id : Option Word16) (s : State) :
    (endSwap r check step id s).report.accessCount = s.report.accessCount ∧ (endSwap r check step id s).report.lastAccess = s.report.lastAccess := by
  unfold endSwap; (try dsimp only); (repeat' split) <;> simp

@[simp] theorem takeCommit_access (s : State) :
    (takeCommit s).report.accessCount = s.report.accessCount ∧ (takeCommit s).report.lastAccess = s.report.lastAccess := by
  unfold takeCommit; (try dsimp only); (repeat' split) <;> simp

@[simp] theorem commitRecordDone_access (l : List Byte) (s : State) :
    (commitRecordDone l s).report.accessCount = s.report.accessCount ∧ (commitRecordDone l s).report.lastAccess = s.report.lastAccess := by
  unfold commitRecordDone; (try dsimp only); (repeat' split) <;> simp

@[simp] theorem flip_access (l : List Byte) (s : State) :
    (flip l s).report.accessCount = s.report.accessCount ∧ (flip l s).report.lastAccess = s.report.lastAccess := by
  unfold flip; (try dsimp only); (repeat' split) <;> simp

@[simp] theorem validatePage_access (noted : Option Word16) (l : List Byte) (s : State) :
    (validatePage noted l s).report.accessCount = s.report.accessCount ∧ (validatePage noted l s).report.lastAccess = s.report.lastAccess := by
  unfold validatePage; (try dsimp only); (repeat' split) <;> simp

@[simp] theorem validationDone_access (l : List Byte) (s : State) :
    (validationDone l s).report.accessCount = s.report.accessCount ∧ (validationDone l s).report.lastAccess = s.report.lastAccess := by
  unfold validationDone; (try dsimp only); (repeat' split) <;> simp

@[simp] theorem swapFailed_access (s : State) :
    (swapFailed s).report.accessCount = s.report.accessCount ∧ (swapFailed s).report.lastAccess = s.report.lastAccess := by
  unfold swapFailed; (try dsimp only); (repeat' split) <;> simp

@[simp] theorem setStatus_access (st : SettingsStatus) (check : Nat) (s : State) :
    (setStatus st check s).report.accessCount = s.report.accessCount ∧ (setStatus st check s).report.lastAccess = s.report.lastAccess := by
  unfold setStatus; (try dsimp only); (repeat' split) <;> simp

@[simp] theorem adoptPeriod_access (old : Settings) (s : State) :
    (adoptPeriod old s).report.accessCount = s.report.accessCount ∧ (adoptPeriod old s).report.lastAccess = s.report.lastAccess := by
  unfold adoptPeriod; (try dsimp only); (repeat' split) <;> simp

@[simp] theorem adoptRing_access (old : Settings) (s : State) :
    (adoptRing old s).report.accessCount = s.report.accessCount ∧ (adoptRing old s).report.lastAccess = s.report.lastAccess := by
  unfold adoptRing; (try dsimp only); (repeat' split) <;> simp

@[simp] theorem adoptSettings_access (new : Settings) (s : State) :
    (adoptSettings new s).report.accessCount = s.report.accessCount ∧ (adoptSettings new s).report.lastAccess = s.report.lastAccess := by
  unfold adoptSettings; (try dsimp only); (repeat' split) <;> simp

@[simp] theorem judgeImage_access (l : List Byte) (s : State) :
    (judgeImage l s).report.accessCount = s.report.accessCount ∧ (judgeImage l s).report.lastAccess = s.report.lastAccess := by
  unfold judgeImage; (try dsimp only); (repeat' split) <;> simp

@[simp] theorem rereadDone_access (l : List Byte) (s : State) :
    (rereadDone l s).report.accessCount = s.report.accessCount ∧ (rereadDone l s).report.lastAccess = s.report.lastAccess := by
  unfold rereadDone; (try dsimp only); (repeat' split) <;> simp

@[simp] theorem adoptPending_access (s : State) :
    (adoptPending s).report.accessCount = s.report.accessCount ∧ (adoptPending s).report.lastAccess = s.report.lastAccess := by
  unfold adoptPending; (try dsimp only); (repeat' split) <;> simp

@[simp] theorem openDevice_access (s : State) :
    (openDevice s).report.accessCount = s.report.accessCount ∧ (openDevice s).report.lastAccess = s.report.lastAccess := by
  unfold openDevice; (try dsimp only); (repeat' split) <;> simp

@[simp] theorem afterSettings_access (s : State) :
    (afterSettings s).report.accessCount = s.report.accessCount ∧ (afterSettings s).report.lastAccess = s.report.lastAccess := by
  unfold afterSettings; (try dsimp only); (repeat' split) <;> simp

@[simp] theorem startRestricted_access (check : Nat) (s : State) :
    (startRestricted check s).report.accessCount = s.report.accessCount ∧ (startRestricted check s).report.lastAccess = s.report.lastAccess := by
  unfold startRestricted; (try dsimp only); (repeat' split) <;> simp

@[simp] theorem judgeStartup_access (l : List Byte) (s : State) :
    (judgeStartup l s).report.accessCount = s.report.accessCount ∧ (judgeStartup l s).report.lastAccess = s.report.lastAccess := by
  unfold judgeStartup; (try dsimp only); (repeat' split) <;> simp

@[simp] theorem startupReadDone_access (l : List Byte) (s : State) :
    (startupReadDone l s).report.accessCount = s.report.accessCount ∧ (startupReadDone l s).report.lastAccess = s.report.lastAccess := by
  unfold startupReadDone; (try dsimp only); (repeat' split) <;> simp

@[simp] theorem startupFailed_access (s : State) :
    (startupFailed s).report.accessCount = s.report.accessCount ∧ (startupFailed s).report.lastAccess = s.report.lastAccess := by
  unfold startupFailed; (try dsimp only); (repeat' split) <;> simp

@[simp] theorem endScan_access (l : List (Nat × Word32)) (s : State) :
    (endScan l s).report.accessCount = s.report.accessCount ∧ (endScan l s).report.lastAccess = s.report.lastAccess := by
  unfold endScan; (try dsimp only); (repeat' split) <;> simp

@[simp] theorem slotScanned_access (l : List Byte) (s : State) :
    (slotScanned l s).report.accessCount = s.report.accessCount ∧ (slotScanned l s).report.lastAccess = s.report.lastAccess := by
  unfold slotScanned; (try dsimp only); (repeat' split) <;> simp

@[simp] theorem jobFailed_access (j : Job) (s : State) :
    (jobFailed j s).report.accessCount = s.report.accessCount ∧ (jobFailed j s).report.lastAccess = s.report.lastAccess := by
  unfold jobFailed; (try dsimp only); (repeat' split) <;> simp

@[simp] theorem drainFailed_access (p : Port) (taken : Nat) (cause : FailCause) (s : State) :
    (drainFailed p taken cause s).report.accessCount = s.report.accessCount ∧ (drainFailed p taken cause s).report.lastAccess = s.report.lastAccess := by
  unfold drainFailed; (try dsimp only); (repeat' split) <;> simp

@[simp] theorem failTransfer_access (cause : FailCause) (s : State) :
    (failTransfer cause s).report.accessCount = s.report.accessCount ∧ (failTransfer cause s).report.lastAccess = s.report.lastAccess := by
  unfold failTransfer; (try dsimp only); (repeat' split) <;> simp

@[simp] theorem setStanding_access (standing : Bool) (s : State) :
    (setStanding standing s).report.accessCount = s.report.accessCount ∧ (setStanding standing s).report.lastAccess = s.report.lastAccess := by
  unfold setStanding; (try dsimp only); (repeat' split) <;> simp

@[simp] theorem crossCount_access (disagrees : Bool) (s : State) :
    (crossCount disagrees s).report.accessCount = s.report.accessCount ∧ (crossCount disagrees s).report.lastAccess = s.report.lastAccess := by
  unfold crossCount; (try dsimp only); (repeat' split) <;> simp

@[simp] theorem crossCheck_access (drive : Nat) (s : State) :
    (crossCheck drive s).report.accessCount = s.report.accessCount ∧ (crossCheck drive s).report.lastAccess = s.report.lastAccess := by
  unfold crossCheck; (try dsimp only); (repeat' split) <;> simp

@[simp] theorem driveCheck_access (r : TelRecord) (s : State) :
    (driveCheck r s).report.accessCount = s.report.accessCount ∧ (driveCheck r s).report.lastAccess = s.report.lastAccess := by
  unfold driveCheck; (try dsimp only); (repeat' split) <;> simp

@[simp] theorem adoptTelemetry_access (s : State) :
    (adoptTelemetry s).report.accessCount = s.report.accessCount ∧ (adoptTelemetry s).report.lastAccess = s.report.lastAccess := by
  unfold adoptTelemetry; (try dsimp only); (repeat' split) <;> simp

@[simp] theorem ageExpires_access (s : State) :
    (ageExpires s).report.accessCount = s.report.accessCount ∧ (ageExpires s).report.lastAccess = s.report.lastAccess := by
  unfold ageExpires; (try dsimp only); (repeat' split) <;> simp

@[simp] theorem storeResult_access (r : CmdResult) (mask : Byte) (s : State) :
    (storeResult r mask s).report.accessCount = s.report.accessCount ∧ (storeResult r mask s).report.lastAccess = s.report.lastAccess := by
  unfold storeResult; (try dsimp only); (repeat' split) <;> simp

@[simp] theorem takeUp_report_accessCount (c : Byte → Bool) {body : State → Taken} (h : ∀ u, (body u).state.report.accessCount = u.report.accessCount) (s : State) :
    (takeUp c body s).report.accessCount = s.report.accessCount := by
  unfold takeUp; (try dsimp only); (repeat' split) <;> simp [h]

@[simp] theorem takeUp_report_lastAccess (c : Byte → Bool) {body : State → Taken} (h : ∀ u, (body u).state.report.lastAccess = u.report.lastAccess) (s : State) :
    (takeUp c body s).report.lastAccess = s.report.lastAccess := by
  unfold takeUp; (try dsimp only); (repeat' split) <;> simp [h]

@[simp] theorem startPlan_access (s : State) :
    (startPlan s).state.report.accessCount = s.report.accessCount ∧ (startPlan s).state.report.lastAccess = s.report.lastAccess := by
  unfold startPlan; (try dsimp only); (repeat' split) <;> simp

@[simp] theorem stopGovernor_access (s : State) :
    (stopGovernor s).report.accessCount = s.report.accessCount ∧ (stopGovernor s).report.lastAccess = s.report.lastAccess := by
  unfold stopGovernor; (try dsimp only); (repeat' split) <;> simp

@[simp] theorem stopPlan_access (s : State) :
    (stopPlan s).state.report.accessCount = s.report.accessCount ∧ (stopPlan s).state.report.lastAccess = s.report.lastAccess := by
  unfold stopPlan; (try dsimp only); (repeat' split) <;> simp

@[simp] theorem haltNow_access (s : State) :
    (haltNow s).state.report.accessCount = s.report.accessCount ∧ (haltNow s).state.report.lastAccess = s.report.lastAccess := by
  unfold haltNow; (try dsimp only); (repeat' split) <;> simp

@[simp] theorem resumePlan_access (s : State) :
    (resumePlan s).state.report.accessCount = s.report.accessCount ∧ (resumePlan s).state.report.lastAccess = s.report.lastAccess := by
  unfold resumePlan; (try dsimp only); (repeat' split) <;> simp

@[simp] theorem cancelDoses_access (s : State) :
    (cancelDoses s).state.report.accessCount = s.report.accessCount ∧ (cancelDoses s).state.report.lastAccess = s.report.lastAccess := by
  unfold cancelDoses; (try dsimp only); (repeat' split) <;> simp

@[simp] theorem clearLatches_access (mask : BitVec 11) (s : State) :
    (clearLatches mask s).report.accessCount = s.report.accessCount ∧ (clearLatches mask s).report.lastAccess = s.report.lastAccess := by
  unfold clearLatches; (try dsimp only); (repeat' split) <;> simp

@[simp] theorem ackFaults_access (s : State) :
    (ackFaults s).state.report.accessCount = s.report.accessCount ∧ (ackFaults s).state.report.lastAccess = s.report.lastAccess := by
  unfold ackFaults; (try dsimp only); (repeat' split) <;> simp

@[simp] theorem passClose_access (s : State) :
    (passClose s).report.accessCount = s.report.accessCount ∧ (passClose s).report.lastAccess = s.report.lastAccess := by
  unfold passClose; (try dsimp only); (repeat' split) <;> simp

@[simp] theorem holdExpiry_access (s : State) :
    (holdExpiry s).report.accessCount = s.report.accessCount ∧ (holdExpiry s).report.lastAccess = s.report.lastAccess := by
  unfold holdExpiry; (try dsimp only); (repeat' split) <;> simp

@[simp] theorem bandWaitExpiry_access (s : State) :
    (bandWaitExpiry s).report.accessCount = s.report.accessCount ∧ (bandWaitExpiry s).report.lastAccess = s.report.lastAccess := by
  unfold bandWaitExpiry; (try dsimp only); (repeat' split) <;> simp

@[simp] theorem fiveSecondMark_access (s : State) :
    (fiveSecondMark s).report.accessCount = s.report.accessCount ∧ (fiveSecondMark s).report.lastAccess = s.report.lastAccess := by
  unfold fiveSecondMark; (try dsimp only); (repeat' split) <;> simp

@[simp] theorem commitNow_access (s : State) :
    (commitNow s).report.accessCount = s.report.accessCount ∧ (commitNow s).report.lastAccess = s.report.lastAccess := by
  unfold commitNow; (try dsimp only); (repeat' split) <;> simp

@[simp] theorem periodExpiry_access (s : State) :
    (periodExpiry s).report.accessCount = s.report.accessCount ∧ (periodExpiry s).report.lastAccess = s.report.lastAccess := by
  unfold periodExpiry; (try dsimp only); (repeat' split) <;> simp

@[simp] theorem telemetryNow_access (s : State) :
    (telemetryNow s).report.accessCount = s.report.accessCount ∧ (telemetryNow s).report.lastAccess = s.report.lastAccess := by
  unfold telemetryNow; (try dsimp only); (repeat' split) <;> simp

@[simp] theorem indexPulse_access (s : State) :
    (indexPulse s).report.accessCount = s.report.accessCount ∧ (indexPulse s).report.lastAccess = s.report.lastAccess := by
  unfold indexPulse; (try dsimp only); (repeat' split) <;> simp

@[simp] theorem commPulse_access (s : State) :
    (commPulse s).report.accessCount = s.report.accessCount ∧ (commPulse s).report.lastAccess = s.report.lastAccess := by
  unfold commPulse; (try dsimp only); (repeat' split) <;> simp

@[simp] theorem unordered_report_latches {f g : State → State} (hf : ∀ u, (f u).report.latches = u.report.latches) (hg : ∀ u, (g u).report.latches = u.report.latches) (s : State) :
    (unordered f g s).report.latches = s.report.latches := by
  unfold unordered nextChoice; (repeat' split) <;> simp [hf, hg]

@[simp] theorem unordered3_report_latches {f g h : State → State} (hf : ∀ u, (f u).report.latches = u.report.latches) (hg : ∀ u, (g u).report.latches = u.report.latches) (hh : ∀ u, (h u).report.latches = u.report.latches) (s : State) :
    (unordered3 f g h s).report.latches = s.report.latches := by
  unfold unordered3 nextChoice; (repeat' split) <;> simp [hf, hg, hh]

@[simp] theorem trigger_latches (s : State) :
    (trigger s).report.latches = s.report.latches := by
  unfold trigger; (try dsimp only); (repeat' split) <;> simp

@[simp] theorem dropEntry_latches (s : State) :
    (dropEntry s).report.latches = s.report.latches := by
  unfold dropEntry; (try dsimp only); (repeat' split) <;> simp

@[simp] theorem askLog_latches (d : LogDetail) (s : State) :
    (askLog d s).report.latches = s.report.latches := by
  unfold askLog; (try dsimp only); (repeat' split) <;> simp

@[simp] theorem recordAccess_latches (p : Port) (k : AccessKind) (a : Nat) (s : State) :
    (recordAccess p k a s).report.latches = s.report.latches := by
  unfold recordAccess; (try dsimp only); (repeat' split) <;> simp

@[simp] theorem setEstimate_latches (x : Estimate) (s : State) :
    (setEstimate x s).report.latches = s.report.latches := by
  unfold setEstimate; (try dsimp only); (repeat' split) <;> simp

@[simp] theorem flush_latches (s : State) :
    (flush s).report.latches = s.report.latches := by
  unfold flush; (try dsimp only); (repeat' split) <;> simp

@[simp] theorem gapMark_latches (s : State) :
    (gapMark s).report.latches = s.report.latches := by
  unfold gapMark; (try dsimp only); (repeat' split) <;> simp

@[simp] theorem changeover_latches (v : Nat) (s : State) :
    (changeover v s).report.latches = s.report.latches := by
  unfold changeover; (try dsimp only); (repeat' split) <;> simp

@[simp] theorem recompute_latches (joined : Option Record) (s : State) :
    (recompute joined s).report.latches = s.report.latches := by
  unfold recompute; (try dsimp only); (repeat' split) <;> simp

@[simp] theorem joinWindow_latches (r : Record) (s : State) :
    (joinWindow r s).report.latches = s.report.latches := by
  unfold joinWindow; (try dsimp only); (repeat' split) <;> simp

@[simp] theorem takeStaleMark_latches (mark : Word32) (s : State) :
    (takeStaleMark mark s).report.latches = s.report.latches := by
  unfold takeStaleMark; (try dsimp only); (repeat' split) <;> simp

@[simp] theorem adoptEstimator_latches (s : State) :
    (adoptEstimator s).report.latches = s.report.latches := by
  unfold adoptEstimator; (try dsimp only); (repeat' split) <;> simp

@[simp] theorem accountPass_latches (p : PassRecord) (volume : Nat) (s : State) :
    (accountPass p volume s).report.latches = s.report.latches := by
  unfold accountPass; (try dsimp only); (repeat' split) <;> simp

@[simp] theorem closeProRata_latches (s : State) :
    (closeProRata s).report.latches = s.report.latches := by
  unfold closeProRata; (try dsimp only); (repeat' split) <;> simp

@[simp] theorem passCheck_latches (s : State) :
    (passCheck s).report.latches = s.report.latches := by
  unfold passCheck; (try dsimp only); (repeat' split) <;> simp

@[simp] theorem cutQueue_latches (cause : CutCause) (s : State) :
    (cutQueue cause s).report.latches = s.report.latches := by
  unfold cutQueue; (try dsimp only); (repeat' split) <;> simp

@[simp] theorem drain_latches (s : State) :
    (drain s).report.latches = s.report.latches := by
  unfold drain; (try dsimp only); (repeat' split) <;> simp

@[simp] theorem dosingSpeed_latches (v : Nat) (s : State) :
    (dosingSpeed v s).report.latches = s.report.latches := by
  unfold dosingSpeed; (try dsimp only); (repeat' split) <;> simp

@[simp] theorem countSettle_latches (s : State) :
    (countSettle s).report.latches = s.report.latches := by
  unfold countSettle; (try dsimp only); (repeat' split) <;> simp

@[simp] theorem enterState_latches (st : GovState) (mv : Move) (target : Nat) (band : Option (Fin 6)) (s : State) :
    (enterState st mv target band s).report.latches = s.report.latches := by
  unfold enterState; (try dsimp only); (repeat' split) <;> simp

@[simp] theorem enterHold_latches (s : State) :
    (enterHold s).report.latches = s.report.latches := by
  unfold enterHold; (try dsimp only); (repeat' split) <;> simp

@[simp] theorem enterCross_latches (k : Fin 6) (s : State) :
    (enterCross k s).report.latches = s.report.latches := by
  unfold enterCross; (try dsimp only); (repeat' split) <;> simp

@[simp] theorem enterRetreat_latches (k : Fin 6) (s : State) :
    (enterRetreat k s).report.latches = s.report.latches := by
  unfold enterRetreat; (try dsimp only); (repeat' split) <;> simp

@[simp] theorem enterWait_latches (k : Fin 6) (s : State) :
    (enterWait k s).report.latches = s.report.latches := by
  unfold enterWait; (try dsimp only); (repeat' split) <;> simp

@[simp] theorem climb_latches (s : State) :
    (climb s).report.latches = s.report.latches := by
  unfold climb; (try dsimp only); (repeat' split) <;> simp

@[simp] theorem forceDown_latches (s : State) :
    (forceDown s).report.latches = s.report.latches := by
  unfold forceDown; (try dsimp only); (repeat' split) <;> simp

@[simp] theorem stateLogic_latches (dropped : Bool) (s : State) :
    (stateLogic dropped s).report.latches = s.report.latches := by
  unfold stateLogic; (try dsimp only); (repeat' split) <;> simp

@[simp] theorem recomputeCeiling_latches (s : State) :
    (recomputeCeiling s).report.latches = s.report.latches := by
  unfold recomputeCeiling; (try dsimp only); (repeat' split) <;> simp

@[simp] theorem leaveStep_latches (s : State) :
    (leaveStep s).report.latches = s.report.latches := by
  unfold leaveStep; (try dsimp only); (repeat' split) <;> simp

@[simp] theorem enterStopping_latches (s : State) :
    (enterStopping s).report.latches = s.report.latches := by
  unfold enterStopping; (try dsimp only); (repeat' split) <;> simp

@[simp] theorem setRunnerState_latches (st : RunnerState) (s : State) :
    (setRunnerState st s).report.latches = s.report.latches := by
  unfold setRunnerState; (try dsimp only); (repeat' split) <;> simp

@[simp] theorem abortPlan_latches (why : EndReason) (s : State) :
    (abortPlan why s).report.latches = s.report.latches := by
  unfold abortPlan; (try dsimp only); (repeat' split) <;> simp

@[simp] theorem logTrip_latches (k : FaultKind) (step : Option Nat) (s : State) :
    (logTrip k step s).report.latches = s.report.latches := by
  unfold logTrip; (try dsimp only); (repeat' split) <;> simp

@[simp] theorem aimAtStep_latches (p : PlanStep) (s : State) :
    (aimAtStep p s).report.latches = s.report.latches := by
  unfold aimAtStep; (try dsimp only); (repeat' split) <;> simp

@[simp] theorem waitTest_latches (s : State) :
    (waitTest s).report.latches = s.report.latches := by
  unfold waitTest; (try dsimp only); (repeat' split) <;> simp

@[simp] theorem bandPassed_latches (s : State) :
    (bandPassed s).report.latches = s.report.latches := by
  unfold bandPassed; (try dsimp only); (repeat' split) <;> simp

@[simp] theorem arrive_latches (s : State) :
    (arrive s).report.latches = s.report.latches := by
  unfold arrive; (try dsimp only); (repeat' split) <;> simp

@[simp] theorem arrivalTest_latches (s : State) :
    (arrivalTest s).report.latches = s.report.latches := by
  unfold arrivalTest; (try dsimp only); (repeat' split) <;> simp

@[simp] theorem enterIdle_latches (s : State) :
    (enterIdle s).report.latches = s.report.latches := by
  unfold enterIdle; (try dsimp only); (repeat' split) <;> simp

@[simp] theorem donePlan_latches (s : State) :
    (donePlan s).report.latches = s.report.latches := by
  unfold donePlan; (try dsimp only); (repeat' split) <;> simp

@[simp] theorem restMove_latches (s : State) :
    (restMove s).report.latches = s.report.latches := by
  unfold restMove; (try dsimp only); (repeat' split) <;> simp

@[simp] theorem spinPermitChanged_latches (s : State) :
    (spinPermitChanged s).report.latches = s.report.latches := by
  unfold spinPermitChanged; (try dsimp only); (repeat' split) <;> simp

@[simp] theorem anchorCheck_latches (s : State) :
    (anchorCheck s).report.latches = s.report.latches := by
  unfold anchorCheck; (try dsimp only); (repeat' split) <;> simp

@[simp] theorem accessFault_latches (p : Port) (k : AccessKind) (a : Nat) (s : State) :
    (accessFault p k a s).report.latches = s.report.latches := by
  unfold accessFault; (try dsimp only); (repeat' split) <;> simp

@[simp] theorem readFault_latches (p : Port) (k : AccessKind) (a : Nat) (s : State) :
    (readFault p k a s).report.latches = s.report.latches := by
  unfold readFault; (try dsimp only); (repeat' split) <;> simp

@[simp] theorem writeByte_latches (p : Port) (v : Byte) (s : State) :
    (writeByte p v s).report.latches = s.report.latches := by
  unfold writeByte; (try dsimp only); (repeat' split) <;> simp

@[simp] theorem takeWriteByte_latches (p : Port) (v : Byte) (s : State) :
    (takeWriteByte p v s).report.latches = s.report.latches := by
  unfold takeWriteByte; (try dsimp only); (repeat' split) <;> simp

@[simp] theorem readByteOn_latches (p : Port) (s : State) :
    (readByteOn p s).report.latches = s.report.latches := by
  unfold readByteOn; (try dsimp only); (repeat' split) <;> simp

@[simp] theorem takeReadByte_latches (p : Port) (s : State) :
    (takeReadByte p s).report.latches = s.report.latches := by
  unfold takeReadByte; (try dsimp only); (repeat' split) <;> simp

@[simp] theorem stretchExpires_latches (p : Port) (s : State) :
    (stretchExpires p s).report.latches = s.report.latches := by
  unfold stretchExpires; (try dsimp only); (repeat' split) <;> simp

@[simp] theorem freezeReport_latches (s : State) :
    (freezeReport s).report.latches = s.report.latches := by
  unfold freezeReport; (try dsimp only); (repeat' split) <;> simp

@[simp] theorem grantedTransfer_latches (s : State) (r : Requester) :
    (grantedTransfer s r).1.report.latches = s.report.latches := by
  unfold grantedTransfer; (try dsimp only); (repeat' split) <;> simp

@[simp] theorem grant_latches (r : Requester) (s : State) :
    (grant r s).report.latches = s.report.latches := by
  unfold grant; (try dsimp only); (repeat' split) <;> simp

@[simp] theorem completeJob_report_latches (p : Job → Bool) {act : Job → State → State} (h : ∀ j u, (act j u).report.latches = u.report.latches) (s : State) :
    (completeJob p act s).report.latches = s.report.latches := by
  unfold completeJob; (try dsimp only); (repeat' split) <;> simp [h]

@[simp] theorem granuleWritten_latches (s : State) :
    (granuleWritten s).report.latches = s.report.latches := by
  unfold granuleWritten; (try dsimp only); (repeat' split) <;> simp

@[simp] theorem granuleFailed_latches (s : State) :
    (granuleFailed s).report.latches = s.report.latches := by
  unfold granuleFailed; (try dsimp only); (repeat' split) <;> simp

@[simp] theorem abandonReport_latches (s : State) :
    (abandonReport s).report.latches = s.report.latches := by
  unfold abandonReport; (try dsimp only); (repeat' split) <;> simp

@[simp] theorem commitResult_latches (r : CommitResult) (check : Nat) (step : Option Nat) (id : Option Word16) (s : State) :
    (commitResult r check step id s).report.latches = s.report.latches := by
  unfold commitResult; (try dsimp only); (repeat' split) <;> simp

@[simp] theorem endSwap_latches (r : CommitResult) (check : Nat) (step : Option Nat) (id : Option Word16) (s : State) :
    (endSwap r check step id s).report.latches = s.report.latches := by
  unfold endSwap; (try dsimp only); (repeat' split) <;> simp

@[simp] theorem takeCommit_latches (s : State) :
    (takeCommit s).report.latches = s.report.latches := by
  unfold takeCommit; (try dsimp only); (repeat' split) <;> simp

@[simp] theorem commitRecordDone_latches (l : List Byte) (s : State) :
    (commitRecordDone l s).report.latches = s.report.latches := by
  unfold commitRecordDone; (try dsimp only); (repeat' split) <;> simp

@[simp] theorem flip_latches (l : List Byte) (s : State) :
    (flip l s).report.latches = s.report.latches := by
  unfold flip; (try dsimp only); (repeat' split) <;> simp

@[simp] theorem validatePage_latches (noted : Option Word16) (l : List Byte) (s : State) :
    (validatePage noted l s).report.latches = s.report.latches := by
  unfold validatePage; (try dsimp only); (repeat' split) <;> simp

@[simp] theorem validationDone_latches (l : List Byte) (s : State) :
    (validationDone l s).report.latches = s.report.latches := by
  unfold validationDone; (try dsimp only); (repeat' split) <;> simp

@[simp] theorem swapFailed_latches (s : State) :
    (swapFailed s).report.latches = s.report.latches := by
  unfold swapFailed; (try dsimp only); (repeat' split) <;> simp

@[simp] theorem setStatus_latches (st : SettingsStatus) (check : Nat) (s : State) :
    (setStatus st check s).report.latches = s.report.latches := by
  unfold setStatus; (try dsimp only); (repeat' split) <;> simp

@[simp] theorem adoptPeriod_latches (old : Settings) (s : State) :
    (adoptPeriod old s).report.latches = s.report.latches := by
  unfold adoptPeriod; (try dsimp only); (repeat' split) <;> simp

@[simp] theorem adoptRing_latches (old : Settings) (s : State) :
    (adoptRing old s).report.latches = s.report.latches := by
  unfold adoptRing; (try dsimp only); (repeat' split) <;> simp

@[simp] theorem openDevice_latches (s : State) :
    (openDevice s).report.latches = s.report.latches := by
  unfold openDevice; (try dsimp only); (repeat' split) <;> simp

@[simp] theorem afterSettings_latches (s : State) :
    (afterSettings s).report.latches = s.report.latches := by
  unfold afterSettings; (try dsimp only); (repeat' split) <;> simp

@[simp] theorem startRestricted_latches (check : Nat) (s : State) :
    (startRestricted check s).report.latches = s.report.latches := by
  unfold startRestricted; (try dsimp only); (repeat' split) <;> simp

@[simp] theorem startupFailed_latches (s : State) :
    (startupFailed s).report.latches = s.report.latches := by
  unfold startupFailed; (try dsimp only); (repeat' split) <;> simp

@[simp] theorem endScan_latches (l : List (Nat × Word32)) (s : State) :
    (endScan l s).report.latches = s.report.latches := by
  unfold endScan; (try dsimp only); (repeat' split) <;> simp

@[simp] theorem slotScanned_latches (l : List Byte) (s : State) :
    (slotScanned l s).report.latches = s.report.latches := by
  unfold slotScanned; (try dsimp only); (repeat' split) <;> simp

@[simp] theorem jobFailed_latches (j : Job) (s : State) :
    (jobFailed j s).report.latches = s.report.latches := by
  unfold jobFailed; (try dsimp only); (repeat' split) <;> simp

@[simp] theorem storeResult_latches (r : CmdResult) (mask : Byte) (s : State) :
    (storeResult r mask s).report.latches = s.report.latches := by
  unfold storeResult; (try dsimp only); (repeat' split) <;> simp

@[simp] theorem takeUp_report_latches (c : Byte → Bool) {body : State → Taken} (h : ∀ u, (body u).state.report.latches = u.report.latches) (s : State) :
    (takeUp c body s).report.latches = s.report.latches := by
  unfold takeUp; (try dsimp only); (repeat' split) <;> simp [h]

@[simp] theorem stopGovernor_latches (s : State) :
    (stopGovernor s).report.latches = s.report.latches := by
  unfold stopGovernor; (try dsimp only); (repeat' split) <;> simp

@[simp] theorem stopPlan_latches (s : State) :
    (stopPlan s).state.report.latches = s.report.latches := by
  unfold stopPlan; (try dsimp only); (repeat' split) <;> simp

@[simp] theorem cancelDoses_latches (s : State) :
    (cancelDoses s).state.report.latches = s.report.latches := by
  unfold cancelDoses; (try dsimp only); (repeat' split) <;> simp

@[simp] theorem clearAccess_latches (s : State) :
    (clearAccess s).state.report.latches = s.report.latches := by
  unfold clearAccess; (try dsimp only); (repeat' split) <;> simp

@[simp] theorem passClose_latches (s : State) :
    (passClose s).report.latches = s.report.latches := by
  unfold passClose; (try dsimp only); (repeat' split) <;> simp

@[simp] theorem commitNow_latches (s : State) :
    (commitNow s).report.latches = s.report.latches := by
  unfold commitNow; (try dsimp only); (repeat' split) <;> simp

@[simp] theorem periodExpiry_latches (s : State) :
    (periodExpiry s).report.latches = s.report.latches := by
  unfold periodExpiry; (try dsimp only); (repeat' split) <;> simp

end Sys2Proof.Machine
end

