-- ==== Sys2Proof/Laws/Lines.lean ====
section
/-! SUPPORT. What a level from outside, a latch change, and a direction do to the record of one line. -/

namespace Sys2Proof.Machine

/-- The level that the pin has already. -/
theorem withOutside_same {l : LineRec} {level : Bool} (now : Nat) (h : l.pin = level) : l.withOutside now level = l := if_pos h

/-- Another level. -/
theorem withOutside_new {l : LineRec} {level : Bool} (now : Nat) (h : l.pin ≠ level) :
    l.withOutside now level = { l with
      pin := level, held := l.output && level != l.latch,
      debounce := if level = l.accepted then none else some { candidate := level, start := now } } := by
  unfold LineRec.withOutside LineRec.withPin; rw [if_neg h, if_neg h]

/-- A level from the drive changes the pin and the debounce record alone. -/
@[simp] theorem withPin_fields (l : LineRec) (now : Nat) (level : Bool) :
    (l.withPin now level).output = l.output ∧ (l.withPin now level).latch = l.latch ∧
    (l.withPin now level).accepted = l.accepted ∧ (l.withPin now level).held = l.held ∧ (l.withPin now level).pin = level := by
  unfold LineRec.withPin; split <;> simp_all

/-- A latch change keeps the direction, the accepted value and whether the pin is held; an output's latch takes the level. -/
@[simp] theorem withLatch_fields (l : LineRec) (now : Nat) (level : Bool) :
    (l.withLatch now level).output = l.output ∧ (l.withLatch now level).accepted = l.accepted ∧
    (l.withLatch now level).held = l.held ∧ (l.withLatch now level).latch = if l.output then level else l.latch := by
  unfold LineRec.withLatch; (repeat' split) <;> simp_all

/-- R112: a held pin does not follow its latch. -/
theorem withLatch_held {l : LineRec} (now : Nat) (level : Bool) (h : l.held = true) : (l.withLatch now level).pin = l.pin := by
  unfold LineRec.withLatch; (repeat' split) <;> simp_all

/-- R119: an adoption gives the direction and keeps the latch and the accepted value. -/
@[simp] theorem adopt_fields (l : LineRec) (now : Nat) (output : Bool) :
    (l.adopt now output).output = output ∧ (l.adopt now output).latch = l.latch ∧
    (l.adopt now output).accepted = l.accepted := by
  unfold LineRec.adopt LineRec.turn; dsimp only; (repeat' split) <;> simp_all

/-- R119: a line that keeps its direction keeps its pin, held or not. -/
theorem adopt_same (l : LineRec) (now : Nat) :
    (l.adopt now l.output).pin = l.pin ∧ (l.adopt now l.output).held = l.held := by
  simp [LineRec.adopt, LineRec.turn]

end Sys2Proof.Machine
end

