-- ==== Sys2Proof/Laws/Ports.lean ====
section
/-! SUPPORT. What the port operations leave on the port itself, and how a port stands after a whole event. -/

namespace Sys2Proof.Machine

@[simp] theorem portOf_clearAge (r : Requester) (s : State) (p : Port) : portOf (clearAge r s) p = portOf s p := by
  cases r <;> simp [clearAge]

@[simp] theorem portOf_setReport (s : State) (v : ReportUnit) (p : Port) : portOf (s.setReport v) p = portOf s p := by
  cases p <;> rfl

@[simp] theorem portOf_setCmd (s : State) (v : CommandBlock) (p : Port) : portOf (s.setCmd v) p = portOf s p := by
  cases p <;> rfl

@[simp] theorem portOf_setTel (s : State) (v : Telemetry) (p : Port) : portOf (s.setTel v) p = portOf s p := by
  cases p <;> rfl

@[simp] theorem portOf_setPages (s : State) (v : PageUnit) (p : Port) : portOf (s.setPages v) p = portOf s p := by
  cases p <;> rfl

@[simp] theorem portOf_setHand (s : State) (v : HandOver) (p : Port) : portOf (s.setHand v) p = portOf s p := by
  cases p <;> rfl

@[simp] theorem portOf_storeByte (s : State) (a : Nat) (v : Byte) (p : Port) : portOf (storeByte s a v) p = portOf s p := by
  cases p <;> simp [portOf]

@[simp] theorem portOf_trigger (s : State) (p : Port) : portOf (trigger s) p = portOf s p := by cases p <;> simp [portOf]

@[simp] theorem portOf_raiseFault (k : FaultKind) (s : State) (p : Port) : portOf (raiseFault k s) p = portOf s p := by
  cases p <;> simp [portOf]

@[simp] theorem portOf_dropStretch (p : Port) (s : State) :
    portOf (dropStretch p s) p = { portOf s p with stretch := none } := by
  unfold dropStretch; dsimp only; repeat' split
  all_goals simp

@[simp] theorem portOf_stepPointer (p : Port) (s : State) :
    portOf (stepPointer p s) p = { portOf s p with
      pointer := if (portOf s p).pointer = 0xFFFF then 0xFFFF else (portOf s p).pointer + 1 } := by
  simp [stepPointer]

@[simp] theorem portOf_noteSending (p : Port) (s : State) :
    portOf (noteSending p s) p = { portOf s p with sending := some (portOf s p).pointer } := by
  simp [noteSending]

/-- Once a port's fault stands, none of that port can be taken back. -/
theorem faultStands_port {p : Port} {l : List BegunFault} {e : BegunFault} (h : e ∈ faultStands p l) : e.port ≠ p := by
  induction l with
  | nil => simp [faultStands] at h
  | cons x l ih =>
    unfold faultStands at h; split at h
    · simp only [List.mem_map, List.mem_filter] at h
      obtain ⟨y, hy, rfl⟩ := h
      simpa [BegunFault.cover] using hy.2
    · rcases List.mem_cons.1 h with rfl | h
      · assumption
      · exact ih h

/-- A report unit that holds no fault of a port to take back is left as it is. -/
theorem takeBack_none {p : Port} {r : ReportUnit} (h : ∀ e ∈ r.begun, e.port ≠ p) : r.takeBack p = r := by
  have : r.begun.find? (·.port == p) = none := by simpa using h
  simp [ReportUnit.takeBack, this]

/-- Taking back the newest fault: what was the last access fault before it is the last one again, unless a fault that stands covers it. -/
theorem takeBack_newest {p : Port} {r : ReportUnit} {e : BegunFault} {l : List BegunFault} (h : r.begun = e :: l) (k : e.port = p) :
    r.takeBack p = { r with
      accessCount := if e.selected ∧ r.accessOver = 0 then r.accessCount - 1 else r.accessCount
      accessOver := if e.selected then r.accessOver - 1 else r.accessOver
      lastAccess := if e.covered then r.lastAccess else e.before
      begun := l } := by
  simp [ReportUnit.takeBack, withoutFault, h, k]

/-- What the access fault count of every run keeps: it is at most 65,535, and no fault is beyond it while it is less. -/
def ReportUnit.countOk (r : ReportUnit) : Prop := r.accessCount ≤ 65535 ∧ (r.accessCount < 65535 → r.accessOver = 0)

theorem record_countOk {r : ReportUnit} (h : r.countOk) (f : AccessFault) (b : Bool) : (r.record f b).countOk := by
  unfold ReportUnit.countOk ReportUnit.record at *; dsimp only
  constructor <;> (repeat' split) <;> simp_all <;> omega

theorem takeBack_countOk {r : ReportUnit} (h : r.countOk) (p : Port) : (r.takeBack p).countOk := by
  unfold ReportUnit.countOk ReportUnit.takeBack at *
  split
  · dsimp only; constructor <;> (repeat' split) <;> simp_all <;> omega
  · exact h

/-- R177, R192: a fault taken back at once leaves everything as it was. -/
theorem takeBack_begin {r : ReportUnit} (h : r.countOk) (f : AccessFault) (a : Bool) : (r.begin f a).takeBack f.port = r := by
  obtain ⟨h1, h2⟩ := h
  rw [takeBack_newest (e := ⟨f.port, a, r.lastAccess, false⟩) (l := r.begun) rfl rfl]
  cases r; cases a <;> simp_all [ReportUnit.begin, ReportUnit.record] <;> (repeat' split) <;> simp_all <;> omega

/-- What taking back does to the count and the last access fault depends on the access faults alone. -/
theorem takeBack_congr {r u : ReportUnit} (c : u.accessCount = r.accessCount) (o : u.accessOver = r.accessOver)
    (l : u.lastAccess = r.lastAccess) (b : u.begun = r.begun) (p : Port) :
    (u.takeBack p).accessCount = (r.takeBack p).accessCount ∧ (u.takeBack p).lastAccess = (r.takeBack p).lastAccess := by
  unfold ReportUnit.takeBack; rw [c, o, l, b]; split <;> simp [*]

/-- R177, R192: a fault taken back at once leaves the count and the last access fault, in every state. -/
theorem takeBack_begin_access (r : ReportUnit) (f : AccessFault) (a : Bool) :
    ((r.begin f a).takeBack f.port).accessCount = r.accessCount ∧ ((r.begin f a).takeBack f.port).lastAccess = r.lastAccess := by
  rw [takeBack_newest (e := ⟨f.port, a, r.lastAccess, false⟩) (l := r.begun) rfl rfl]
  cases r; cases a <;> simp [ReportUnit.begin, ReportUnit.record] <;> (repeat' split) <;> simp_all <;> omega

/-- R177, R192: a fault taken back after another one that stands leaves what that one alone makes, also where the count is at 65,535
and where the two faults are equal. -/
theorem takeBack_begin_record {r : ReportUnit} (h : r.countOk) (f g : AccessFault) (a b : Bool) :
    ((r.begin f a).record g b).takeBack f.port = r.record g b := by
  obtain ⟨h1, h2⟩ := h
  rw [takeBack_newest (e := ⟨f.port, a, r.lastAccess, true⟩) (l := r.begun.map BegunFault.cover) rfl rfl]
  cases r; cases a <;> cases b <;> simp_all [ReportUnit.begin, ReportUnit.record] <;> (repeat' split) <;> simp_all <;> omega

/-- R177, R192: a fault taken back after another port's that can be taken back too leaves what that one alone makes. -/
theorem takeBack_begin_begin {r : ReportUnit} (h : r.countOk) (f g : AccessFault) (a b : Bool) (k : g.port ≠ f.port) :
    ((r.begin f a).begin g b).takeBack f.port = r.begin g b := by
  obtain ⟨h1, h2⟩ := h
  cases r; cases a <;> cases b <;> simp_all [ReportUnit.takeBack, withoutFault, ReportUnit.begin, ReportUnit.record] <;>
    (repeat' split) <;> simp_all <;> omega

/-- The fault of a discarded read byte, where its kind has not been reported in the transaction. -/
theorem readFault_report {p : Port} {k : AccessKind} {s : State} (h : k ∉ (portOf s p).reported) (a : Nat) :
    (readFault p k a s).report = s.report.begin { port := p, kind := k, addr := a } (countSelects s k) := by
  simp [readFault, h]

/-- A read byte being sent is dropped: the pointer goes back to its place, the report unit takes its fault back, and nothing else
changes. -/
theorem dropPartial_sending {p : Port} {s : State} {a : Word16} (h : (portOf s p).stretch = none)
    (k : (portOf s p).sending = some a) :
    dropPartial p s = setPort (s.setReport (s.report.takeBack p)) p { portOf s p with pointer := a, sending := none } := by
  simp [dropPartial, h, k]

/-- A stretched byte, or none that is being sent: nothing changes. -/
theorem dropPartial_none {p : Port} {s : State} (h : (portOf s p).stretch ≠ none ∨ (portOf s p).sending = none) :
    dropPartial p s = s := by
  unfold dropPartial; split <;> simp_all

/-- Dropping the partial byte leaves every other field of the port. -/
@[simp] theorem portOf_dropPartial (p : Port) (s : State) :
    (portOf (dropPartial p s) p).txn = (portOf s p).txn ∧ (portOf (dropPartial p s) p).touch = (portOf s p).touch ∧
    (portOf (dropPartial p s) p).post = (portOf s p).post ∧ (portOf (dropPartial p s) p).stretch = (portOf s p).stretch ∧
    (portOf (dropPartial p s) p).heldStart = (portOf s p).heldStart := by
  unfold dropPartial; split <;> simp

@[simp] theorem portOf_holdWrite (p : Port) (target : Nat) (v : Byte) (a start : Nat) (s : State) :
    portOf (holdWrite p target v a start s) p = { portOf s p with
      stretch := some { what := .held target v, addr := a, since := start }, reply := .none } := by
  unfold holdWrite stretchByte; split <;> simp

@[simp] theorem portOf_askRead (p : Port) (target a start : Nat) (s : State) :
    portOf (askRead p target a start s) p = { portOf s p with
      stretch := some { what := .read target, addr := a, since := start }, reply := .none } := by
  unfold askRead stretchByte; split <;> simp

theorem portOf_accessFault (p : Port) (k : AccessKind) (a : Nat) (s : State) :
    portOf (accessFault p k a s) p = { portOf s p with
      reported := if k ∈ (portOf s p).reported then (portOf s p).reported else (portOf s p).reported ++ [k] } := by
  unfold accessFault; dsimp only; split <;> simp [recordAccess, *]

/-- The touch set after a snooped byte. -/
def SnoopPoint.touch (x : SnoopPoint) (t : Touch) : Touch :=
  match x with
  | .command _ => { t with command := true }
  | .telemetry _ => { t with telemetry := true }
  | .commit => { t with commit := true }
  | .settings => { t with settings := true }

theorem portOf_snoopAt (p : Port) (x : Option SnoopPoint) (v : Byte) (s : State) :
    portOf (snoopAt p x v s) p = { portOf s p with touch := match x with
      | some y => y.touch (portOf s p).touch
      | none => (portOf s p).touch } := by
  cases x with
  | none => rfl
  | some y => cases y <;> simp [snoopAt, snoop, SnoopPoint.touch]

theorem portOf_endTxn (p : Port) (s : State) (h : (portOf s p).txn ≠ .idle) :
    portOf (endTxn p s) p = { portOf s p with
      stretch := none, txn := .idle, addrHigh := none, touch := .empty, snapshot := none, viewPage := none, reported := [],
      editRefused := false, nacked := false, sending := none, reply := .none } := by
  unfold endTxn; rw [if_neg h]; simp [handOver]

/-- A port with nothing stretched and no start held is after an event as the event's own effect leaves it. -/
theorem portOf_event {f : State → State} {dt : Nat} {s : State} {p : Port} (h : (portOf (f (advance dt s)) p).stretch = none)
    (k : (portOf (f (advance dt s)) p).heldStart = none) : portOf (event f dt s) p = portOf (f (advance dt s)) p := by
  simp only [event]; rw [portOf_settle] <;> simp [h, k]

/-- So is a port whose stretched byte still waits. -/
theorem portOf_event_waits {f : State → State} {dt : Nat} {s : State} {p : Port} {x : Stretch}
    (h : (portOf (f (advance dt s)) p).stretch = some x) (k : (portOf (f (advance dt s)) p).heldStart = none)
    (w : stillWaits (f (advance dt s)) (portOf (f (advance dt s)) p) x) :
    portOf (event f dt s) p = portOf (f (advance dt s)) p := by
  simp only [event]; rw [portOf_settle_waits (x := x)] <;> simp [h, k]
  unfold stillWaits at *; simpa [swapBusy] using w

end Sys2Proof.Machine
end

