-- ==== Sys2Proof/Laws/RunDown.lean ====
section
/-! SUPPORT. In IDLE, STOPPING and TRIP with no step in hand, an estimate update changes the class in force, the ceiling and the
ramp, and nothing else of the governor, the runner, the dosing unit and the lines. -/

namespace Sys2Proof.Machine

/-- IDLE, STOPPING or TRIP with no step in hand. -/
def atRestOrRunningDown (s : State) : Prop :=
  (s.gov.state = .idle ∨ s.gov.state = .stopping ∨ s.gov.state = .trip) ∧ s.gov.step = none

/-- What an estimate update leaves then. -/
def RestKept (s t : State) : Prop :=
  t.gov.state = s.gov.state ∧ t.gov.step = s.gov.step ∧ t.gov.target = s.gov.target ∧ t.gov.run = s.gov.run ∧
    t.runner = s.runner ∧ t.dosing = s.dosing ∧ t.lines = s.lines ∧ t.report = s.report ∧ t.gov.startRunDown = s.gov.startRunDown

theorem RestKept.refl (s : State) : RestKept s s := by simp [RestKept]

theorem RestKept.trans {s t u : State} (h : RestKept s t) (k : RestKept t u) : RestKept s u := by
  simp_all [RestKept]

theorem RestKept.rest {s t : State} (h : RestKept s t) (k : atRestOrRunningDown s) : atRestOrRunningDown t := by
  simp_all [RestKept, atRestOrRunningDown]

/-- R70: in these states the state logic does nothing. -/
theorem recomputeCeiling_rest {s : State} (h : atRestOrRunningDown s) : RestKept s (recomputeCeiling s) := by
  have k (b : Bool) (u : State) (hu : u.gov.state = s.gov.state) : stateLogic b u = u := by
    unfold stateLogic; rcases h.1 with e | e | e <;> rw [hu, e]
  unfold recomputeCeiling
  dsimp only
  split
  · simp [RestKept, setCeiling]
  · rw [k _ _ (by simp [setCeiling])]; simp [RestKept, setCeiling]

theorem recomputeClass_rest {s : State} (h : atRestOrRunningDown s) : RestKept s (recomputeClass s) := by
  unfold recomputeClass
  split
  · exact .refl s
  · have g : guardTest (s.setGov { s.gov with classInForce := classNow s }) =
        s.setGov { s.gov with classInForce := classNow s } := by
      unfold guardTest; rcases h.1 with e | e | e <;> simp [e]
    rw [g]
    have r (u : State) : RestKept u (refreshRamp u) := by simp [RestKept, refreshRamp]
    exact .trans (t := s.setGov { s.gov with classInForce := classNow s }) (by simp [RestKept])
      (.trans (recomputeCeiling_rest (by simpa [atRestOrRunningDown] using h)) (r _))

theorem governorEstimate_rest {s : State} (h : atRestOrRunningDown s) : RestKept s (governorEstimate s) := by
  have k (u : State) (hu : atRestOrRunningDown u) : balanceTest (waitTest u) = u := by
    have w : waitTest u = u := by unfold waitTest; rcases hu.1 with e | e | e <;> simp [e]
    rw [w]; unfold balanceTest; rw [hu.2]
  have c (u : State) (hu : RestKept s u) : RestKept s (balanceTest (waitTest (recomputeClass u))) := by
    have r := RestKept.trans hu (recomputeClass_rest (hu.rest h))
    rw [k _ (r.rest h)]; exact r
  unfold governorEstimate
  dsimp only
  split
  · exact c _ (by simp [RestKept])
  · exact c _ (.refl s)

theorem plannerUpdate_rest {s : State} (h : atRestOrRunningDown s) : plannerUpdate s = s := by
  unfold plannerUpdate plannerRuns
  rcases h.1 with e | e | e <;> simp [e]

theorem handUpdate_rest {s : State} (h : atRestOrRunningDown s) : RestKept s (handUpdate s) := by
  unfold handUpdate unordered
  have a (u : State) (hu : RestKept s u) : RestKept s (plannerUpdate (governorEstimate u)) := by
    have r := RestKept.trans hu (governorEstimate_rest (hu.rest h))
    rw [plannerUpdate_rest (r.rest h)]; exact r
  have b (u : State) (hu : RestKept s u) : RestKept s (governorEstimate (plannerUpdate u)) := by
    rw [plannerUpdate_rest (hu.rest h)]
    exact .trans hu (governorEstimate_rest (hu.rest h))
  repeat' split
  · exact a _ (by simp [RestKept])
  · exact a _ (by simp [RestKept, nextChoice])
  · exact b _ (by simp [RestKept, nextChoice])

/-- The hand-over of updates leaves the run-down, and IDLE, as they are. -/
theorem deliver_rest {s : State} (h : atRestOrRunningDown s) : RestKept s (deliver s) := by
  have k : ∀ (n : Nat) (u : State), RestKept s u → RestKept s (deliverTimes n u) := by
    intro n
    induction n with
    | zero => intro u hu; exact .trans hu (by simp [RestKept, deliverTimes])
    | succ n ih =>
      intro u hu
      unfold deliverTimes
      split
      · exact ih _ (.trans hu (handUpdate_rest (hu.rest h)))
      · exact hu
  exact k 4 s (.refl s)

end Sys2Proof.Machine
end

