-- ==== Sys2Proof/Laws/Timing.lean ====
section
/-! SUPPORT. What the sampling, the speed and the boundaries do to the timing unit: the revolution in progress, and nothing else of it
but what each names. -/

namespace Sys2Proof.Machine

/-- A revolution that has gone on: the same start and pulses, at a sample point no earlier. -/
def Revolution.goesOn (r u : Revolution) : Prop := u.start = r.start ∧ u.pulses = r.pulses ∧ r.nextSample ≤ u.nextSample

theorem Revolution.goesOn_refl (r : Revolution) : r.goesOn r := ⟨rfl, rfl, Nat.le_refl _⟩

theorem Revolution.goesOn_trans {r u v : Revolution} (h : r.goesOn u) (k : u.goesOn v) : r.goesOn v :=
  ⟨k.1.trans h.1, k.2.1.trans h.2.1, Nat.le_trans h.2.2 k.2.2⟩

/-- A sample point changes the revolution in progress alone. -/
theorem samplePointNow_timing (s : State) :
    (samplePointNow s).timing = { s.timing with rev := (samplePointNow s).timing.rev } := by
  unfold samplePointNow
  split
  · rfl
  · split <;> simp

theorem samplePointNow_some {s : State} {r : Revolution} (h : s.timing.rev = some r) :
    (samplePointNow s).timing.rev = some { r with
      nextSample := r.nextSample + 1
      requests := if s.timing.speed < 60 then r.requests else r.requests + 1
      anchored := if s.timing.speed < 60 then r.anchored else r.anchored && isAnchored s.timing } := by
  simp only [samplePointNow, h, Config.samplingFloor]
  by_cases k : s.timing.speed < 60
  · simp [k]
  · simp [k]

/-- So do the sample points that are due. -/
theorem dueSamples_timing (n : Nat) (s : State) :
    (dueSamples n s).timing = { s.timing with rev := (dueSamples n s).timing.rev } := by
  induction n generalizing s with
  | zero => rfl
  | succ n ih =>
    unfold dueSamples
    split
    · rw [ih, samplePointNow_timing]
    · rfl

theorem dueSamples_some (n : Nat) {s : State} {r : Revolution} (h : s.timing.rev = some r) :
    ∃ u, (dueSamples n s).timing.rev = some u ∧ r.goesOn u := by
  induction n generalizing s r with
  | zero => exact ⟨r, h, r.goesOn_refl⟩
  | succ n ih =>
    unfold dueSamples
    split
    · obtain ⟨u, k, g⟩ := ih (samplePointNow_some h)
      exact ⟨u, k, ⟨g.1, g.2.1, Nat.le_trans (Nat.le_succ _) g.2.2⟩⟩
    · exact ⟨r, h, r.goesOn_refl⟩

/-- A revolution begins. -/
theorem beginRev_timing (s : State) :
    (beginRev s).timing = { s.timing with rev := some {
      start := s.now, nextSample := 1, pulses := 0, anchored := isAnchored s.timing,
      requests := if s.timing.speed < 60 then 0 else 1 } } := by
  unfold beginRev
  rw [samplePointNow_timing, samplePointNow_some rfl]
  by_cases k : s.timing.speed < 60 <;> simp [k, isAnchored]

/-- R14: the speed of a period that is not 0. -/
theorem measure_timing {period : Nat} (s : State) (h : 0 < period) :
    (measure period s).timing = { s.timing with
      speed := if 3000000 < period then 0 else 60000000 / period, measured := true } := by
  simp [measure, speedOf, Nat.pos_iff_ne_zero.1 h]

/-- An opening boundary. -/
theorem openingBoundary_timing {period : Nat} (s : State) (h : 0 < period) :
    (openingBoundary period s).timing =
      (beginRev (s.setTiming { s.timing with
        speed := if 3000000 < period then 0 else 60000000 / period, measured := true })).timing := by
  simp only [openingBoundary, beginRev_timing, State.setGov_timing, handSpeed_frame, State.setTiming_timing, measure_timing s h,
    State.setTiming_now, State.setGov_now, measure_frame]
  rfl

/-- R8: a boundary after which the source stays selected. -/
theorem switchPreferred_stays {s : State}
    (h : ¬(s.timing.sel = some (otherSource s.settings.inForce.reference.preferred) ∧
      qualified s.timing s.settings.inForce.reference.preferred = true)) : switchPreferred s = beginRev s := by
  simp only [switchPreferred]; exact if_neg h

/-- R8: a boundary at which the preferred source takes over. -/
theorem switchPreferred_timing {s : State}
    (h : s.timing.sel = some (otherSource s.settings.inForce.reference.preferred) ∧
      qualified s.timing s.settings.inForce.reference.preferred = true) :
    (switchPreferred s).timing = { s.timing with sel := some s.settings.inForce.reference.preferred, rev := none } := by
  simp only [switchPreferred]; rw [if_pos h]; simp

/-- R9, R14, R15: a boundary that ends a revolution, up to the switch of R8. A revolution of 0 µs has a free speed. -/
theorem revolutionBoundary_timing (src : Source) (r : Revolution) (s : State) :
    ∃ u v, revolutionBoundary src r s = switchPreferred u ∧ u.now = s.now ∧ u.settings = s.settings ∧
      u.timing = { s.timing with counter := s.timing.counter + 1, measured := true, speed := v } ∧
      (r.start < s.now → v = if 3000000 < s.now - r.start then 0 else 60000000 / (s.now - r.start)) := by
  have m (p : Nat) (t : State) : (measure p t).timing = { t.timing with speed := speedOf t p, measured := true } := by
    unfold measure; split <;> simp
  refine ⟨_, speedOf (gapIf (decide (s.timing.counter + 1 = 0)) (s.setTiming { s.timing with counter := s.timing.counter + 1 }))
    (since s r.start), rfl, ?_, ?_, ?_, ?_⟩
  · rw [unordered3_now] <;> intros <;> (try split) <;> simp
  · rw [unordered3_settings] <;> intros <;> (try split) <;> simp
  · rw [unordered3_timing]
    · simp only [m, gapIf_frame, State.setTiming_timing]
      rfl
    all_goals intros; (try split) <;> simp
  · intro h
    have p : since s r.start ≠ 0 := by unfold since; omega
    simp only [speedOf, if_neg p]
    rfl

end Sys2Proof.Machine
end

