-- ==== Sys2Proof/Tests/Slice0.lean ====
section
/-! SUPPORT. Tests: ill-formed commands, worked examples of the spec, one step of each family, and for every statement with
hypotheses a state that meets them. -/

namespace Sys2Proof.Tests

set_option Elab.async false

open Sys2Proof Sys2Proof.Machine Sys2Proof.Safety Sys2Proof.Statement

/-! ### Helpers -/

/-- The state after a command. -/
def nx (c : Instr) (s : State) : State :=
  match exec c s with
  | .next t => t
  | _ => s

/-- The block with start-up behind it, nothing on the M-port, no report due and nothing waiting. -/
def up : State :=
  { State.reset with
    settings := { State.reset.settings with startup := .done, reading := none, restricted := false }
    link := { State.reset.link with transfer := none }
    report := { State.reset.report with write := .idle, ring := .noWindow }
    lines := { State.reset.lines with line := State.reset.lines.line.set 1 { State.reset.lines.line[1] with latch := true } } }

/-- The same in IDLE, LOCK_REQ released. -/
def idle : State :=
  { up with
    gov := { up.gov with state := .idle, startRunDown := false, target := 0 }
    lines := { State.reset.lines with askLock := some false } }

/-- Change the settings in force. -/
def withSettings (s : State) (f : Settings → Settings) : State :=
  { s with settings := { s.settings with inForce := f s.settings.inForce } }

/-- A plan step. -/
def aStep (kind : StepKind) (target hold floor : Nat) (accept : Class) (action : FailAction) : PlanStep where
  kind := kind
  target := target
  ramp := 50
  hold := hold
  accept := accept
  floor := floor
  dosing := true
  action := action

/-- A plan of the given steps. -/
def aPlan (steps : List PlanStep) : Plan where
  identity := 7
  stepCount := steps.length
  budget := 400
  maxRetries := 2
  retryTarget := 0
  steps := steps

/-- A plan at step `i`, in HOLD, the hold timer running since 0. -/
def running (steps : List PlanStep) (i : Nat) : State :=
  { up with
    now := 10
    gov := { up.gov with
      state := .hold, step := steps[i]?, holdStart := some 0, run := true, move := .atTarget, startRunDown := false, target := 100 }
    runner := { up.runner with state := .running, stepIndex := i, plan := aPlan steps }
    tel := { up.tel with running := true, lastFresh := some 0 }
    pages := { up.pages with valid := true } }

/-- A source that has qualified, with its last pulse at `last` and the given interval. -/
def qualifiedSource (last interval : Nat) : SourceRec where
  state := .qualified
  count := 4
  lastPulse := some last
  interval := some interval
  refPeriod := some interval
  deadline := some (last + 3 * interval)
  witnessed := false
  revStart := last
  revPulses := 0

/-- Give both sources and the selection. -/
def withSources (s : State) (index comm : SourceRec) (sel : Option Source) : State :=
  { s with timing := { s.timing with index := index, comm := comm, sel := sel } }

/-- Give the port a state. -/
def withPort (s : State) (p : Port) (f : PortState → PortState) : State := setPort s p (f (portOf s p))

/-- A transfer on the M-port with its byte on the bus. -/
def onPort (who : Requester) (kind : TransferKind) (addr : Nat) (data : Byte) : Transfer where
  who := who
  kind := kind
  addr := addr
  data := data
  busy := true
  count := 0
  closing := false
  retries := 0
  since := 0

/-- The state with a transfer on the M-port. -/
def withTransfer (s : State) (t : Transfer) : State := setTransfer s (some t)

/-- The state with an internal transfer on the M-port. -/
def withJob (s : State) (j : Job) : State := withTransfer s (onPort .internal (.job j false) (jobAddr j) 0)

/-- The state with a command record handed over. -/
def withCommand (s : State) (code : Byte) (arguments : List Byte) : State :=
  { s with
    hand := { s.hand with command := true }
    cmd := { s.cmd with
      image := Vector.ofFn fun i => ([0x11, code] ++ arguments).getD i.val 0, written := .replicate 16 true } }

/-! ### Which commands are well formed -/

theorem test_failAfterSixteenBytes_refused : (Instr.transferFailed 0 (.dataByte 16)).wellFormed = false := by decide
theorem test_failAfterFifteenBytes_formed : (Instr.transferFailed 0 (.dataByte 15)).wellFormed = true := by decide
theorem test_cutAfterSeventeenBytes_refused : (Instr.hardReset 0 0 0 17).wellFormed = false := by decide
theorem test_cutAfterSixteenBytes_formed : (Instr.hardReset 0 0 0 16).wellFormed = true := by decide
theorem test_otherCommands_formed : (Instr.indexPulse 5).wellFormed = true ∧ (Instr.halt 0).wellFormed = true := by decide

/-! ### Worked values of the spec -/

/-- The check value of the nine characters 1 to 9 (0.6). -/
theorem test_checkValue : crc16 [0x31, 0x32, 0x33, 0x34, 0x35, 0x36, 0x37, 0x38, 0x39] = 0x29B1 := by decide +kernel

/-- The effective targets of the worked table of chapter 3 that an example band list decides: 250 rpm lies in B0 and becomes
170, and 1,200, 600 and 120 lie in no band. -/
theorem test_effectiveTargets :
    let g := { State.reset.settings.inForce.governor with
      bands := #v[⟨180, 260, 150, 3⟩, ⟨520, 560, 100, 4⟩, ⟨10, 0, 1, 0⟩, ⟨10, 0, 1, 0⟩, ⟨10, 0, 1, 0⟩, ⟨10, 0, 1, 0⟩] }
    check12 g = true ∧ effectiveTarget g 250 = 170 ∧ effectiveTarget g 1200 = 1200 ∧ effectiveTarget g 600 = 600 ∧
      effectiveTarget g 120 = 120 := by decide +kernel

/-- The pass geometry of the worked sequence of chapter 5 at 150 rpm: lead 10.8 and lag 7.2 degrees, 26 mL a pass, the opening
angles of CH2 and CH3 at 204.2 and 294.2 degrees (in 1/256 degree, lead rotations rounded down). -/
theorem test_passGeometry :
    let d := { State.reset.settings.inForce.dosing with nozzle := 30, lead := 12, lag := 8 }
    turnDuring 12 150 = 2764 ∧ turnDuring 8 150 = 1843 ∧ passVolume d 150 = 26 ∧ nominalOpenAngle d 2 = 215 * 256 ∧
      nominalOpenAngle d 3 = 305 * 256 ∧ backBy (215 * 256) 2764 = 52276 ∧ backBy (305 * 256) 2764 = 75316 := by
  decide +kernel

/-- The amounts of the worked sequence of chapter 5: 180 g at 35 and at 55 degrees. -/
theorem test_plannedAmounts : bracketing 280 = 2 ∧ timesSine 180 35 = 103 ∧ timesSine 180 55 = 147 := by decide +kernel

/-- The window map of the worked decode of chapter 7. -/
def exampleMap : TrafficSettings where
  windows := #v[⟨.command, .none, .none, .posted, 0x0100, 0x010F⟩, ⟨.telemetry, .none, .none, .held, 0x0110, 0x011F⟩,
    ⟨.planView, .none, .none, .held, 0x0200, 0x02FF⟩, ⟨.planEdit, .none, .none, .held, 0x0300, 0x03FF⟩,
    ⟨.report, .none, .none, .posted, 0x0400, 0x053F⟩, ⟨.pass, .readWrite, .none, .posted, 0x1000, 0x3FFF⟩,
    ⟨.pass, .read, .read, .held, 0x0000, 0x7FFF⟩, ⟨.pass, .none, .none, .held, 0x0010, 0x0000⟩]
  pageA := 0x7C00
  pageB := 0x7D00
  fast := false
  countSel := 0x3F

theorem test_workedDecode_commands :
    decode exampleMap .c true 0x0105 = .memory .posted (some (.command 5)) ∧
      decode exampleMap .d true 0x0105 = .discard .forbiddenWrite .posted ∧
      decode exampleMap .d false 0x0105 = .discard .forbiddenRead .posted ∧
      decode exampleMap .c true 0x0113 = .discard .forbiddenWrite .held ∧
      decode exampleMap .d true 0x0113 = .memory .held (some (.telemetry 3)) ∧
      decode exampleMap .d false 0x0240 = .view 0x40 ∧ decode exampleMap .d false 0x02E3 = .view 0xE3 ∧
      decode exampleMap .c true 0x0340 = .edit 0x40 := by decide +kernel

theorem test_workedDecode_other :
    decode exampleMap .c false 0x7C40 = .discard .hiddenPage .held ∧
      decode exampleMap .c true 0x0450 = .discard .forbiddenWrite .posted ∧
      decode exampleMap .d true 0x2000 = .discard .forbiddenWrite .posted ∧
      decode exampleMap .c true 0x2000 = .memory .posted none ∧
      decode exampleMap .c true 0x5000 = .discard .forbiddenWrite .held ∧
      decode exampleMap .c true 0x7E10 = .memory .held none ∧
      decode exampleMap .d true 0x7FFE = .discard .forbiddenWrite .held ∧
      decode exampleMap .d false 0x9000 = .discard .outOfMemory .held := by decide +kernel

/-- The LINES command of the worked example of chapter 6: mode 0x9F, data 0xE0, L6 and L7 controller-owned outputs with latches
0 and 1. L5 alone is refused; L6 becomes 1 and L7 becomes 0. -/
theorem test_workedLines :
    let line := (idle.lines.line.set 6 { idle.lines.line[6] with output := true }).set 7
      { idle.lines.line[7] with output := true, latch := true }
    let t := nx (.lines 1) (withCommand { idle with lines := { idle.lines with line := line } } 0x07 [0x9F, 0xE0])
    t.cmd.mask = 0x20 ∧ t.cmd.result = .takenPartial ∧ t.lines.line[6].latch = true ∧ t.lines.line[7].latch = false := by
  decide +kernel

/-- Steady rotation at 125 rpm with a failed index sensor (chapter 1, worked sequence): at 4,320 ms the INDEX angle holds; at
5,280 ms the COMM angle, set to 351 degrees at 5,268 ms, is 0. -/
theorem test_workedAngles :
    let s := withSources (withSettings up fun x => { x with reference := { x.reference with commOn := true, p := 24 } })
      (qualifiedSource 3840000 480000) (qualifiedSource 5268000 20000) (some .index)
    drumAngle { s with now := 4320000 } = some 92159 ∧
      drumAngle { s with now := 5280000, timing := { s.timing with
        sel := some .comm, commAngle := 351 * 256, commAngleAt := 5268000 } } = some 0 := by decide +kernel

/-! ### Words and the queue -/

theorem test_noWordSpellsACommand (n w : Nat) : decodeTableWord n w = none := rfl
theorem test_noWordIsFetched (s : State) (n w : Nat) : s.withFetchWord n w = s := rfl
theorem test_emptyQueueIdles : step State.reset = .next State.reset := rfl

/-! ### The hypotheses of the statements are met: the block as a whole and the frames -/

/-- A block with every bounded list full: 8 log entries, 32 bytes in each post buffer, 4 waiting requests, 16 records, 8 orders with
the head in a pass that completes it. -/
def full : State :=
  let entry : LogEntry := { cls := 0, speed := 0, counter := 0, detail := .restart 0 }
  let request : SampleRequest := { rev := 1, index := 1, angle := 0, anchored := true }
  let record : Record := { number := 1, source := .tub, speed := 100, period := 600000, magnitude := 1, angle := none,
                           peak := none, good := none, anchored := true, tag := .valid }
  let order : DoseOrder := { number := 1, origin := .command, chamber := 0, ordered := 50, injected := 40, capLimited := false,
                             settle := 0, state := .queued }
  let s := running [aStep .balance 100 5 0 1 .abort] 0
  { s with
    report := { s.report with queue := .replicate 8 entry }
    cport := { s.cport with post := .replicate 32 (0x100, 1) }
    dport := { s.dport with post := .replicate 32 (0x100, 1) }
    est := { s.est with waiting := .replicate 4 request, window := .replicate 16 record }
    mem := [(0, 1), (0x7FFF, 2)]
    lines := { s.lines with
      askFill := some true, line := s.lines.line.set 0 { s.lines.line[0] with latch := true } }
    dosing := { s.dosing with
      queue := { order with state := .injecting } :: .replicate 7 order
      pass := some { chamber := 0, opening := 0, nominal := 1, closing := 2, volume := 10, startAt := 0, nominalAt := none,
                     minClose := false } }
    pending := [.halt 0] }

theorem witness_laws :
    memoryForm full = true ∧ buffersBounded full = true ∧ queueLaw full = true ∧ orderLaw full = true ∧ restLaw full = true ∧
      lineLaw full = true ∧ ∃ t, step full = .next t :=
  ⟨by decide +kernel, by decide +kernel, by decide +kernel, by decide +kernel, by decide +kernel, by decide +kernel, _, rfl⟩

theorem witness_RestLawKept (g : GovState) (h : g = .idle ∨ g = .stopping ∨ g = .trip) :
    restLaw { up with gov := { up.gov with state := g }, pending := [.halt 0] } = true ∧
      ∃ t, step { up with gov := { up.gov with state := g }, pending := [.halt 0] } = .next t := by
  rcases h with rfl | rfl | rfl <;> exact ⟨by decide +kernel, _, rfl⟩

theorem witness_LineLawKept : lineLaw idle = true ∧ lineLaw up = true ∧ lineLaw State.reset = true := by decide +kernel

theorem witness_NoStoreLeavesMemory : ∃ c s t, mayStore c = false ∧ exec c s = .next t := ⟨.halt 0, full, _, rfl, rfl⟩

/-- Addresses just outside what each kind of transfer stores. -/
theorem witness_StoresStayInTheirTransfer :
    let burst := onPort .cport .burst 0x100 5
    let job := Job.carryWrite 0x7C00 (.replicate 16 1)
    let log := withJob full (.logWrite 0x7B40 (.replicate 16 1))
    (memoryForm (withTransfer full burst) = true ∧ (∃ t, exec (.memoryDataAck 1) (withTransfer full burst) = .next t) ∧
        (∀ x, (withTransfer full burst).link.transfer = some x → 0x101 ≠ x.addr ∧ 0xFF ≠ x.addr)) ∧
      (memoryForm (withJob full job) = true ∧ (∃ t, exec (.carryWrite 1) (withJob full job) = .next t) ∧
        (∃ t, exec (.transferFailed 1 (.dataByte 15)) (withJob full job) = .next t) ∧
        (∃ t, exec (.transferFailed 1 .deviceAddress) (withJob full job) = .next t) ∧
        (∃ t, exec (.hardReset 1 0 0 15) (withJob full job) = .next t) ∧
        ∀ j o, jobOnBus (withJob full job) = some (j, o) →
          0x7BFF < jobAddr j ∧ jobAddr j + (jobData j).length ≤ 0x7C10 ∧ jobAddr j + 15 ≤ 0x7C0F) ∧
      memoryForm log = true ∧ jobOnBus log = some (.logWrite 0x7B40 (.replicate 16 1), false) ∧
      (∃ t, exec (.transferFailed 1 (.dataByte 15)) log = .next t) := by
  refine ⟨⟨by decide +kernel, ⟨_, rfl⟩, ?_⟩, ⟨by decide +kernel, ⟨_, rfl⟩, ⟨_, rfl⟩, ⟨_, rfl⟩, ⟨_, rfl⟩, ?_⟩,
    by decide +kernel, rfl, ⟨_, rfl⟩⟩
  · intro x h; cases h; decide
  · intro j o h; cases h; decide

/-- The frames' hypotheses: every command has a next state, from a block with no estimate update owed. -/
theorem witness_frames (c : Instr) : full.est.owed = false ∧ ∃ t, exec c full = .next t := by
  refine ⟨rfl, ?_⟩
  cases c <;> exact ⟨_, rfl⟩

/-! ### Timing unit and S-port -/

theorem witness_PulseBeginsQualifyingOrIsRejected :
    (∀ src st, st = SourceState.searching ∨ st = .lost →
      let s := withSources up { SourceRec.empty with state := st } { SourceRec.empty with state := st } none
      (sourceRec s.timing src).state = .searching ∨ (sourceRec s.timing src).state = .lost) ∧
    (let s := { withSources up (qualifiedSource 100 9) .empty (some .index) with now := 100 }
     s.est.owed = false ∧ (sourceRec s.timing .comm).state = .off ∧ (sourceRec s.timing .index).state = .qualified ∧
       ∃ l i, (sourceRec s.timing .index).lastPulse = some l ∧ (sourceRec s.timing .index).interval = some i ∧
         2 * (s.now + 4 - l) < i) := by
  refine ⟨?_, rfl, rfl, rfl, 100, 9, rfl, rfl, by decide⟩
  intro src st h; rcases h with rfl | rfl <;> cases src <;> simp [sourceRec, withSources]

/-- The longest and the shortest revolution, and an interval that the rejection limit just lets pass. -/
theorem witness_BoundaryEndsRevolution_index (d : Nat) (h : d = 1 ∨ d = 3000000) :
    let r : Revolution := { start := 100, requests := 0, nextSample := 0, anchored := true, pulses := 0 }
    let s := withSources { up with now := 100 } (qualifiedSource 100 (2 * d)) .empty (some .index)
    let s := { s with timing := { s.timing with rev := some r } }
    s.timing.index.state = .qualified ∧ s.timing.sel = some .index ∧ s.settings.inForce.reference.preferred = .index ∧
      s.timing.index.lastPulse = some 100 ∧ s.timing.index.interval = some (2 * d) ∧ 2 * d ≤ 2 * (s.now + d - 100) ∧
      s.timing.rev = some r ∧ r.start < s.now + d ∧ s.now + d ≤ r.start + 3000000 := by
  rcases h with rfl | rfl <;> decide +kernel

/-- COMM selected and QUALIFIED at 12 pulses a revolution, with `c` pulses counted, a revolution in progress or none, and INDEX with or
without preference. -/
def commAt (c : Nat) (align : Machine.Alignment) (rev : Option Revolution) (index : SourceRec) (preferred : Source) : State :=
  let s := withSettings up fun x => { x with reference := { x.reference with commOn := true, p := 12, preferred := preferred } }
  let s := withSources { s with now := 500000 } index (qualifiedSource 500000 50000) (some .comm)
  { s with timing := { s.timing with c := c, align := align, rev := rev } }

/-- A pulse inside a revolution, an opening boundary, one that ends a revolution, one at which INDEX takes over, and INDEX pulses that
align for the first time, with c at P and with c elsewhere. -/
theorem witness_BoundaryEndsRevolution_comm :
    let q := qualifiedSource 450000 600000
    let r : Revolution := { start := 0, requests := 9, nextSample := 3, anchored := true, pulses := 1 }
    let inside := commAt 10 .aligned (some r) .empty .index
    let opening := commAt 11 .aligned none .empty .index
    let ending := commAt 11 .aligned (some r) .empty .comm
    let switched := commAt 11 .aligned (some r) q .index
    (∀ s, s = inside ∨ s = opening ∨ s = ending ∨ s = switched →
      s.timing.comm.state = .qualified ∧ s.timing.sel = some .comm ∧ s.timing.comm.lastPulse = some 500000 ∧
        s.timing.comm.interval = some 50000 ∧ 50000 ≤ 2 * (s.now + 25000 - 500000) ∧ 0 < s.settings.inForce.reference.p ∧
        500000 < s.now + 25000) ∧
      (nx (.commPulse 50000) inside).timing.c = 11 ∧ (nx (.commPulse 50000) inside).timing.speed = 100 ∧
      (nx (.commPulse 50000) opening).timing.speed = 100 ∧ (nx (.commPulse 50000) opening).timing.rev.isSome = true ∧
      (nx (.commPulse 100000) ending).timing.counter = 1 ∧ (nx (.commPulse 100000) ending).timing.speed = 100 ∧
      (nx (.commPulse 50000) switched).timing.sel = some .index ∧ (nx (.commPulse 50000) switched).timing.rev = none ∧
      q.rejects (500000 + 250000) = false ∧ q.rejects (500000 + 249999) = true ∧
      (nx (.indexPulse 250000) (commAt 5 .unaligned (some r) q .comm)).timing.align = .aligned ∧
      (nx (.indexPulse 250000) (commAt 12 .misaligned (some r) q .comm)).timing.rev = some r ∧
      (nx (.indexPulse 250000) (commAt 12 .misaligned (some r) q .comm)).timing.align = .aligned ∧
      (nx (.indexPulse 250000) (commAt 13 .aligned (some r) q .comm)).timing.align = .misaligned ∧
      (nx (.indexPulse 250000) (commAt 13 .aligned (some r) q .comm)).timing.rev = none := by
  refine ⟨?_, by decide +kernel⟩
  intro s h; rcases h with rfl | rfl | rfl | rfl <;> decide +kernel

/-- A source with an interval and one without, at its moment and one µs before. -/
theorem witness_QualifyingSilenceReturnsToSearching :
    let q : SourceRec := { SourceRec.empty with state := .qualifying, lastPulse := some 0, interval := some 10 }
    let s := withSources { up with now := 0 } q { q with interval := none } none
    (sourceRec s.timing .index).state = .qualifying ∧ (sourceRec s.timing .index).lastPulse = some 0 ∧
      (sourceRec s.timing .comm).state = .qualifying ∧ (sourceRec s.timing .comm).lastPulse = some 0 ∧
      (sourceRec (nx (.qualifyingSilence 30 .index) s).timing .index).state = .searching ∧
      (sourceRec (nx (.qualifyingSilence 29 .index) s).timing .index).state = .qualifying ∧
      (sourceRec (nx (.qualifyingSilence 3000000 .comm) s).timing .comm).state = .searching := by decide +kernel

/-- The deadline's moment, with a witness by pulse or by a drive speed of 30 rpm, and with none at 29 rpm. -/
theorem witness_LossDeadlineLosesSource :
    let r : TelRecord := { seq := 1, drive := .running, speed := 30, ripple := 0, code := 0 }
    let s := withSources { up with now := 100 } (qualifiedSource 100 10) (qualifiedSource 100 10) (some .index)
    let a := { s with timing := { s.timing with index := { s.timing.index with witnessed := true } } }
    let b := { s with tel := { s.tel with adopted := some r } }
    let c := { s with tel := { s.tel with adopted := some { r with speed := 29 } } }
    ((sourceRec s.timing .index).state = .qualified ∧ (sourceRec s.timing .index).deadline = some 130 ∧ 130 ≤ s.now + 30 ∧
      s.timing.sel = some .index) ∧ (sourceRec a.timing .index).witnessed = true ∧
      (∃ x, b.tel.adopted = some x ∧ 30 ≤ x.speed) ∧ (sourceRec c.timing .index).witnessed = false ∧
      (∀ x, c.tel.adopted = some x → x.speed < 30) := by
  refine ⟨by decide +kernel, rfl, ⟨_, rfl, by decide⟩, rfl, ?_⟩
  intro x h; cases h; decide

theorem witness_RestTimerFindsDrumAtRest :
    let s := withSources { up with timing := { up.timing with restStart := some 0 } } (qualifiedSource 0 9)
      { SourceRec.empty with state := .searching } (some .index)
    s.timing.restStart = some 0 ∧ 3000000 ≤ s.now + 3000000 - 0 ∧ s.timing.sel ≠ none ∧
      (sourceRec s.timing .index).state = .qualified ∧ (sourceRec s.timing .comm).state = .searching := by decide +kernel

theorem witness_RestEndsRunDown (g : GovState) (h : g = .stopping ∨ g = .trip) :
    let s := { up with timing := { up.timing with restStart := some 0 }, gov := { up.gov with state := g } }
    s.timing.restStart = some 0 ∧ 3000000 ≤ s.now + 3000000 - 0 ∧ restLaw s = true ∧
      (s.gov.state = .stopping ∨ s.gov.state = .trip) := by
  rcases h with rfl | rfl <;> decide +kernel

/-- A revolution whose sample 31 is due, at the sampling floor and below it, with an idle and with a busy S-port. -/
def sampling (speed : Nat) (busy : Bool) (waiting : Nat) : State :=
  let q : SampleRequest := { rev := 1, index := 30, angle := 300, anchored := true }
  let s := withSources { up with now := 310 } (qualifiedSource 0 320) .empty (some .index)
  { s with
    timing := { s.timing with
      speed := speed
      rev := some { start := 0, requests := 31, nextSample := 31, anchored := true, pulses := 0 } }
    est := { s.est with reading := if busy then some (q, false) else none, waiting := .replicate waiting q } }

theorem witness_SamplePointIsRequested :
    (∀ v b n, (sampling v b n).est.owed = false) ∧
      sampleDue (advance 0 (sampling 60 false 0)) = true ∧ (sampling 60 false 0).est.reading = none ∧
      sampleDue (advance 0 (sampling 60 true 3)) = true ∧ (sampling 60 true 3).est.reading ≠ none ∧
      sampleDue (advance 0 (sampling 60 true 4)) = true ∧ sampleDue (advance 0 (sampling 59 false 0)) = true ∧
      (nx (.samplePoint 0) (sampling 60 true 3)).est.waiting.length = 4 ∧
      (nx (.samplePoint 0) (sampling 60 true 4)).est.waiting.length = 4 ∧
      (nx (.samplePoint 0) (sampling 59 false 0)).est.reading = none ∧
      (nx (.samplePoint 0) (sampling 60 false 0)).est.pins = { scs := false, sck := false, sdo := [0x9C, 0, 0, 0, 0, 0, 0, 0] } ∧
      (nx (.samplePoint 0) (sampling 59 false 0)).est.pins.scs = true := by
  refine ⟨fun _ _ _ => rfl, ?_⟩
  decide +kernel

/-- A good sample at the limits of all three axes, and one out of range by 1 mg. -/
theorem witness_SportReadFilesGoodSample :
    let q : SampleRequest := { rev := 1, index := 30, angle := 300, anchored := true }
    let s := { up with est := { up.est with reading := some (q, false), collection := some { rev := 1, samples := [] } } }
    let f : SportFrame := { status := 1, xLow := 0x40, xHigh := 0x1F, yLow := 0xC0, yHigh := 0xE0, zLow := 0x40, zHigh := 0x1F }
    let w := { s with est := { s.est with waiting := [q] } }
    (s.est.owed = false ∧ s.est.reading = some (q, false) ∧ s.est.collection = some { rev := 1, samples := [] }) ∧
      (nx (.sportReadComplete 1 f) s).est.pins.scs = true ∧ (nx (.sportReadComplete 1 f) w).est.pins.scs = false ∧
      (nx (.sportReadComplete 1 f) s).est.collection =
        some { rev := 1, samples := [{ index := 30, x := 8000, y := -8000, angle := 300 }] } ∧
      (nx (.sportReadComplete 1 { f with yLow := 0xBF }) s).est.collection = some { rev := 1, samples := [] } ∧
      (nx (.sportReadComplete 1 { f with status := 0xFE }) s).est.collection = some { rev := 1, samples := [] } ∧
      (nx (.sportReadComplete 1 f) { s with est := { s.est with collection := none } }).est.collection = none := by
  decide +kernel

/-- A pulse that is taken, and the last µs before and the first at the reference period; an alignment with COMM selected, the COMM pulses
after it, and the last steps of an interval. -/
theorem witness_DrumAngle :
    let c := commAt 11 .aligned none (qualifiedSource 450000 600000) .comm
    let first := { c with timing := { c.timing with commFirst := true, commAngle := 0, commAngleAt := 490000 } }
    let t := nx (.indexPulse 250000) c
    (c.timing.index.rejects (c.now + 250000) = false ∧ t.timing.sel = some .comm ∧ drumAngle t = some 0) ∧
      (c.timing.comm.rejects (c.now + 25000) = false ∧ c.timing.comm.rejects (c.now + 24999) = true ∧
        (nx (.commPulse 25000) c).timing.sel = some .comm) ∧
      drumAngle (nx (.commPulse 50000) c) = some 7680 ∧ drumAngle (nx (.commPulse 25000) first) = some 5376 ∧
      drumAngle (nx (.commPulse 50000) { c with timing := { c.timing with align := .unaligned } }) = some 0 ∧
      drumAngle { first with now := 539999 } = some 7679 ∧ drumAngle { first with now := 540001 } = some 7679 := by
  decide +kernel

/-- Exact sums of length 0 have the direction 0: two, three and five equal vectors spread evenly, and all of them together; one vector that
is left over has its own. -/
theorem test_exactZeroSums :
    let three : List (Int × Nat) := [(700, 1), (700, 121), (700, 241)]
    let five : List (Int × Nat) := [(3, 7), (3, 79), (3, 151), (3, 223), (3, 295)]
    vanishes three = true ∧ vanishes ([(9, 350), (9, 170)] ++ three ++ five) = true ∧ vanishes ((1, 30) :: three) = false ∧
      vanishes [(1, 0), (1, 120), (1, 239)] = false ∧ vanishes [] = true ∧
      vanishes (productVectors [{ index := 0, x := 3, y := -4, angle := 20 }, { index := 16, x := 3, y := -4, angle := 200 }]) =
        true := by decide +kernel

/-- A pulse that is taken, and the last µs before and the first at the reference period. -/
theorem witness_DrumAngle_index :
    let s := withSources { up with now := 100 } (qualifiedSource 100 10) .empty (some .index)
    s.timing.index.rejects (s.now + 10) = false ∧ (nx (.indexPulse 10) s).timing.sel = some .index ∧
      s.timing.sel = some .index ∧ s.timing.index.lastPulse = some 100 ∧ s.timing.index.refPeriod = some 10 ∧
      drumAngle { s with now := 109 } = some 82944 ∧ drumAngle { s with now := 110 } = some 92159 := by decide +kernel

/-- A revolution torque, none, and one whose magnitude is limited. -/
theorem witness_TorqueRecordMagnitude :
    let set := State.reset.settings.inForce.estimator
    let e := Estimator.reset
    let r : BoundaryReport := { number := 1, source := .index, period := 600000, speed := 100, anchored := true, requests := 0 }
    e.curSource = .torque ∧ e.revTorque = none ∧
      (makeRecord { set with torque := 128 } { e with revTorque := some 3 } r).magnitude = 2 ∧
      (makeRecord set { e with revTorque := some 4096 } r).magnitude = 4095 ∧ (makeRecord set e r).tag = .missing := by
  decide +kernel

/-- An adoption keeps the sensor condition and its counts. -/
theorem test_adoptionKeepsSampleLoss :
    (adoptEstimator { up with est := { up.est with sampleLoss := 5 } }).est.sampleLoss = 5 := by decide +kernel

/-! ### Governor and plan runner -/

/-- The estimate SETTLED at a class. -/
def settledAt (s : State) (c : Class) : State :=
  { s with est := { s.est with est := { s.est.est with state := .settled, cls := c } } }

/-- The condition of each kind of step, at its boundary, on the last step of a plan of one step and on the first of two. -/
theorem witness_HoldExpirySuccessAdvancesPlan :
    let d := aStep .distribute 90 5 0 2 .abort
    let p := aStep .spin 100 5 100 0 .abort
    let c := aStep .coast 100 5 0 0 .abort
    let b := aStep .balance 100 5 0 2 .abort
    let spinning := fun (s : State) => { s with timing := { s.timing with speed := 100 } }
    let next := nx (.holdExpiry 4999990) (running [c, b] 0)
    (∀ q, q = d ∨ q = p ∨ q = c ∨ q = b → (running [q] 0).est.owed = false ∧ (running [q] 0).gov.step = some q ∧
        (running [q] 0).gov.holdStart = some 0 ∧ q.hold * 1000000 ≤ (running [q] 0).now + 4999990 - 0 ∧
        (running [q] 0).runner.plan.stepCount ≤ (running [q] 0).runner.stepIndex + 1) ∧
      (settledAt (running [d] 0) 2).est.est.state = .settled ∧ (settledAt (running [d] 0) 2).est.est.cls ≤ d.accept ∧
      p.floor ≤ (spinning (running [p] 0)).timing.speed ∧ 5000000 ≤ (settledAt (running [b] 0) 2).now + 4999990 - 0 ∧
      (running [c, b] 0).runner.stepIndex + 1 < (running [c, b] 0).runner.plan.stepCount ∧
      (running [c, b] 0).runner.plan.steps[(running [c, b] 0).runner.stepIndex + 1]? = some b ∧
      (running [c, b] 0).dosing.queue = [] ∧ (running [c, b] 0).dosing.pass = none ∧ (running [c, b] 0).gov.state ≠ .idle ∧
      (nx (.holdExpiry 4999990) (settledAt (running [d] 0) 2)).gov.state = .stopping ∧
      (nx (.holdExpiry 4999990) (settledAt (running [b] 0) 2)).gov.state = .stopping ∧
      (nx (.holdExpiry 4999990) (spinning (running [p] 0))).gov.state = .stopping ∧
      next.gov.step = some b ∧ next.runner.stepIndex = 1 := by
  refine ⟨?_, by decide +kernel⟩
  intro q h; rcases h with rfl | rfl | rfl | rfl <;> decide +kernel

/-- A SPIN step just below its floor that aborts, one that would retry with no retry left, and a band wait at its limit. -/
theorem witness_StepFailureAbortsPlan :
    let p := aStep .spin 100 5 100 0 .abort
    let r := aStep .distribute 90 5 0 2 .redistribute
    let slow := { running [p] 0 with timing := { up.timing with speed := 99 } }
    let spent := running [r] 0
    let spent := { spent with runner := { spent.runner with retries := 2 } }
    let waiting := { slow with gov := { slow.gov with state := .waitBand, band := some 5, waitSince := some 0 } }
    slow.gov.step = some p ∧ p.action = .abort ∧ slow.gov.holdStart = some 0 ∧ p.hold * 1000000 ≤ slow.now + 4999990 - 0 ∧
      slow.timing.speed < p.floor ∧ (nx (.holdExpiry 4999990) slow).runner.state = .aborted ∧
      spent.gov.step = some r ∧ r.action = .redistribute ∧ spent.runner.plan.maxRetries ≤ spent.runner.retries ∧
      ¬((spent.est.est.state = .settled ∨ spent.est.est.state = .held) ∧ spent.est.est.cls ≤ r.accept) ∧
      (nx (.holdExpiry 4999990) spent).runner.endReason = .stepFailed ∧
      waiting.gov.step = some p ∧ waiting.gov.state = .waitBand ∧ waiting.gov.band = some 5 ∧ waiting.gov.waitSince = some 0 ∧
      waiting.settings.inForce.governor.bandWait * 1000000 ≤ waiting.gov.waits[5] + (waiting.now + 19999990 - 0) ∧
      (nx (.bandWaitExpiry 19999990) waiting).runner.state = .aborted := by decide +kernel

/-- The mark at its first moment, with and without the accept class, and the history at its limit. -/
theorem witness_BalanceMarkAndOverspeedHistory :
    let b := aStep .balance 100 60 0 2 .abort
    let s := running [b] 0
    let old := { s with gov := { s.gov with history := [(90, 0), (80, 11)] } }
    (s.est.owed = false ∧ s.gov.step = some b ∧ b.kind = .balance ∧ s.gov.holdStart = some 0 ∧
        5000000 ≤ s.now + 4999990 - 0 ∧ s.gov.markFallen = false) ∧
      (settledAt s 2).est.est.state = .settled ∧ (settledAt s 2).est.est.cls ≤ b.accept ∧
      s.runner.plan.stepCount ≤ s.runner.stepIndex + 1 ∧
      ¬((settledAt s 3).est.est.state = .settled ∧ (settledAt s 3).est.est.cls ≤ b.accept) ∧
      (nx (.fiveSecondMark 4999990) (settledAt s 2)).gov.state = .stopping ∧
      (nx (.fiveSecondMark 4999990) (settledAt s 3)).gov.markFallen = true ∧
      (nx (.fiveSecondMark 4999989) s).gov.markFallen = false ∧
      (nx (.overspeedHistoryExpiry 9999990) old).gov.history = [(80, 11)] := by decide +kernel

/-- A band list with two enabled bands; ceilings inside, at the edges and outside. -/
theorem witness_EffectiveTargetAvoidsBands :
    let g := { State.reset.settings.inForce.governor with
      bands := #v[⟨180, 260, 150, 3⟩, ⟨520, 560, 100, 4⟩, ⟨10, 0, 1, 0⟩, ⟨10, 0, 1, 0⟩, ⟨10, 0, 1, 0⟩, ⟨10, 0, 1, 0⟩] }
    check12 g = true ∧ (∀ k : Fin 6, g.bands[k].low ≤ g.bands[k].high → 261 < g.bands[k].low ∨ g.bands[k].high < 261) ∧
      effectiveTarget g 180 = 170 ∧ effectiveTarget g 260 = 170 ∧ effectiveTarget g 261 = 261 ∧
      effectiveTarget g 179 = 179 := by decide +kernel

/-! ### Dosing unit -/

/-- A block in BALANCE whose head order is INJECTING, with the drum angle at `angle`. -/
def dosingAt (speed angle : Nat) (pass : Option PassRecord) : State :=
  let s := running [aStep .balance 100 60 0 2 .abort] 0
  let s := withSources s (qualifiedSource 10 92160) .empty (some .index)
  let o : DoseOrder := { number := 1, origin := .command, chamber := 0, ordered := 50, injected := 48, capLimited := false,
                         settle := 0, state := .injecting }
  { s with
    now := 10 + angle
    gov := { s.gov with state := .balance }
    timing := { s.timing with speed := speed }
    lines := { s.lines with askFill := some pass.isSome }
    dosing := { s.dosing with
      drainSeen := true, queue := [o], pass := pass, path := { passed := [], since := 0, start := 0, len := 1, base := 0 } } }

/-- A pass of 2 mL in CH0 that opens at 0 and closes at `closing`. -/
def aPass (closing : Nat) (minClose : Bool) : PassRecord where
  chamber := 0
  opening := 0
  nominal := 1280
  closing := closing
  volume := 2
  startAt := 10
  nominalAt := none
  minClose := minClose

theorem witness_PassStartAndNominalOpen :
    (∀ v a x, (dosingAt v a x).est.owed = false) ∧
      (started (dosingAt 90 1280 none) = true ∧ (dosingAt 90 1280 none).lines.line[0].output = true ∧
        (dosingAt 90 1280 none).dosing.pass = none ∧
        (∃ o rest, (dosingAt 90 1280 none).dosing.queue = o :: rest ∧ o.state = .injecting ∧
          angleReached (advance 0 (dosingAt 90 1280 none)) (openingAngle (dosingAt 90 1280 none) o.chamber) = true) ∧
        passConditions (dosingAt 90 1280 none) = true ∧ passConditions (dosingAt 89 1280 none) = false) ∧
      (dosingAt 90 1280 (some (aPass 9000 false))).dosing.pass = some (aPass 9000 false) ∧ (aPass 9000 false).nominalAt = none ∧
      angleReached (advance 0 (dosingAt 90 1280 (some (aPass 9000 false)))) (aPass 9000 false).nominal = true := by
  refine ⟨fun _ _ _ => rfl, ⟨by decide +kernel, by decide +kernel, rfl, ⟨_, _, rfl, rfl, by decide +kernel⟩, by decide +kernel⟩, ?_⟩
  decide +kernel

/-- A pass that closes by its angle and one that closes 1 ms after its start; both complete the order. -/
theorem witness_PassCloseAccountsVolume :
    let a := dosingAt 90 9000 (some (aPass 9000 false))
    let b := dosingAt 90 0 (some (aPass 9000 true))
    a.dosing.pass = some (aPass 9000 false) ∧ angleReached (advance 0 a) 9000 = true ∧
      b.dosing.pass = some (aPass 9000 true) ∧ 1000 ≤ b.now + 1000 - (aPass 9000 true).startAt ∧
      (nx (.passClose 0) a).dosing.accounts[0] = 2 ∧ (nx (.passClose 0) a).est.staleMark = some 1 ∧
      (nx (.passClose 1000) b).runner.doseUsed = 2 ∧ (nx (.passClose 999) b).dosing.pass.isSome = true := by decide +kernel

/-- A final pass of 1 mL at 100 mL/s, lead 12 and lag 8 ms, at 90 rpm: begun at its opening angle it closes by its angle, begun 1,800
steps of angle (13 ms) past it 1 ms after its start. -/
theorem test_finalPassClosesNotBeforeOneMillisecond :
    let d := { State.reset.settings.inForce.dosing with lead := 12, lag := 8, flow := 100 }
    closesTooSoon d 90 1 0 = false ∧ closesTooSoon d 90 1 1797 = false ∧ closesTooSoon d 90 1 1798 = true := by decide +kernel

/-- The same pass where the steps of one moment reach the opening angle and step back: by little, so that the close would still fall within
1 ms; by more; and after a step over the closing angle too. A lead of a whole turn and 1 mL brings the closing angle just past the
opening angle. -/
theorem test_finalPassAfterStepBack :
    let d := { State.reset.settings.inForce.dosing with lead := 2, lag := 12, flow := 100 }
    let path := fun far back => ((AnglePath.fresh 0).jump 7 0 far).jump 7 far back
    let steps := fun far back => arcsFrom 100 0 ((path far back).arcs back)
    netTurn 100 (steps 300 50) = -50 ∧ netTurn 100 (steps 300 92000) = -260 ∧ netTurn 100 (steps 300 400) = 300 ∧
      (steps 300 50).any (·.has 300) = true ∧ (steps 300 50).any (·.has 301) = false ∧
      closesTooSoon d 90 1 (-50) = true ∧ closesTooSoon d 90 1 (-138) = true ∧ closesTooSoon d 90 1 (-139) = false ∧
      closesTooSoon { d with lead := 100, lag := 10 } 600 1 0 = true ∧
      closesTooSoon { d with lead := 100, lag := 9 } 600 1 0 = false := by decide +kernel

/-- COMM, 24 pulses a revolution and late at 15 degrees, is lost with no witness while INDEX stands at 20 degrees: the step to the INDEX
angle is reckoned from the COMM angle just before, so the angles up to 15 degrees are not reached again. -/
theorem test_lossStepsFromLastAngle :
    let s := withSources (withSettings up fun x => { x with reference := { x.reference with commOn := true, p := 24 } })
      (qualifiedSource 4000 90000) (qualifiedSource 0 3000) (some .comm)
    let t := loseSource .comm { s with now := 9000 }
    drumAngle { s with now := 9000 } = some 3839 ∧ drumAngle t = some 5120 ∧
      t.dosing.path = { passed := [], since := 9000, start := 3840, len := 1281, base := 5120 } := by decide +kernel

/-- A COMM pulse that comes early, at 3/5 of its interval, and hands over to INDEX in the same event: the steps from 4,608 to 7,680 and
on to the INDEX angle 12,288 both reach what they pass over; a backward step reaches nothing and loses nothing of its moment. -/
theorem test_stepsOfOneMomentStayReached :
    let r : Revolution := { start := 0, requests := 9, nextSample := 3, anchored := true, pulses := 1 }
    let s := commAt 11 .aligned (some r) (qualifiedSource 450000 600000) .index
    let t := nx (.commPulse 30000) { s with timing := { s.timing with commAngleAt := 500000 } }
    let back := ((AnglePath.fresh 100).jump 7 100 300).jump 7 300 50
    t.timing.sel = some .index ∧ drumAngle t = some 12288 ∧ angleReached t 4609 = true ∧ angleReached t 5000 = true ∧
      angleReached t 7680 = true ∧ angleReached t 12288 = true ∧ angleReached t 12289 = false ∧
      back.reached 50 101 = true ∧ back.reached 50 300 = true ∧ back.reached 50 100 = false ∧ back.reached 50 50 = false := by
  decide +kernel

/-! ### Line unit -/

/-- An input's pin; and an output's pin held off its latch, through latch changes, an adoption and its release. -/
theorem witness_PinChangeStartsDebounce :
    let s := nx (.pinLevelChange 5 2 true) up
    let held := (nx (.pinLevelChange 5 0 true) up).lines.line[0]
    held.held = true ∧ (held.withLatch 9 true).pin = true ∧ ((held.withLatch 9 true).withLatch 9 false).pin = true ∧
      held.adopt 9 true = { held with debounce := some { candidate := true, start := 9 } } ∧
      (held.withOutside 9 false).held = false ∧
      up.est.owed = false ∧ up.lines.line[2].pin ≠ true ∧ s.lines.line[2].debounce = some { candidate := true, start := 5 } ∧
      (nx (.pinLevelChange 4 2 false) s).lines.line[2].debounce = none := by decide +kernel

/-- An input's new level at the debounce time and one µs before it. -/
theorem witness_AcceptedChangeReachesTests :
    let s := withSettings (nx (.pinLevelChange 0 2 true) up) fun x =>
      { x with lines := { x.lines with spinPermit := { mask := 4, pattern := 4 } } }
    s.lines.line[2].debounce = some { candidate := true, start := 0 } ∧
      s.settings.inForce.lines.debounce * 1000 ≤ s.now + 10000 - 0 ∧ s.lines.line[2].output = false ∧
      (nx (.acceptedChange 10000 2) s).lines.line[2].accepted = true ∧
      (nx (.acceptedChange 10000 2) s).lines.spinPermit = { all := true, none := false, some := true, someNot := false } ∧
      (nx (.acceptedChange 9999 2) s).lines.line[2].accepted = false := by decide +kernel

/-- One tested line that matches and one that does not; and none tested. -/
theorem witness_InterlockTestFlags :
    (∃ n : Fin 8, (0x0C#8).getLsbD n = true ∧ up.lines.line[n].output = false) ∧
      testFlags up.lines { mask := 0x0C, pattern := 0x04 } = { all := false, none := false, some := true, someNot := true } ∧
      (∀ n : Fin 8, ¬((0x03#8).getLsbD n = true ∧ up.lines.line[n].output = false)) := by decide +kernel

/-! ### Window decoder and upstream ports -/

/-- A table with no enabled entry. -/
def noWindows (t : TrafficSettings) : TrafficSettings := { t with windows := .replicate 8 (.fallback .pass 0x0010 0x0000) }

/-- The last address before the built-in pages, the one between the fallback windows, and a table with no entry. -/
theorem witness_DefaultPass :
    let t := State.reset.settings.inForce.traffic
    (∀ a, a = 0x7BFF ∨ a = 0x0020 ∨ a = 0x0540 → a < 0x7E00 ∧ inPage t.pageA a = false ∧ inPage t.pageB a = false ∧
      ∀ i : Fin 8, t.windows[i].enabled = true → a < t.windows[i].first ∨ t.windows[i].last < a) ∧
    (∀ i : Fin 8, (noWindows t).windows[i].enabled = false) ∧
    (let s := withPort up .d fun q => { q with pointer := 0x0540, txn := .writing }
     decode s.settings.inForce.traffic .d true (portOf s .d).pointer.toNat = .memory .held none ∧ (portOf s .d).txn = .writing ∧
       (portOf s .d).stretch = none ∧ (portOf s .d).heldStart = none) ∧
    (let s := withPort up .c fun q => { q with pointer := 0x7BFF, txn := .reading }
     decode s.settings.inForce.traffic .c false (portOf s .c).pointer.toNat = .memory .held none ∧ (portOf s .c).txn = .reading ∧
       (portOf s .c).stretch = none ∧ (portOf s .c).heldStart = none ∧ (portOf s .c).nacked = false) := by
  refine ⟨?_, by decide +kernel, by decide +kernel, by decide +kernel⟩
  intro a h; rcases h with rfl | rfl | rfl <;> decide +kernel

/-- The first and the last address of each case of the decode order; the lowest entry of two that cover an address. -/
theorem witness_DecodeOrder :
    let t := exampleMap
    let wide := { t with
      windows := (t.windows.set 0 (.mk .command .none .none .posted 0x0100 0x011F)).set 1
        (.mk .telemetry .none .none .held 0x0180 0x019F) }
    decode t .c true 0x7FFF = .memory .held (some .settings) ∧ decode t .c true 0x7FFD = .memory .held none ∧
      decode t .c true 0x8000 = .discard .outOfMemory .held ∧
      decode t .d false 0x7E00 = .memory .held none ∧ decode t .d true 0x7DFF = .discard .hiddenPage .held ∧
      decode t .d true 0x7C00 = .discard .hiddenPage .held ∧ t.windows[5].covers 0x1000 = true ∧
      t.windows[6].covers 0x1000 = true ∧ (∀ j : Fin 8, j < 5 → t.windows[j].covers 0x1000 = false) ∧
      (t.windows[5].rights .d).allows true = false ∧ (t.windows[5].rights .c).allows true = true ∧
      decode wide .c true 0x010F = .memory .posted (some (.command 15)) ∧ decode wide .c true 0x0110 = .memory .posted none ∧
      decode wide .c false 0x010F = .memory .posted none ∧
      decode wide .d true 0x018F = .memory .held (some (.telemetry 15)) ∧ decode wide .d true 0x0190 = .memory .held none ∧
      decode wide .d false 0x018F = .memory .held none ∧
      inPage t.pageA 0x1000 = false ∧ inPage t.pageB 0x1000 = false := by decide +kernel

/-- A start on an idle port: at once, while the settings unit waits for quiet, before start-up ends and with another address; and a
repeated start in a transaction. -/
theorem witness_StartBeginsTransaction :
    let quiet := { idle with settings := { idle.settings with pending := some [] } }
    let txn := withPort up .c fun q => { q with txn := .writing, stretch := some { what := .read 5, addr := 5, since := 0 } }
    (∀ s, s = up ∨ s = quiet ∨ s = State.reset → s.est.owed = false ∧ (portOf s .c).heldStart = none ∧
      ((portOf s .c).txn = .idle → (portOf s .c).stretch = none) ∧ (portOf s .c).txn = .idle) ∧
      (0x50#7 : BitVec 7) = 0x50#7 + BitVec.ofNat 7 up.link.straps.val ∧ started up = true ∧ waitsForQuiet up = false ∧
      waitsForQuiet { quiet with cport := { quiet.cport with txn := .writing } } = true ∧ started State.reset = false ∧
      (portOf txn .c).txn ≠ .idle ∧ (portOf txn .c).heldStart = none ∧
      (nx (.upstreamStart 1 .c 0x50 false) up).cport.txn = .addressing ∧
      (nx (.upstreamStart 1 .c 0x51 false) up).cport.reply = .nack ∧
      (nx (.repeatedStart 1 .c 0x50 true) txn).cport.stretch = none := by
  refine ⟨?_, by decide +kernel⟩
  intro s h; rcases h with rfl | rfl | rfl <;> decide +kernel

theorem witness_AddressBytesSetPointer :
    let s := withPort up .d fun q => { q with txn := .addressing }
    let t := nx (.memoryAddressByte 1 .d 0x12) s
    ((portOf s .d).txn = .addressing ∧ (portOf s .d).stretch = none ∧ (portOf s .d).heldStart = none ∧
        (portOf s .d).addrHigh = none) ∧
      (portOf t .d).addrHigh = some 0x12 ∧ (portOf (nx (.memoryAddressByte 1 .d 0x34) t) .d).pointer = 0x1234 := by
  decide +kernel

/-- A port that writes at an address, with the example map in force. -/
def writingAt (p : Port) (a : Word16) : State :=
  withPort (withSettings up fun x => { x with traffic := exampleMap }) p fun q => { q with txn := .writing, pointer := a }

/-- A swap in flight. -/
def aSwap (phase : SwapPhase) (offset : Nat) : Swap where
  phase := phase
  offset := offset
  headerCarry := false
  stepsCarry := false
  amend := false
  noted := none
  carry := none
  bytes := .replicate offset 0

/-- The state with a swap in flight. -/
def swapping (s : State) (w : Swap) : State := { s with pages := { s.pages with swap := some w } }

/-- A write byte of each decode, the last room of a post buffer and none, the commit code, and the pointer at its end. -/
theorem witness_WriteByteFollowsDecode :
    (∀ a, (portOf (writingAt .c a) .c).txn = .writing ∧ (portOf (writingAt .c a) .c).stretch = none ∧
      (portOf (writingAt .c a) .c).heldStart = none ∧ (writingAt .c a).est.owed = false) ∧
      (nx (.writeDataByte 1 .c 7) (writingAt .c 0xFFFF)).cport.pointer = 0xFFFF ∧
      (nx (.writeDataByte 1 .c 7) (writingAt .c 0x5000)).cport.reply = .nack ∧
      (nx (.writeDataByte 1 .c 7) (writingAt .c 0x0450)).cport.reply = .ack ∧
      (nx (.writeDataByte 1 .c 7)
        (withPort (writingAt .c 0x2000) .c fun q => { q with post := .replicate 31 (5, 5) })).cport.reply = .ack ∧
      (nx (.writeDataByte 1 .c 7)
        (withPort (writingAt .c 0x2000) .c fun q => { q with post := .replicate 32 (5, 5) })).cport.reply = .none ∧
      (nx (.writeDataByte 1 .c 7) (writingAt .c 0x7E10)).cport.stretch.isSome = true ∧
      (nx (.writeDataByte 1 .c 1) (writingAt .c 0x03F0)).pages.commitCode = 1 ∧
      (nx (.writeDataByte 1 .c 1) (swapping (writingAt .c 0x0340) (aSwap .validate 0))).cport.stretch =
        some { what := .editWrite 0x40 1, addr := 0x0340, since := 1 } ∧
      (nx (.writeDataByte 1 .c 7) (writingAt .c 0x0105)).cmd.image[5] = 7 ∧
      (nx (.writeDataByte 1 .d 7) (writingAt .d 0x0113)).tel.image[3] = 7 ∧
      (nx (.writeDataByte 1 .c 7) (writingAt .c 0x7FFE)).cport.touch.settings = true := by
  refine ⟨fun a => ⟨rfl, rfl, rfl, rfl⟩, ?_⟩
  decide +kernel

/-- A port that reads at an address, with the example map in force. -/
def readingAt (p : Port) (a : Word16) : State :=
  withPort (withSettings up fun x => { x with traffic := exampleMap }) p fun q => { q with txn := .reading, pointer := a }

/-- A read byte of each decode: discarded, from memory, of the staging page outside and during a swap, of the active page and of the
live command at both ends of its place. -/
theorem witness_ReadByteFollowsDecode :
    (∀ a, (portOf (readingAt .c a) .c).txn = .reading ∧ (portOf (readingAt .c a) .c).stretch = none ∧
      (portOf (readingAt .c a) .c).heldStart = none ∧ (portOf (readingAt .c a) .c).nacked = false ∧
      (readingAt .c a).est.owed = false) ∧
      (nx (.readDataByte 1 .c) (readingAt .c 0x9000)).cport.reply = .byte 0xFF ∧
      (nx (.readDataByte 1 .c) (readingAt .c 0x2000)).cport.stretch.isSome = true ∧
      (nx (.readDataByte 1 .c) (readingAt .c 0x0340)).cport.stretch =
        some { what := .read 0x7D40, addr := 0x0340, since := 1 } ∧
      (nx (.readDataByte 1 .c) (swapping (readingAt .c 0x0340) (aSwap .validate 0))).cport.stretch =
        some { what := .editRead 0x40, addr := 0x0340, since := 1 } ∧
      (nx (.readDataByte 1 .c) (swapping (withPort (readingAt .c 0x0340) .c fun q => { q with editRefused := true })
        (aSwap .validate 0))).cport.reply = .byte 0xFF ∧
      (nx (.readDataByte 1 .c) (readingAt .c 0x02E0)).cport.snapshot = some (liveCommand up.gov) ∧
      (nx (.readDataByte 1 .c) (readingAt .c 0x02E5)).cport.reply = .byte 8 ∧
      (nx (.readDataByte 1 .c) (readingAt .c 0x02EF)).cport.reply = .byte 0 ∧
      (nx (.readDataByte 1 .c) (readingAt .c 0x02F0)).cport.viewPage = some .a ∧
      (nx (.readDataByte 1 .c) (readingAt .c 0x02DF)).cport.stretch =
        some { what := .read 0x7CDF, addr := 0x02DF, since := 1 } := by
  refine ⟨fun a => ⟨rfl, rfl, rfl, rfl, rfl⟩, ?_⟩
  decide +kernel

/-- A stop and a mid-byte condition in a write, after a read byte that was sent (the last address of the space among them) and during
one that is stretched. -/
theorem witness_NackAndStopEndBytes :
    let r := readingAt .c 0x2000
    let w := withPort (writingAt .c 0x0105) .c fun q => { q with touch := { command := true, telemetry := true, commit := true, settings := true } }
    let w := { w with pages := { w.pages with commitCode := 1 }, cmd := { w.cmd with written := .replicate 16 true } }
    ((portOf r .c).heldStart = none ∧ (portOf r .c).txn = .reading ∧ (portOf r .c).stretch = none) ∧ (portOf w .c).txn ≠ .idle ∧
      (nx (.controllerNack 1 .c) r).cport.nacked = true ∧
      (nx (.stopCondition 1 .c) w).hand = { command := true, telemetry := true, commit := true, settings := true } ∧
      (nx (.midByteCondition 1 ⟨.c, false⟩) w).cport.txn = .idle ∧
      (∀ a, a = 0x9000 ∨ a = 0xFFFF →
        let u := nx (.readDataByte 1 .c) (readingAt .c a)
        u.cport.sending = some a ∧ u.cport.stretch = none ∧ u.report.accessCount = 1 ∧
          (nx (.midByteCondition 1 ⟨.c, true⟩) u).cport.pointer = a ∧
          (nx (.midByteCondition 1 ⟨.c, true⟩) u).report.accessCount = 0 ∧
          (nx (.midByteCondition 1 ⟨.c, true⟩) u).report.lastAccess = none ∧
          (nx (.midByteCondition 1 ⟨.c, false⟩) u).cport.pointer = (if a = 0xFFFF then a else a + 1) ∧
          (nx (.midByteCondition 1 ⟨.c, false⟩) u).report.accessCount = 1) ∧
      (nx (.stopCondition 1 .c) (nx (.readDataByte 1 .c) (readingAt .c 0x9000))).cport.pointer = 0x9001 ∧
      (nx (.midByteCondition 1 ⟨.c, true⟩) (nx (.readDataByte 1 .c) r)).cport.pointer = 0x2001 := by
  refine ⟨by decide +kernel, by decide +kernel, by decide +kernel, by decide +kernel, by decide +kernel, ?_, by decide +kernel⟩
  intro a h; rcases h with rfl | rfl <;> decide +kernel

/-- R177, R192: port C's fault reaches the full count, port D's comes then, and C's byte is cut; and C's partial fault, equal to an older
one that stands, is taken back before the one that D can take back. -/
theorem test_partialFaultAmongOthers :
    let c : AccessFault := { port := .c, kind := .outOfMemory, addr := 0x9000 }
    let d : AccessFault := { port := .d, kind := .forbiddenRead, addr := 0x9000 }
    let r := { ReportUnit.reset with accessCount := 65534 }
    let q := (((ReportUnit.reset.record c true).begin d true).begin c true).takeBack .c
    ((r.begin c true).record d true).accessCount = 65535 ∧
      (((r.begin c true).record d true).takeBack .c).accessCount = 65535 ∧
      (((r.begin c true).begin d true).takeBack .c).accessCount = 65535 ∧
      ((((r.begin c true).begin d true).takeBack .c).takeBack .d).accessCount = 65534 ∧
      q.lastAccess = some d ∧ q.accessCount = 2 ∧ (q.takeBack .d).lastAccess = some c ∧ (q.takeBack .d).accessCount = 1 := by
  decide

/-- A byte stretched for exactly 20 ms, of each kind, and one stretched for a µs less. -/
theorem witness_StretchLimitRefusesByte :
    let held := fun (w : Waiting) =>
      withPort (writingAt .c 5) .c fun q => { q with stretch := some { what := w, addr := 5, since := 0 } }
    (∀ w, (portOf (held w) .c).stretch = some { what := w, addr := 5, since := 0 } ∧ (portOf (held w) .c).heldStart = none) ∧
      20000 ≤ (held (.read 5)).now + 20000 - 0 ∧ onBus (held (.read 5)) .c = false ∧
      (nx (.stretchLimit 20000 .c) (held (.post 5 5))).cport.reply = .nack ∧
      (nx (.stretchLimit 20000 .c) (held (.read 5))).cport.reply = .byte 0xFF ∧
      (nx (.stretchLimit 20000 .c) (held (.editWrite 5 5))).report.lastAccess =
        some { port := .c, kind := .editBusy, addr := 5 } ∧
      (nx (.stretchLimit 20000 .c) (held (.editRead 5))).cport.editRefused = true ∧
      (nx (.stretchLimit 19999 .c) (held (.post 5 5))).cport.reply = .ack := by
  refine ⟨fun w => ⟨rfl, rfl⟩, ?_⟩
  decide +kernel

/-! ### Memory link -/

/-- A C-port transfer idle for 200 µs, one that closes, and one whose device address was not acknowledged 100 µs ago. -/
theorem witness_TransfersEndRetryAndAreGranted :
    let x := onPort .cport .burst 0x100 5
    let open_ := { x with busy := false, count := 1 }
    let closing := { open_ with closing := true }
    (∀ t, (withTransfer up t).link.transfer = some t) ∧ x.who = requesterOf .c ∧ open_.busy = false ∧
      200 ≤ (withTransfer up open_).now + 200 - open_.since ∧ open_.kind = .burst ∧
      ({ open_ with kind := .read } : Transfer).kind = .read ∧ closing.closing = true ∧ x.busy = true ∧ x.count = 0 ∧
      ({ x with retries := 2 } : Transfer).retries < 3 ∧ 3 ≤ ({ x with retries := 3 } : Transfer).retries ∧
      ((nx (.heldBurstIdle 200 .c) (withTransfer up open_)).link.transfer.any (·.closing)) = true ∧
      ((nx (.heldBurstIdle 199 .c) (withTransfer up open_)).link.transfer.any (·.closing)) = false ∧
      ((nx (.readIdle 200 .c) (withTransfer up { open_ with kind := .read })).link.transfer.any (·.closing)) = true ∧
      (nx (.transferEnd 1) (withTransfer up closing)).link.transfer = none ∧
      (nx (.addressRetry 100) (withTransfer up { x with retries := 2 })).link.transfer =
        some { x with retries := 3, since := 100 } ∧
      (nx (.addressRetry 100) (withTransfer up { x with retries := 3 })).link.transfer = some { x with retries := 3 } := by
  refine ⟨fun _ => rfl, ?_⟩
  decide +kernel

/-- A free M-port for which all three wait, with the given ageing counts. -/
def allWait (d i c : Nat) : State :=
  let s := { up with
    link := { up.link with internal := [.carryRead 0x7C00, .commitRecord 0x7DF0], ageD := d, ageI := i, ageC := c } }
  withPort (withPort s .c fun q => { q with stretch := some { what := .read 3, addr := 3, since := 0 } }) .d fun q =>
    { q with post := [(0, 9)] }

/-- The arbiter: the fixed order, one requester with a count of 4, two, and none that waits. -/
theorem witness_TransfersAreGranted :
    (allWait 0 0 0).link.transfer = none ∧ (allWait 0 0 0).link.internal ≠ [] ∧ (portRequest (allWait 0 0 0) .c).isSome = true ∧
      (portRequest (allWait 0 0 0) .d).isSome = true ∧
      (arbitrate (allWait 3 3 3)).link.transfer = portRequest (allWait 3 3 3) .d ∧
      (arbitrate (allWait 3 3 3)).link.ageC = 4 ∧ (arbitrate (allWait 3 3 3)).link.ageD = 0 ∧
      (arbitrate (allWait 3 3 4)).link.transfer = portRequest (allWait 3 3 4) .c ∧
      ((arbitrate (allWait 3 4 4)).link.transfer.map (·.kind)) = some (.job (.carryRead 0x7C00) false) ∧
      (arbitrate (allWait 3 4 4)).link.internal = [.commitRecord 0x7DF0] ∧ (arbitrate (allWait 3 4 4)).link.ageC = 5 ∧
      up.link.transfer = none ∧ (portRequest up .c).isSome = false ∧ (portRequest up .d).isSome = false ∧
      up.link.internal = [] := by decide +kernel

/-- A busy M-port. -/
theorem witness_BusyLinkIsLeft (t : Transfer) : (withTransfer up t).link.transfer ≠ none := Option.some_ne_none t

/-- A HELD byte at the last address of the FRAM, one that waits behind a byte that was cut off, a drained entry, and a read. -/
theorem witness_MemoryBytesCompletePortTransfers :
    let h := withTransfer (withPort up .c fun q => { q with
      txn := .writing, stretch := some { what := .held 0x7FFF 9, addr := 0x7FFF, since := 0 } })
      (onPort .cport .burst 0x7FFF 9)
    let c := withTransfer h { onPort .cport .burst 0x7FFE 8 with closing := true }
    let d := withTransfer (withPort up .c fun q => { q with post := [(0, 9), (7, 8)] }) (onPort .cport (.drain 1) 0 9)
    let full := withTransfer (withPort up .c fun q => { q with
      txn := .writing, post := .replicate 32 (0, 9), stretch := some { what := .post 7 6, addr := 7, since := 0 } })
      (onPort .cport (.drain 1) 0 9)
    let r := withTransfer (withPort { up with mem := [(3, 4)] } .c fun q => { q with
      txn := .reading, stretch := some { what := .read 3, addr := 3, since := 0 } }) (onPort .cport .read 3 0)
    (memoryForm h = true ∧ (portOf h .c).heldStart = none ∧ (portOf h .c).stretch.isSome = true ∧ memoryForm d = true ∧
        (portOf d .c).heldStart = none ∧ (portOf d .c).stretch = none ∧ (portOf r .c).heldStart = none ∧
        (portOf r .c).stretch.isSome = true ∧ (onPort .cport .burst 0x7FFF 9).who = requesterOf .c ∧
        (onPort .cport .burst 0x7FFF 9).closing = false ∧ (onPort .cport .read 3 0).closing = false) ∧
      readByte (nx (.memoryDataAck 1) c) 0x7FFE = 8 ∧ (nx (.memoryDataAck 1) c).cport.stretch = h.cport.stretch ∧
      readByte (nx (.memoryDataAck 1) h) 0x7FFF = 9 ∧ (nx (.memoryDataAck 1) h).cport.reply = .ack ∧
      (nx (.memoryDataAck 1) d).cport.post = [(7, 8)] ∧
      (memoryForm full = true ∧ (portOf full .c).heldStart = none ∧ (portOf full .c).post.length ≤ 32) ∧
      (nx (.memoryDataAck 1) full).cport.post = .replicate 31 (0, 9) ++ [(7, 6)] ∧
      (nx (.memoryDataAck 1) full).cport.reply = .ack ∧
      (nx (.memoryDataAck 1) (withPort d .c fun q => { q with stretch := some { what := .held 5 5, addr := 5, since := 0 } })).cport.post
        = [(7, 8)] ∧ (nx (.memoryReadByte 1) r).cport.reply = .byte 4 := by decide +kernel

/-- A transfer of each kind, with a cause that can befall it. -/
theorem witness_FailedTransferLatchesMemoryFault :
    let h := withTransfer (withPort up .c fun q => { q with
      txn := .writing, stretch := some { what := .held 5 9, addr := 5, since := 0 } }) (onPort .cport .burst 5 9)
    let r := withTransfer (withPort up .c fun q => { q with
      txn := .reading, stretch := some { what := .read 3, addr := 3, since := 0 } })
      { onPort .cport .read 3 0 with retries := 3 }
    let d := withTransfer (withPort up .c fun q => { q with post := [(0, 9), (1, 8), (7, 7)] }) (onPort .cport (.drain 2) 0 9)
    causeFits (onPort .cport .burst 5 9) (.dataByte 0) = true ∧
      causeFits { onPort .cport .read 3 0 with retries := 3 } .deviceAddress = true ∧
      causeFits (onPort .cport (.drain 2) 0 9) .memoryAddress = true ∧
      (onPort .cport .burst 5 9).closing = false ∧ (onPort .cport .read 3 0).closing = false ∧
      (portOf h .c).heldStart = none ∧ (portOf r .c).heldStart = none ∧ (portOf d .c).heldStart = none ∧
      (portOf d .c).stretch = none ∧
      (nx (.transferFailed 1 (.dataByte 0)) h).cport.reply = .nack ∧
      (nx (.transferFailed 1 .deviceAddress) r).cport.reply = .byte 0xFF ∧
      (nx (.transferFailed 1 .memoryAddress) d).cport.post = [(7, 7)] ∧
      (nx (.transferFailed 1 (.dataByte 0)) d).cport.post = [(1, 8), (7, 7)] ∧
      isLatched (nx (.transferFailed 1 (.dataByte 0)) d) .postedWriteLost = true := by decide +kernel

/-- An internal write that fails at its last data byte and at its first, at the top of memory. -/
theorem witness_FailedTransferLatchesMemoryFault_job :
    let x := onPort .internal (.job (.carryWrite 0x7FF0 (.replicate 16 1)) false) 0x7FF0 0
    let s := withTransfer up x
    s.link.transfer = some x ∧ memoryForm s = true ∧ causeFits x (.dataByte 15) = true ∧ causeFits x (.dataByte 0) = true ∧
      isLogWrite (.carryWrite 0x7FF0 (.replicate 16 1)) = false ∧
      readByte (nx (.transferFailed 1 (.dataByte 15)) s) 0x7FFE = 1 ∧
      readByte (nx (.transferFailed 1 (.dataByte 0)) s) 0x7FF0 = 0 := by decide +kernel

/-- R194: the slot of a log write that fails keeps the entry it held before. -/
theorem test_failedLogWrite_keepsSlot :
    let s := withJob up (.logWrite 0x7B40 (.replicate 16 1))
    (nx (.transferFailed 1 (.dataByte 15)) s).mem = s.mem ∧
      isLatched (nx (.transferFailed 1 (.dataByte 15)) s) .memoryFault = true := by decide +kernel

/-! ### Plan page unit -/

theorem witness_CommitBeginsSwapOrIsBusy :
    let s := { up with hand := { up.hand with commit := true } }
    s.hand.commit = true ∧ s.pages.swap = none ∧ (swapping s (aSwap .validate 16)).hand.commit = true ∧
      (nx (.commit 1) s).pages.swap = some (aSwap .record 0) ∧
      (nx (.commit 1) (swapping s (aSwap .validate 16))).pages.result = .busy := by decide +kernel

/-- The commit record's place with each flag, while a plan is under way and while none is. -/
theorem witness_CommitRecordFillsSwap :
    let s := withJob (swapping up (aSwap .record 0)) (.commitRecord 0x7DF0)
    let run := withJob (swapping (running [aStep .coast 100 5 0 0 .abort] 0) (aSwap .record 0)) (.commitRecord 0x7DF0)
    (jobOnBus s = some (.commitRecord 0x7DF0, false) ∧ s.pages.swap = some (aSwap .record 0) ∧ planUnderWay s = false) ∧
      (jobOnBus run = some (.commitRecord 0x7DF0, false) ∧ run.pages.swap = some (aSwap .record 0) ∧ planUnderWay run = true ∧
        readByte run (0x7DF0 + 3) = 0) ∧
      readByte { run with mem := [(0x7DF3, 1)] } (0x7DF0 + 3) = 1 ∧
      (nx (.commitRecordRead 1) run).pages.result = .refusedRunning ∧
      (nx (.commitRecordRead 1) { run with mem := [(0x7DF3, 1)] }).pages.swap =
        some { aSwap .validate 0 with amend := true, noted := some 7 } ∧
      (nx (.commitRecordRead 1) { s with mem := [(0x7DF1, 1)] }).pages.swap =
        some { aSwap .carryHeader 0 with headerCarry := true } ∧
      (nx (.commitRecordRead 1) { s with mem := [(0x7DF2, 1)] }).pages.swap =
        some { aSwap .carrySteps 0x20 with stepsCarry := true, bytes := [] } := by decide +kernel

/-- The last granule of the header with and without the steps, the last of the steps, and one in their middle. -/
theorem witness_CarryCopyMovesGranules :
    let w := { aSwap .carryHeader 0x10 with bytes := [], headerCarry := true }
    let bytes : List Byte := .replicate 16 1
    let at_ := fun (w : Swap) => withJob (swapping up w) (.carryWrite (0x7D00 + w.offset) bytes)
    let after := fun (w : Swap) => (nx (.carryWrite 1) (at_ w)).pages.swap.map fun u => (u.phase, u.offset)
    (∀ w, (at_ w).pages.swap = some w ∧ jobOnBus (at_ w) = some (.carryWrite (0x7D00 + w.offset) bytes, false)) ∧
      memoryForm (at_ w) = true ∧
      after { w with stepsCarry := true } = some (.carrySteps, 0x20) ∧ after w = some (.validate, 0) ∧
      after { w with phase := .carrySteps, offset := 0xD0 } = some (.validate, 0) ∧
      after { w with phase := .carrySteps, offset := 0x30 } = some (.carrySteps, 0x40) ∧
      ((nx (.carryRead 1) (withJob (swapping up w) (.carryRead 0x7C10))).pages.swap.any fun u =>
        u.carry == some (.replicate 16 0)) = true := by
  refine ⟨fun _ => ⟨rfl, rfl⟩, ?_⟩
  decide +kernel

/-- Two bytes, low byte first. -/
def two (n : Nat) : List Byte := [BitVec.ofNat 8 n, BitVec.ofNat 8 (n / 256)]

/-- A list filled with zeros to a length. -/
def filled (n : Nat) (l : List Byte) : List Byte := l ++ .replicate (n - l.length) 0

/-- The first 0xE0 bytes of a plan page with one COAST step, valid under the built-in settings. -/
def coastPage : List Byte :=
  let header := filled 0x1E ([7, 0, 1, 0, 0, 0] ++ two 400)
  let steps := filled 0xC0 ([4] ++ two 100 ++ two 50 ++ two 5)
  header ++ two (crc16 (header ++ steps)) ++ steps

/-- A validation read before the last one; the last of a valid page with no plan under way, with the noted identity and with
another; the last of a page of zeros, which fails its first check. -/
theorem witness_ValidationRejectsOrFlips :
    let w := { aSwap .validate 0xD0 with bytes := coastPage.take 0xD0 }
    let ok := withJob (swapping { up with mem := [] } w) (.validate 0x7DD0)
    let run := withJob (swapping (running [aStep .coast 100 5 0 0 .abort] 0) { w with noted := some 7 }) (.validate 0x7DD0)
    let bad := withJob (swapping up { w with bytes := .replicate 0xD0 1 }) (.validate 0x7DD0)
    planCheck ok.settings.inForce (w.bytes ++ readBytes ok 0x7DD0 16) none = none ∧ planUnderWay ok = false ∧
      planCheck run.settings.inForce (w.bytes ++ readBytes run 0x7DD0 16) (some 0) = none ∧ planUnderWay run = true ∧
      (planOf (w.bytes ++ readBytes ok 0x7DD0 16)).identity = 7 ∧
      (nx (.validationRead 1) ok).pages.active = .b ∧ (nx (.validationRead 1) run).pages.result = .swapped ∧
      (nx (.validationRead 1) (swapping run { w with noted := some 8 })).pages.result = .refusedRunning ∧
      (nx (.validationRead 1) bad).pages.result = .rejected ∧ (nx (.validationRead 1) bad).pages.check = 1 ∧
      ((nx (.validationRead 1) (withJob (swapping up (aSwap .validate 0xC0)) (.validate 0x7DC0))).pages.swap.any
        fun u => u.offset == 0xD0) = true := by decide +kernel

/-! ### Telemetry checks and command block -/

theorem witness_TelemetryAdoptionAndAge :
    let s := { up with hand := { up.hand with telemetry := true } }
    let same := { s with tel := { s.tel with adoptedSeq := some 0 } }
    let run := running [aStep .coast 100 5 0 0 .abort] 0
    let rest := { run with gov := { run.gov with run := false } }
    s.hand.telemetry = true ∧ s.tel.adoptedSeq ≠ some s.tel.image[0] ∧ same.tel.adoptedSeq = some same.tel.image[0] ∧
      (run.est.owed = false ∧ run.tel.running = true ∧ run.tel.lastFresh = some 0 ∧
        run.settings.inForce.governor.ageLimit * 1000 ≤ run.now + 199990 - 0 ∧ run.gov.run = true ∧ run.gov.state ≠ .idle ∧
        run.gov.state ≠ .trip ∧ rest.gov.run = false) ∧
      (nx (.telemetryAdopt 1) s).tel.running = true ∧ (nx (.telemetryAdopt 1) same).tel.running = false ∧
      (nx (.telemetryAgeExpiry 199990) run).gov.state = .trip ∧
      (nx (.telemetryAgeExpiry 199989) run).gov.state = .hold ∧
      (nx (.telemetryAgeExpiry 199990) rest).gov.state = .hold := by decide +kernel

/-- IDLE with a valid plan copy of one DISTRIBUTE step and fresh telemetry. -/
def ready : State :=
  let s := running [aStep .distribute 90 5 0 2 .abort] 0
  { s with
    gov := idle.gov
    runner := { s.runner with state := .none }
    lines := idle.lines }

theorem witness_StartAndResumeEnterStep :
    let start := withCommand ready 0x01 []
    let resume := withCommand { ready with runner := { ready.runner with state := .waitResume } } 0x04 []
    let busy := swapping start (aSwap .record 0)
    (start.hand.command = true ∧ start.est.owed = false ∧ restLaw start = true ∧ start.dosing.pass = none ∧
        start.cmd.image[1] = 0x01 ∧ start.gov.state = .idle ∧ start.runner.state ≠ .running ∧
        start.runner.state ≠ .waitResume ∧ start.pages.valid = true ∧ tripLatched start = false ∧
        start.lines.spinPermit.all = true ∧ start.settings.restricted = false ∧ start.pages.swap = none ∧
        start.runner.plan.steps[0]? = some (aStep .distribute 90 5 0 2 .abort) ∧ start.tel.running = true ∧
        start.tel.adopted = none ∧ start.lines.knock.some = false) ∧
      (resume.hand.command = true ∧ resume.est.owed = false ∧ restLaw resume = true ∧ resume.dosing.pass = none ∧
        resume.cmd.image[1] = 0x04 ∧ resume.runner.state = .waitResume ∧ resume.gov.state = .idle ∧
        tripLatched resume = false ∧ resume.lines.spinPermit.all = true ∧ resume.pages.swap = none ∧
        resume.runner.plan.steps[resume.runner.plan.retryTarget]? = some (aStep .distribute 90 5 0 2 .abort)) ∧
      (busy.hand.command = true ∧ busy.est.owed = false ∧ restLaw busy = true ∧ busy.pages.swap ≠ none) ∧
      (nx (.startPlan 1) start).runner.state = .running ∧ (nx (.resume 1) resume).runner.state = .running ∧
      (nx (.startPlan 1) busy).cmd.result = .refusedState := by decide +kernel

theorem witness_StopAndHaltEndPlan :
    let run := running [aStep .coast 100 5 0 0 .abort] 0
    let stop := withCommand run 0x02 []
    let halt := withCommand run 0x03 []
    let rest := withCommand idle 0x03 []
    (stop.hand.command = true ∧ stop.est.owed = false ∧ restLaw stop = true ∧ stop.cmd.image[1] = 0x02 ∧
        stop.runner.state = .running) ∧
      ((withCommand idle 0x02 []).runner.state ≠ .running ∧ restLaw (withCommand idle 0x02 []) = true) ∧
      (halt.hand.command = true ∧ restLaw halt = true ∧ halt.cmd.image[1] = 0x03 ∧ halt.gov.state ≠ .idle ∧
        halt.gov.state ≠ .trip) ∧ (restLaw rest = true ∧ rest.gov.state = .idle) ∧
      (nx (.stop 1) stop).gov.state = .stopping ∧ (nx (.stop 1) (withCommand idle 0x02 [])).cmd.result = .refusedState ∧
      (nx (.halt 1) halt).gov.state = .trip ∧ isLatched (nx (.halt 1) rest) .halt = true := by decide +kernel

/-- A DOSE of the whole budget, of one millilitre more, for chamber 4, and outside a plan; DOSE_CANCEL with a pass and without. -/
theorem witness_DoseAndCancelCommands :
    let s := withSettings (dosingAt 100 0 none) fun x => { x with dosing := { x.dosing with enable := true } }
    let s := { s with dosing := { s.dosing with queue := [] } }
    let all := withCommand s 0x05 ([3] ++ two 400)
    let more := withCommand s 0x05 ([3] ++ two 401)
    let fifth := withCommand s 0x05 ([4] ++ two 1)
    let pass := withCommand (dosingAt 100 0 (some (aPass 9000 false))) 0x06 []
    (∀ t, t = all ∨ t = more ∨ t = fifth → t.hand.command = true ∧ t.est.owed = false ∧ queueLaw t = true ∧
      orderLaw t = true ∧ t.cmd.image[1] = 0x05 ∧ mayDose t = true) ∧
      (all.cmd.image[2].toNat < 4 ∧ 400 ≤ remainingCapacity all 3 ∧ 400 ≤ remainingBudget all ∧
        ¬401 ≤ remainingBudget more ∧ 4 ≤ fifth.cmd.image[2].toNat ∧ mayDose (withCommand idle 0x05 [0, 1, 0]) = false) ∧
      (pass.hand.command = true ∧ queueLaw pass = true ∧ orderLaw pass = true ∧ pass.cmd.image[1] = 0x06) ∧
      (nx (.dose 1) all).cmd.result = .taken ∧ (nx (.dose 1) more).cmd.result = .refusedArgument ∧
      (nx (.dose 1) fifth).cmd.result = .refusedArgument ∧ (nx (.doseCancel 1) pass).dosing.pass = none ∧
      (nx (.doseCancel 1) pass).dosing.queue = [] ∧
      (nx (.doseCancel 1) (withCommand s 0x06 [])).cmd.result = .taken := by
  refine ⟨?_, by decide +kernel⟩
  intro t h; rcases h with rfl | rfl | rfl <;> decide +kernel

theorem witness_LinesCommandDrivesOutputs :
    let s := withCommand up 0x07 [0xFF, 0x00]
    s.hand.command = true ∧ s.est.owed = false ∧ s.cmd.image[1] = 0x07 ∧ (nx (.lines 1) s).cmd.result = .taken := by
  decide +kernel

/-- Masks with every known bit, inside and outside IDLE, and with the first unknown one; the last known code and the first unknown. -/
theorem witness_FaultCountAndReportCommands :
    let latched := fun (s : State) => { s with report := { s.report with latches := 0x7FF } }
    let ack := withCommand (latched idle) 0x08 (two 0x7FF)
    let away := withCommand (latched up) 0x08 (two 0x7FF)
    let unknown := withCommand (latched idle) 0x08 (two 0x800)
    (ack.hand.command = true ∧ ack.est.owed = false ∧ ack.cmd.image[1] = 0x08) ∧ up.est.owed = false ∧
      (withCommand up 0x0C []).cmd.image[1] = 0x0C ∧ 0x0B < (withCommand up 0x0C []).cmd.image[1].toNat ∧
      (nx (.ackFaults 1) ack).report.latches = 0 ∧ (nx (.ackFaults 1) away).report.latches = 0x0FF ∧
      (nx (.ackFaults 1) away).cmd.result = .takenPartial ∧ (nx (.ackFaults 1) unknown).report.latches = 0x7FF ∧
      (nx (.clearCounts 1) (withCommand up 0x09 [])).cmd.result = .taken ∧
      (nx (.reportNow 1) (withCommand up 0x0B [])).report.write = .pending ∧
      (nx (.unknownCode 1) (withCommand up 0x0C [])).cmd.result = .unknownCode ∧
      (nx (.unknownCode 1) (withCommand up 0x00 [])).cmd.result = .unknownCode := by decide +kernel

/-! ### Resets, settings, start-up and report -/

theorem witness_ResetsSetTheBlock :
    let s := withCommand idle 0x0A []
    let drain := withPort s .d fun q => { q with post := [(1, 1)] }
    let cut := withJob up (.carryWrite 0x7FF0 (.replicate 16 5))
    (s.hand.command = true ∧ s.est.owed = false ∧ s.cmd.image[1] = 0x0A ∧ s.gov.state = .idle ∧
        s.runner.state ≠ .running ∧ s.runner.state ≠ .waitResume) ∧ (withCommand up 0x0A []).gov.state ≠ .idle ∧
      (jobOnBus cut = some (.carryWrite 0x7FF0 (.replicate 16 5), false) ∧ memoryForm cut = true) ∧
      (nx (.restart 1 0) s).settings.startup = .reading 0 ∧ (nx (.restart 1 0) drain).settings.startup = .drainWait ∧
      (nx (.restart 1 0) (withCommand up 0x0A [])).cmd.result = .refusedState ∧
      readByte (nx (.hardReset 1 0 0 16) { cut with mem := [(0x7FEF, 3)] }) 0x7FEF = 3 ∧
      readByte (nx (.hardReset 1 0 0 16) cut) 0x7FFF = 5 ∧ readByte (nx (.hardReset 1 0 0 15) cut) 0x7FFF = 0 := by
  decide +kernel

/-- The first 510 bytes of a valid settings block. -/
def goodBlock : List Byte :=
  let window := fun (k c d h base limit : Nat) =>
    ([BitVec.ofNat 8 k, BitVec.ofNat 8 c, BitVec.ofNat 8 d, BitVec.ofNat 8 h] : List Byte) ++ two base ++ two limit
  let l := window 1 0 0 0 0x0100 0x010F ++ window 2 0 0 0 0x0110 0x011F ++ window 4 0 0 0 0x0200 0x02FF
  let l := l ++ window 3 0 0 0 0x0300 0x03FF ++ window 5 0 0 0 0x0400 0x053F ++ window 0 2 0 1 0x1000 0x3FFF
  let l := l ++ window 0 1 1 0 0x0000 0x7FFF ++ window 0 0 0 0 0x0010 0x0000
  let l := l ++ two 0x7C00 ++ two 0x7D00 ++ [0, 0x3F] ++ two 500 ++ [1, 0, 0, 12]
  let l := filled 0x50 l ++ two 120 ++ [6, 96] ++ two 40 ++ two 3000 ++ two 256
  let l := filled 0x60 l ++ (List.range 8).flatMap fun i => two (100 * (i + 1)) ++ two 512 ++ two 0
  let l := l ++ (List.range 8).flatMap fun i => two (100 * i) ++ two 120 ++ two 20
  let l := l ++ (List.range 6).flatMap fun _ => two 10 ++ two 0 ++ two 1 ++ two 0
  let l := l ++ two 1200 ++ two 100 ++ [3, 0, 20, 6, 10, 0] ++ two 200
  let l := filled 0x100 l ++ [0, 80] ++ two 450 ++ two 0 ++ [0, 0] ++ two 300 ++ two 90 ++ two 350 ++ two 50 ++ [6]
  let l := filled 0x120 l ++ [1, 1, 0, 0, 0, 0, 0, 0, 10]
  filled 510 l

/-- A valid settings image. -/
def goodImage : List Byte := goodBlock ++ two (crc16 goodBlock)

theorem test_goodImage_passesEveryCheck : goodImage.length = 512 ∧ settingsCheck goodImage = 0 := by decide +kernel

/-- The last granule of a re-read of a valid image, adopted in IDLE and deferred in a run, and of an invalid one; a pending image. -/
theorem witness_SettingsRereadAndAdoption :
    let last := fun (s : State) (l : List Byte) => withJob (storeBytes
      { s with settings := { s.settings with reading := some (l.take 496) } } 0x7FF0 (l.drop 496)) (.settingsRead 31)
    let good := last idle goodImage
    let deferred := last (running [aStep .coast 100 5 0 0 .abort] 0) goodImage
    let bad := last idle (.replicate 512 1)
    let pending := { idle with settings := { idle.settings with pending := some goodImage } }
    (good.settings.startup = .done ∧ jobOnBus good = some (.settingsRead 31, false) ∧
        good.settings.reading = some (goodImage.take 496) ∧ 512 ≤ (goodImage.take 496).length + 16) ∧
      (nx (.settingsRead 1) good).settings.status = .adopted ∧ (nx (.settingsRead 1) deferred).settings.status = .deferred ∧
      (nx (.settingsRead 1) bad).settings.status = .rejected ∧ (nx (.settingsRead 1) bad).settings.check = 1 ∧
      (started pending = true ∧ pending.gov.state = .idle ∧ pending.runner.state ≠ .running ∧
        pending.runner.state ≠ .waitResume ∧ pending.pages.swap = none ∧ pending.cport.txn = .idle ∧
        pending.dport.txn = .idle ∧ pending.cport.post = [] ∧ pending.dport.post = []) ∧
      (nx (.adoption 1) pending).settings.inForce = settingsOf goodImage ∧
      (nx (.adoption 1) { pending with cport := { pending.cport with txn := .writing } }).settings.pending = some goodImage ∧
      (nx (.settingsReread 1) { up with hand := { up.hand with settings := true } }).settings.reading = some [] := by
  decide +kernel

/-- The last start-up read of a valid image and of an invalid one, the retry's moment, and the last slot of the log scan. -/
theorem witness_StartupReadsAndScans :
    let last := fun (l : List Byte) => withJob (storeBytes
      { State.reset with settings := { State.reset.settings with startup := .reading 2, reading := some (l.take 496) } }
      0x7FF0 (l.drop 496)) (.startupRead 31)
    let pause := { State.reset with settings := { State.reset.settings with startup := .pause 2 0, reading := none } }
    let scan := withJob { up with
      mem := [(0x0530, 9), (0x0534, 1)]
      settings := { up.settings with startup := .scanning, scan := some { slot := 15, found := [] } } } (.logScan 15 0x0530)
    ((last goodImage).settings.startup = .reading 2 ∧ jobOnBus (last goodImage) = some (.startupRead 31, false) ∧
        (last goodImage).settings.reading = some (goodImage.take 496) ∧
        512 ≤ (goodImage.take 496 ++ readBytes (last goodImage) (0x7E00 + 16 * 31) 16).length) ∧
      (nx (.startupSettingsRead 1) (last goodImage)).settings.status = .adopted ∧
      (nx (.startupSettingsRead 1) (last (.replicate 512 1))).settings.check = 1 ∧
      (pause.settings.startup = .pause 2 0 ∧ 10000 ≤ pause.now + 10000 - 0) ∧
      (nx (.startupReadRetry 10000) pause).settings.startup = .reading 3 ∧
      (nx (.startupReadRetry 9999) pause).settings.startup = .pause 2 0 ∧
      (jobOnBus scan = some (.logScan 15 0x0530, false) ∧ scan.settings.scan = some { slot := 15, found := [] }) ∧
      (nx (.logScanRead 1) scan).settings.startup = .done ∧ (nx (.logScanRead 1) scan).report.nextSeq = 10 := by
  decide +kernel

/-- A hold expiry that begins the next step asks for a report write, whose image shows the command number that the event gave. -/
theorem test_reportShowsNewCommandNumber :
    let s := withSettings (running [aStep .coast 100 5 0 0 .abort, aStep .balance 100 5 0 2 .abort] 0)
      fun x => { x with traffic := exampleMap }
    let t := nx (.holdExpiry 4999990) { s with report := { s.report with ring := .ready }, cmd := { s.cmd with lastSeq := some 7 } }
    t.gov.number = s.gov.number + 1 ∧ t.report.write = .writing (reportImage t t.report.seq) 0 := by decide +kernel

/-- Each condition of ALERT alone, and none. -/
theorem witness_Alert :
    alertLow up = true ∧ (let ok := { up with settings := { up.settings with status := .adopted } }
      alertLow ok = false ∧ alertLow { ok with report := { ok.report with latches := 0x400 } } = true ∧
        alertLow { ok with runner := { ok.runner with state := .waitResume } } = true ∧
        alertLow { ok with settings := { ok.settings with status := .rejected } } = true) := by decide +kernel

theorem witness_ReportWritesAndAlert :
    let s := { up with report := { up.report with periodStart := some 0 } }
    let writing := { s with report := { s.report with write := .writing [] 0 } }
    let bytes : List Byte := .replicate 16 7
    let granule := fun (g : Nat) => withJob { up with report := { up.report with write := .writing bytes g } }
      (.report (0x0400 + 16 * g) bytes)
    let log := withJob up (.logWrite 0x0530 bytes)
    (s.report.periodStart = some 0 ∧ s.settings.inForce.reportPeriod * 1000 ≤ s.now + 500000 - 0) ∧
      (∀ g, (granule g).est.owed = false ∧ jobOnBus (granule g) = some (.report (0x0400 + 16 * g) bytes, false) ∧
        (granule g).report.write = .writing bytes g) ∧ jobOnBus log = some (.logWrite 0x0530 bytes, false) ∧
      memoryForm log = true ∧
      (nx (.reportPeriodExpiry 500000) s).report.write = .pending ∧ (nx (.reportPeriodExpiry 499999) s).report.write = .idle ∧
      (nx (.reportPeriodExpiry 500000) writing).report.again = true ∧
      (nx (.reportGranuleWrite 1) (granule 2)).report.write = .writing bytes 3 ∧
      (nx (.reportGranuleWrite 1) (granule 3)).report.write = .idle ∧
      readByte (nx (.logWrite 1) log) 0x053F = 7 := by
  refine ⟨by decide +kernel, fun _ => ⟨rfl, rfl, rfl⟩, ?_⟩
  decide +kernel

end Sys2Proof.Tests
end

/-! The four flags of an interlock test as statements about its tested lines (R116, R117). -/

namespace Sys2Proof.Machine

/-! ### Tested and matching lines (R116) -/

@[simp] theorem mem_testedLines {ls : Lines} {x : TestSetting} {n : Fin 8} :
    n ∈ testedLines ls x ↔ x.mask.getLsbD n = true ∧ ls.line[n].output = false := by
  simp only [testedLines, List.mem_filter, List.mem_finRange, true_and, Bool.and_eq_true, Bool.not_eq_true']

@[simp] theorem lineMatches_iff {ls : Lines} {x : TestSetting} {n : Fin 8} :
    lineMatches ls x n = true ↔ ls.line[n].accepted = x.pattern.getLsbD n := beq_iff_eq

/-! ### One equivalence per flag (R117) -/

section
variable {ls : Lines} {x : TestSetting}

theorem testFlags_all_iff :
    (testFlags ls x).all = true ↔ ∀ n ∈ testedLines ls x, lineMatches ls x n = true := List.all_eq_true

theorem testFlags_some_iff :
    (testFlags ls x).some = true ↔ ∃ n ∈ testedLines ls x, lineMatches ls x n = true := List.any_eq_true

/-- ALL and SOME_NOT are opposite whatever is tested, the empty test included. -/
theorem testFlags_someNot_eq (ls : Lines) (x : TestSetting) :
    (testFlags ls x).someNot = !(testFlags ls x).all := List.not_all_eq_any_not.symm

/-- So are NONE and SOME. -/
theorem testFlags_some_eq (ls : Lines) (x : TestSetting) :
    (testFlags ls x).some = !(testFlags ls x).none := by
  simp only [testFlags, List.not_all_eq_any_not, Bool.not_not]

theorem testFlags_someNot_iff :
    (testFlags ls x).someNot = true ↔ ∃ n ∈ testedLines ls x, ¬lineMatches ls x n = true := by
  simp only [testFlags, List.any_eq_true, Bool.not_eq_true', Bool.not_eq_true]

theorem testFlags_none_iff :
    (testFlags ls x).none = true ↔ ∀ n ∈ testedLines ls x, ¬lineMatches ls x n = true := by
  simp only [testFlags, List.all_eq_true, Bool.not_eq_true', Bool.not_eq_true]

/-! ### The empty test (R117) -/

theorem testFlags_of_no_tested (h : ∀ n, n ∉ testedLines ls x) :
    testFlags ls x = { all := true, none := true, some := false, someNot := false } := by
  have empty : testedLines ls x = [] := List.eq_nil_iff_forall_not_mem.2 h
  simp only [testFlags, empty, List.all_nil, List.any_nil]

/-- A tested line matches or does not, so it falsifies NONE or ALL. -/
theorem testFlags_all_and_none_iff :
    (testFlags ls x).all = true ∧ (testFlags ls x).none = true ↔ ∀ n, n ∉ testedLines ls x := by
  constructor
  · rintro ⟨hall, hnone⟩ n tested
    exact testFlags_none_iff.1 hnone n tested (testFlags_all_iff.1 hall n tested)
  · intro h
    simp only [testFlags_of_no_tested h, and_self]

end

/-- Settles O35: each flag by its equivalence over the tested lines, the opposites from `testFlags_someNot_eq` and
`testFlags_some_eq`, the empty test from `testFlags_of_no_tested`. -/
theorem interlockTestFlags : Obligations.InterlockTestFlags := by
  intro ls x
  simp only [← mem_testedLines, ← lineMatches_iff]
  exact ⟨testFlags_all_iff, testFlags_none_iff, testFlags_some_iff, testFlags_someNot_iff,
    fun _ => ⟨testFlags_someNot_eq ls x, testFlags_some_eq ls x⟩,
    testFlags_all_and_none_iff, testFlags_of_no_tested⟩

end Sys2Proof.Machine

/-! The default pass: what the window decoder answers for an address that no step before it takes, and the data byte that follows
(R132). -/

namespace Sys2Proof.Machine

/-! ### Windows that cover nothing (R123, R128) -/

theorem WindowEntry.covers_eq_false_iff {w : WindowEntry} {a : Nat} :
    w.covers a = false ↔ (w.enabled = true → a < w.first ∨ w.last < a) := by
  cases enabled : w.enabled with
  | false => simp [WindowEntry.covers, enabled]
  | true =>
    simp only [WindowEntry.covers, enabled, Bool.true_and, Bool.and_eq_false_iff, decide_eq_false_iff_not, Nat.not_le,
      true_implies]

/-- Below the settings region the decode comes to the window step's last case when neither page nor window takes the address. -/
theorem decode_of_uncovered {t : TrafficSettings} {a : Nat} (p : Port) (write : Bool) (below : a < Config.settingsBase)
    (pageA : inPage t.pageA a = false) (pageB : inPage t.pageB a = false)
    (uncovered : ∀ i : Fin 8, t.windows[i].covers a = false) : decode t p write a = .memory .held none := by
  have noWindow : t.windows.toList.find? (·.covers a) = none := by
    rw [List.find?_eq_none]
    intro w hw
    obtain ⟨i, hi, rfl⟩ := Vector.getElem_of_mem (Vector.mem_toList_iff.1 hw)
    exact Bool.eq_false_iff.1 (uncovered ⟨i, hi⟩)
  have inMemory : ¬Config.memSize ≤ a := Nat.not_le.2 (Nat.lt_trans below (by decide))
  simp only [decode, inMemory, Nat.not_le.2 below, pageA, pageB, noWindow, Bool.or_self, Bool.false_eq_true, if_false]

/-! ### A data byte that goes to memory at its own address (R128, R179, R182) -/

section
variable {p : Port} {s : State}

theorem takeWriteByte_held {v : Byte} {x : Option SnoopPoint}
    (h : decode s.settings.inForce.traffic p true (portOf s p).pointer.toNat = .memory .held x)
    (writing : (portOf s p).txn = .writing) (free : (portOf s p).stretch = none) :
    takeWriteByte p v s = holdWrite p (portOf s p).pointer.toNat v (portOf s p).pointer.toNat s.now
      (snoopAt p x v (stepPointer p s)) := by
  simp only [takeWriteByte, writing, free, and_self, if_true, writeByte, h]

theorem takeReadByte_memory {handling : Handling} {x : Option SnoopPoint}
    (h : decode s.settings.inForce.traffic p false (portOf s p).pointer.toNat = .memory handling x)
    (reading : (portOf s p).txn = .reading) (free : (portOf s p).stretch = none) (sends : (portOf s p).nacked = false) :
    takeReadByte p s = askRead p (portOf s p).pointer.toNat (portOf s p).pointer.toNat s.now
      (stepPointer p (noteSending p s)) := by
  simp only [takeReadByte, reading, free, sends, Bool.not_false, and_self, if_true, readByteOn, h]

end

/-! ### The events of a data byte -/

theorem exec_writeDataByte (dt : Nat) (p : Port) (v : Byte) (s : State) :
    exec (.writeDataByte dt p v) s = .next (event (takeWriteByte p v) dt s) := rfl

theorem exec_readDataByte (dt : Nat) (p : Port) (s : State) :
    exec (.readDataByte dt p) s = .next (event (takeReadByte p) dt s) := rfl

/-- After the event's own effect nothing touches the command block or the telemetry. -/
@[simp] theorem event_cmd (f : State → State) (dt : Nat) (s : State) : (event f dt s).cmd = (f (advance dt s)).cmd := by
  simp [event]

@[simp] theorem event_tel (f : State → State) (dt : Nat) (s : State) : (event f dt s).tel = (f (advance dt s)).tel := by
  simp [event]

/-! ### The byte on its port after the whole event -/

section
variable {f : State → State} {dt : Nat} {s u : State} {p : Port} {target a start : Nat}

/-- A byte that waits for its memory write waits through what follows the event. -/
theorem portOf_event_holdWrite {v : Byte} (effect : f (advance dt s) = holdWrite p target v a start u)
    (noStart : (portOf u p).heldStart = none) :
    portOf (event f dt s) p = { portOf u p with
      stretch := some { what := .held target v, addr := a, since := start }, reply := .none } := by
  have port : portOf (f (advance dt s)) p = _ := effect ▸ portOf_holdWrite p target v a start u
  rw [portOf_event_waits (x := ⟨.held target v, a, start⟩) (by rw [port]) (by rw [port]; exact noStart) trivial, port]

/-- So does a byte that waits for its value. -/
theorem portOf_event_askRead (effect : f (advance dt s) = askRead p target a start u)
    (noStart : (portOf u p).heldStart = none) :
    portOf (event f dt s) p = { portOf u p with
      stretch := some { what := .read target, addr := a, since := start }, reply := .none } := by
  have port : portOf (f (advance dt s)) p = _ := effect ▸ portOf_askRead p target a start u
  rw [portOf_event_waits (x := ⟨.read target, a, start⟩) (by rw [port]) (by rw [port]; exact noStart) trivial, port]

end

/-- A HELD write byte with no snoop point waits on its port for its own address, and no block takes it. -/
theorem writeDataByte_held (dt : Nat) (p : Port) (v : Byte) (s : State)
    (h : decode s.settings.inForce.traffic p true (portOf s p).pointer.toNat = .memory .held none)
    (writing : (portOf s p).txn = .writing) (free : (portOf s p).stretch = none) (noStart : (portOf s p).heldStart = none) :
    ∃ t x, exec (.writeDataByte dt p v) s = .next t ∧ (portOf t p).stretch = some x ∧
      x.what = .held (portOf s p).pointer.toNat v ∧ (portOf t p).touch = (portOf s p).touch ∧ t.cmd = s.cmd ∧
      t.tel = s.tel := by
  have effect : takeWriteByte p v (advance dt s) = holdWrite p (portOf s p).pointer.toNat v (portOf s p).pointer.toNat
      (s.now + dt) (stepPointer p (advance dt s)) := by
    rw [takeWriteByte_held (x := none)] <;> simp [h, writing, free, snoopAt]
  have port := portOf_event_holdWrite effect (by simp [noStart])
  refine ⟨_, _, exec_writeDataByte dt p v s, congrArg PortState.stretch port, rfl, ?_, ?_, ?_⟩
  · simp [port]
  · simp [effect]
  · simp [effect]

/-- A read byte of memory waits on its port for its own address, whatever the handling of writes there. -/
theorem readDataByte_memory {handling : Handling} {x : Option SnoopPoint} (dt : Nat) (p : Port) (s : State)
    (h : decode s.settings.inForce.traffic p false (portOf s p).pointer.toNat = .memory handling x)
    (reading : (portOf s p).txn = .reading) (free : (portOf s p).stretch = none) (noStart : (portOf s p).heldStart = none)
    (sends : (portOf s p).nacked = false) :
    ∃ t y, exec (.readDataByte dt p) s = .next t ∧ (portOf t p).stretch = some y ∧
      y.what = .read (portOf s p).pointer.toNat := by
  have effect : takeReadByte p (advance dt s) = askRead p (portOf s p).pointer.toNat (portOf s p).pointer.toNat
      (s.now + dt) (stepPointer p (noteSending p (advance dt s))) := by
    rw [takeReadByte_memory (handling := handling) (x := x)] <;> simp [h, reading, free, sends]
  have port := portOf_event_askRead effect (by simp [noStart])
  exact ⟨_, _, exec_readDataByte dt p s, congrArg PortState.stretch port, rfl⟩

/-- Settles O36: the decode by `decode_of_uncovered`, since a window that is disabled or ends elsewhere covers nothing; the bytes by
`writeDataByte_held` and `readDataByte_memory`. -/
theorem defaultPass : Obligations.DefaultPass := by
  refine ⟨?_, writeDataByte_held, readDataByte_memory⟩
  intro t p write a below pageA pageB outside
  refine decode_of_uncovered p write below pageA pageB fun i => WindowEntry.covers_eq_false_iff.2 fun enabled => ?_
  obtain outside | disabled := outside
  · exact outside i enabled
  · exact absurd enabled (Bool.eq_false_iff.1 (disabled i))

end Sys2Proof.Machine

/-! The commit record: an internal read that ends on the M-port, the bytes it brings, and what the plan page unit makes of them
(R148). -/

namespace Sys2Proof.Machine

/-! ### The bytes of an internal read -/

theorem readBytes_of_mem {s t : State} (h : s.mem = t.mem) (a n : Nat) : readBytes s a n = readBytes t a n := by
  induction n generalizing a with
  | zero => rfl
  | succ n ih => simp only [readBytes, readByte, h, ih]

/-- A field of what a read brings is the byte at its own address. -/
theorem byteAt_readBytes (s : State) :
    ∀ {n i : Nat} (a : Nat), i < n → byteAt (readBytes s a n) i = (readByte s (a + i)).toNat
  | _ + 1, 0, _, _ => rfl
  | n + 1, i + 1, a, h => by
    have tail : byteAt (readBytes s (a + 1) n) i = (readByte s (a + 1 + i)).toNat :=
      byteAt_readBytes s (a + 1) (Nat.lt_of_succ_lt_succ h)
    simpa only [byteAt, readBytes, List.getD_cons_succ, Nat.add_assoc, Nat.add_comm 1] using tail

theorem byteAt_readBytes_eq_zero (s : State) {n i : Nat} (a : Nat) (h : i < n) :
    byteAt (readBytes s a n) i = 0 ↔ readByte s (a + i) = 0 := by
  rw [byteAt_readBytes s a h]
  exact (BitVec.toNat_eq (y := 0)).symm

/-- So a flag byte is set exactly where the FRAM's byte is not 0. -/
theorem byteAt_readBytes_bne_zero (s : State) {n i : Nat} (a : Nat) (h : i < n) :
    (byteAt (readBytes s a n) i != 0) = (readByte s (a + i) != 0) := by
  rw [Bool.eq_iff_iff, bne_iff_ne, bne_iff_ne, ne_eq, ne_eq, byteAt_readBytes_eq_zero s a h]

/-- An internal read that nobody has abandoned stores nothing: the grant is released and its block acts. -/
theorem completeJob_read {p : Job → Bool} {j : Job} {s : State} (act : Job → State → State)
    (onBus : jobOnBus s = some (j, false)) (picked : p j = true) (read : jobData j = []) :
    completeJob p act s = act j (setTransfer s none) := by
  simp only [completeJob, onBus, picked, read, storeBytes, if_true, Bool.false_eq_true, if_false]

/-! ### The FRAM and the plan page unit after an event (R144) -/

/-- After the event's own effect nothing touches the FRAM. -/
theorem event_mem_effect (f : State → State) (dt : Nat) (s : State) : (event f dt s).mem = (f (advance dt s)).mem := by
  simp [event]

/-- Nor does anything touch the mapping, the swap record, the copy's validity or the commit result. -/
theorem event_pages (f : State → State) (dt : Nat) (s : State) :
    Statement.PagesKept (f (advance dt s)) (event f dt s) := by
  simp [Statement.PagesKept, event]

/-- A swap that ends leaves its result and no swap record; the page mapping and the copy's validity stay. -/
@[simp] theorem endSwap_pages (r : CommitResult) (check : Nat) (step : Option Nat) (id : Option Word16) (s : State) :
    (endSwap r check step id s).pages =
      { s.pages with swap := none, result := r, check := check, stepIndex := step } := by
  simp [endSwap, commitResult]

@[simp] theorem setSwap_pages (s : State) (w : Swap) : (setSwap s w).pages = { s.pages with swap := some w } := rfl

/-! ### The commit record's two outcomes (R148) -/

@[simp] theorem planUnderWay_setTransfer (s : State) (t : Option Transfer) :
    planUnderWay (setTransfer s t) = planUnderWay s := rfl

@[simp] theorem planUnderWay_advance (dt : Nat) (s : State) : planUnderWay (advance dt s) = planUnderWay s := rfl

section
variable {l : List Byte} {w : Swap} {s : State}

/-- A plan under way and no amend flag: the swap ends. -/
theorem commitRecordDone_refuses (inFlight : s.pages.swap = some w) (refused : planUnderWay s = true ∧ byteAt l 3 = 0) :
    commitRecordDone l s = endSwap .refusedRunning 0 none none s := by
  simp [commitRecordDone, inFlight, refused]

/-- Otherwise the swap goes on, with the first phase that the carry flags ask for. -/
theorem commitRecordDone_fills (inFlight : s.pages.swap = some w) (goesOn : ¬(planUnderWay s = true ∧ byteAt l 3 = 0)) :
    commitRecordDone l s = setSwap s { w with
      headerCarry := byteAt l 1 != 0, stepsCarry := byteAt l 2 != 0, amend := byteAt l 3 != 0,
      noted := if planUnderWay s then some s.runner.plan.identity else none,
      phase := if byteAt l 1 ≠ 0 then .carryHeader else if byteAt l 2 ≠ 0 then .carrySteps else .validate,
      offset := if byteAt l 1 ≠ 0 then 0 else if byteAt l 2 ≠ 0 then 0x20 else 0 } := by
  simp [commitRecordDone, inFlight, goesOn]

end

/-! ### The event -/

/-- The own effect of the commit record read's end (`exec_commitRecordRead`). -/
def endCommitRecordRead : State → State := completeJob isCommitRecord fun j t => commitRecordDone (bytesRead j t) t

theorem exec_commitRecordRead (dt : Nat) (s : State) :
    exec (.commitRecordRead dt) s = .next (event endCommitRecordRead dt s) := rfl

theorem endCommitRecordRead_eq {a : Nat} {s : State} (onBus : jobOnBus s = some (.commitRecord a, false)) :
    endCommitRecordRead s = commitRecordDone (readBytes s a 16) (setTransfer s none) := by
  have bytes : bytesRead (.commitRecord a) (setTransfer s none) = readBytes s a 16 := readBytes_of_mem rfl a 16
  rw [endCommitRecordRead, completeJob_read _ onBus rfl rfl, bytes]

/-- Settles O48: the end of the read is `commitRecordDone` on the sixteen bytes at `a` (`endCommitRecordRead_eq`); the split is that
of `commitRecordDone_refuses` and `commitRecordDone_fills`, and what follows the event touches neither the FRAM nor the pages. -/
theorem commitRecordFillsSwap : Obligations.CommitRecordFillsSwap := by
  intro dt a w s onBus inFlight
  have effect : endCommitRecordRead (advance dt s) =
      commitRecordDone (readBytes s a 16) (setTransfer (advance dt s) none) := endCommitRecordRead_eq onBus
  have mem : (event endCommitRecordRead dt s).mem = s.mem := by simp [event_mem_effect, effect]
  have swapThen : (setTransfer (advance dt s) none).pages.swap = some w := inFlight
  obtain ⟨active, swap, -, result, -, -⟩ := event_pages endCommitRecordRead dt s
  have flag (i : Nat) (h : i < 16) : byteAt (readBytes s a 16) i = 0 ↔ readByte s (a + i) = 0 :=
    byteAt_readBytes_eq_zero s a h
  have flagSet (i : Nat) (h : i < 16) : (byteAt (readBytes s a 16) i != 0) = (readByte s (a + i) != 0) :=
    byteAt_readBytes_bne_zero s a h
  have test : planUnderWay (setTransfer (advance dt s) none) = true ∧ byteAt (readBytes s a 16) 3 = 0 ↔
      planUnderWay s = true ∧ readByte s (a + 3) = 0 := by
    rw [planUnderWay_setTransfer, planUnderWay_advance, flag 3 (by decide)]
  refine ⟨_, exec_commitRecordRead dt s, fun c => congrArg (Memory.read · c) mem, ?_⟩
  rw [active, swap, result, effect]
  by_cases refused : planUnderWay s = true ∧ readByte s (a + 3) = 0
  · rw [commitRecordDone_refuses swapThen (test.2 refused)]
    rw [endSwap_pages]
    exact ⟨rfl, fun _ => ⟨rfl, rfl⟩, fun goesOn => absurd refused goesOn⟩
  · rw [commitRecordDone_fills swapThen (mt test.1 refused)]
    refine ⟨rfl, fun h => absurd h refused, fun _ => ⟨_, rfl, flagSet 1 (by decide), flagSet 2 (by decide),
      flagSet 3 (by decide), rfl, ?_⟩⟩
    simp only [ne_eq, flag 1 (by decide), flag 2 (by decide)]

end Sys2Proof.Machine

/-! Every command as its own effect and what follows it; the whole-block statements that need no more than that (chapter 0). -/

namespace Sys2Proof.Machine

open Sys2Proof.Safety Sys2Proof.Statement

/-! ### Own effects -/

/-- What a command does of its own, before what follows every event (`exec_eq`). -/
def ownEffect : Instr → State → State
  | .indexPulse _ => indexPulse
  | .commPulse _ => commPulse
  | .qualifyingSilence _ src => searchAgain src
  | .lossDeadline _ src => loseSource src
  | .restTimerExpiry _ => fun t => if restDue t then foundAtRest t else t
  | .samplePoint _ => fun t => if sampleDue t then samplePointNow t else t
  | .sportReadComplete _ frame => readComplete frame
  | .holdExpiry _ => holdExpiry
  | .bandWaitExpiry _ => bandWaitExpiry
  | .fiveSecondMark _ => fiveSecondMark
  | .overspeedHistoryExpiry _ => trimHistory
  | .passStart _ => passStart
  | .nominalOpen _ => nominalOpen
  | .passClose _ => passClose
  | .pinLevelChange _ line level => pinChange line level
  | .acceptedChange _ line => acceptChange line
  | .upstreamStart _ port addr read => upstreamStart port addr read
  | .memoryAddressByte _ port value => addressByte port value
  | .writeDataByte _ port value => takeWriteByte port value
  | .readDataByte _ port => takeReadByte port
  | .controllerNack _ port => nackRead port
  | .repeatedStart _ port addr read => upstreamStart port addr read
  | .stopCondition _ port => busEnd port
  | .midByteCondition _ cut => midByte cut
  | .stretchLimit _ port => stretchExpires port
  | .heldBurstIdle _ port => idleClose port .burst
  | .readIdle _ port => idleClose port .read
  | .memoryDataAck _ => dataAck
  | .memoryReadByte _ => readBack
  | .transferEnd _ => endTransfer
  | .addressRetry _ => retryAddress
  | .transferFailed _ cause => failTransfer cause
  | .commit _ => commitNow
  | .commitRecordRead _ => completeJob isCommitRecord fun j t => commitRecordDone (bytesRead j t) t
  | .carryRead _ => completeJob isCarryRead fun j t => carryReadDone (bytesRead j t) t
  | .carryWrite _ => completeJob isCarryWrite fun _ => carryWriteDone
  | .validationRead _ => completeJob isValidation fun j t => validationDone (bytesRead j t) t
  | .telemetryAdopt _ => telemetryNow
  | .telemetryAgeExpiry _ => ageExpires
  | .startPlan _ => takeUp (fun c => c == 0x01) startPlan
  | .stop _ => takeUp (fun c => c == 0x02) stopPlan
  | .halt _ => takeUp (fun c => c == 0x03) haltNow
  | .resume _ => takeUp (fun c => c == 0x04) resumePlan
  | .dose _ => takeUp (fun c => c == 0x05) doseNow
  | .doseCancel _ => takeUp (fun c => c == 0x06) cancelDoses
  | .lines _ => takeUp (fun c => c == 0x07) setLines
  | .ackFaults _ => takeUp (fun c => c == 0x08) ackFaults
  | .clearCounts _ => takeUp (fun c => c == 0x09) clearAccess
  | .restart _ levels => restartNow levels
  | .reportNow _ => takeUp (fun c => c == 0x0B) reportNow
  | .unknownCode _ => takeUp (fun c => c == 0x00 || decide (0x0B#8 < c)) unknownCode
  | .settingsReread _ => rereadNow
  | .settingsRead _ => completeJob isReread fun j t => rereadDone (readBytes t (jobAddr j) 16) t
  | .adoption _ => adoptPending
  | .hardReset _ straps levels acked => resetHard straps levels acked
  | .startupSettingsRead _ => completeJob isStartup fun j t => startupReadDone (readBytes t (jobAddr j) 16) t
  | .startupReadRetry _ => startupRetry
  | .logScanRead _ => completeJob isScan fun j t => slotScanned (readBytes t (jobAddr j) 16) t
  | .reportPeriodExpiry _ => periodExpiry
  | .reportGranuleWrite _ => completeJob isReport fun _ => granuleWritten
  | .logWrite _ => completeJob isLogWrite fun _ t => t
/-- The two commands that reset the governor, and the command number with it. -/
def resetsGovernor : Instr → Bool
  | .restart _ _ | .hardReset _ _ _ _ => true
  | _ => false

/-- The state that a command leaves. -/
def outcome (c : Instr) (s : State) : State :=
  if resetsGovernor c then resetEvent (ownEffect c) c.dt s else event (ownEffect c) c.dt s

theorem exec_eq (c : Instr) (s : State) : exec c s = .next (outcome c s) := by
  cases c <;> simp only [outcome, resetsGovernor, if_true, Bool.false_eq_true, if_false] <;> rfl

theorem outcome_of_exec {c : Instr} {s t : State} (h : exec c s = .next t) : t = outcome c s := by
  rw [exec_eq] at h; cases h; rfl

/-! ### Laws that every step keeps -/

/-- What a law has to meet to be kept by every step: each own effect keeps it, and so does each part of what surrounds one. -/
structure KeptByParts (P : State → Prop) : Prop where
  queue : ∀ {s : State} (l : List Instr), P s → P (s.setPending l)
  advance : ∀ {s : State} (dt : Nat), P s → P (advance dt s)
  own : ∀ {s : State} (c : Instr), P s → P (ownEffect c s)
  deliver : ∀ {s : State}, P s → P (deliver s)
  stamp : ∀ {s : State} (old : State), P s → P (stamp old s)
  settle : ∀ {s : State}, P s → P (settle s)

theorem KeptByParts.outcome {P : State → Prop} (k : KeptByParts P) (c : Instr) {s : State} (h : P s) : P (outcome c s) := by
  have effect : P (Machine.deliver (ownEffect c (Machine.advance c.dt s))) := k.deliver (k.own c (k.advance c.dt h))
  unfold Machine.outcome
  split
  · exact k.settle effect
  · exact k.settle (k.stamp _ effect)

theorem KeptByParts.step {P : State → Prop} (k : KeptByParts P) {s t : State} (h : P s) (run : step s = .next t) : P t := by
  unfold Machine.step at run
  split at run
  · cases run; exact h
  · rw [outcome_of_exec run]; exact k.outcome _ (k.queue _ h)

/-- Settles O1: both parts are the two cases of `step`. -/
theorem stepRunsFrontCommand : Obligations.StepRunsFrontCommand := by
  refine ⟨fun c rest s => rfl, fun s empty => ?_⟩
  simp only [step, empty]

/-! ### The queue, the time and the owed updates -/

@[simp] theorem ownEffect_kept (c : Instr) (s : State) :
    (ownEffect c s).now = s.now ∧ (ownEffect c s).pending = s.pending := by
  cases c <;> simp [ownEffect] <;> split <;> simp

theorem outcome_kept (c : Instr) (s : State) :
    (outcome c s).pending = s.pending ∧ (outcome c s).now = s.now + c.dt ∧ (outcome c s).est.owed = false := by
  unfold outcome
  split
  · obtain ⟨now, pending, owed⟩ := resetEvent_kept (ownEffect_kept c) c.dt s
    exact ⟨pending, now, owed⟩
  · exact ⟨event_pending (fun u => (ownEffect_kept c u).2) _ _, event_now (fun u => (ownEffect_kept c u).1) _ _,
      event_owed _ _ _⟩

/-- Settles O2: every command is an event (`exec_eq`), and `outcome_kept` says what each leaves. -/
theorem everyCommandProceeds : Obligations.EveryCommandProceeds :=
  fun c s => ⟨_, exec_eq c s, outcome_kept c s⟩

/-- Settles O3: each law is evaluated at the reset state. -/
theorem resetIsSafe : Obligations.ResetIsSafe := by
  refine ⟨?_, ?_, ?_, ?_, ?_, ?_⟩ <;> decide

/-! ### The FRAM -/

/-- After the own effect nothing touches the FRAM. -/
theorem outcome_mem (c : Instr) (s : State) : (outcome c s).mem = (ownEffect c (advance c.dt s)).mem := by
  unfold outcome
  split
  · simp [resetEvent]
  · exact event_mem_effect _ _ _

/-- A job without data stores nothing. -/
theorem completeJob_mem {p : Job → Bool} {act : Job → State → State} (s : State) (reads : ∀ j, p j = true → jobData j = [])
    (acts : ∀ j u, (act j u).mem = u.mem) : (completeJob p act s).mem = s.mem := by
  unfold completeJob
  split
  · split
    · rename_i j orphan _ picked
      rw [reads j picked]
      split <;> simp [storeBytes, acts]
    · rfl
  · rfl

theorem ownEffect_mem {c : Instr} (noStore : mayStore c = false) (s : State) : (ownEffect c s).mem = s.mem := by
  have reads (p : Job → Bool) (act : Job → State → State) (acts : ∀ j u, (act j u).mem = u.mem)
      (none : ∀ j, p j = true → jobData j = []) : (completeJob p act s).mem = s.mem := completeJob_mem s none acts
  cases c with
  | memoryDataAck | transferFailed | carryWrite | reportGranuleWrite | logWrite | hardReset => cases noStore
  | commitRecordRead | carryRead | validationRead | settingsRead | startupSettingsRead | logScanRead =>
    exact reads _ _ (by intros; simp) (fun j picked => by cases j <;> first | rfl | cases picked)
  | restTimerExpiry | samplePoint => simp only [ownEffect]; split <;> simp
  | _ => simp [ownEffect]

/-- Settles O10: the own effect of such a command leaves the FRAM (`ownEffect_mem`), and so does what follows. -/
theorem noStoreLeavesMemory : Obligations.NoStoreLeavesMemory := by
  intro c s t noStore run a
  rw [outcome_of_exec run, readByte, outcome_mem, ownEffect_mem noStore]
  rfl

/-! ### Its canonical form -/

section
variable {s : State}

theorem completeJob_wf {p : Job → Bool} {act : Job → State → State} (acts : ∀ j u, (act j u).mem = u.mem)
    (h : Memory.wf s.mem = true) : Memory.wf (completeJob p act s).mem = true := by
  unfold completeJob
  split
  · split
    · dsimp only
      split <;> simp [acts, storeBytes_wf _ h]
    · exact h
  · exact h

theorem dataAck_wf (h : Memory.wf s.mem = true) : Memory.wf (dataAck s).mem = true := by
  unfold dataAck
  repeat' split
  all_goals first | exact h | skip
  · unfold burstAck; dsimp only; split <;> simp [storeByte_wf _ h]
  · unfold drainAck; dsimp only; split <;> simp [storeByte_wf _ h]

theorem failTransfer_wf (cause : FailCause) (h : Memory.wf s.mem = true) : Memory.wf (failTransfer cause s).mem = true := by
  have kept (j : Job) (u : State) (hu : Memory.wf u.mem = true) : Memory.wf (partialWrite j cause u).mem = true := by
    unfold partialWrite; split
    · exact storeBytes_wf _ hu
    · exact hu
    · exact hu
  unfold failTransfer
  split
  · exact h
  · split
    · dsimp only
      split
      · split <;> simp [kept, h]
      · simp [h]
      · split <;> simp [h]
      · split <;> simp [h]
      · simp [h]
    · exact h

theorem cutOffWrite_wf (acked : Nat) (h : Memory.wf s.mem = true) : Memory.wf (cutOffWrite acked s).mem = true := by
  unfold cutOffWrite
  split
  · exact storeBytes_wf _ h
  · exact h

end

theorem ownEffect_wf (c : Instr) {s : State} (h : Memory.wf s.mem = true) : Memory.wf (ownEffect c s).mem = true := by
  by_cases stores : mayStore c = false
  · rw [ownEffect_mem stores]; exact h
  · cases c with
    | memoryDataAck => exact dataAck_wf h
    | transferFailed dt cause => exact failTransfer_wf cause h
    | carryWrite | reportGranuleWrite | logWrite => exact completeJob_wf (by intros; simp) h
    | hardReset dt straps levels acked => exact cutOffWrite_wf acked h
    | _ => exact absurd rfl stores

/-- Settles O4: only own effects touch the FRAM, and each keeps its form (`ownEffect_wf`). -/
theorem memoryFormKept : Obligations.MemoryFormKept := by
  have kept : KeptByParts fun s => memoryForm s = true := {
    queue := fun _ h => h
    advance := fun _ h => h
    own := fun c h => ownEffect_wf c h
    deliver := fun h => by simpa [memoryForm] using h
    stamp := fun _ h => by simpa [memoryForm] using h
    settle := fun h => by simpa [memoryForm] using h }
  exact fun s t h run => kept.step h run

end Sys2Proof.Machine

/-! The laws of Safety.lean under the operations that several blocks share: what no law minds (`Gentle`), what a law has to meet for every
operation to keep it (`Keeps`), and the operations of the governor, the runner, the estimator and the dosing unit that then do. -/

namespace Sys2Proof.Machine

open Sys2Proof.Safety Sys2Proof.Statement

/-! ### Changes that no law minds -/

/-- The part of a line record that the laws of L0 and L1 read: an output stays one, and the latch is as before. -/
def LineRec.DrivenAlike (l m : LineRec) : Prop := (l.output = true → m.output = true) ∧ m.latch = l.latch

/-- A change that no law of Safety.lean minds: the governor's state, target and step, the dose queue and the pass, and the drives of L0
and L1 stay; start-up does not end; and the bounded lists grow to their bounds at most. -/
def Gentle (s t : State) : Prop :=
  t.gov.state = s.gov.state ∧ t.gov.target = s.gov.target ∧ t.gov.step = s.gov.step ∧
    t.dosing.queue = s.dosing.queue ∧ t.dosing.pass = s.dosing.pass ∧
    t.lines.askFill = s.lines.askFill ∧ t.lines.askLock = s.lines.askLock ∧
    s.lines.line[0].DrivenAlike t.lines.line[0] ∧ s.lines.line[1].DrivenAlike t.lines.line[1] ∧
    (t.settings.startup = .done → s.settings.startup = .done) ∧
    t.report.queue.length ≤ max 8 s.report.queue.length ∧
    t.cport.post.length ≤ max 32 s.cport.post.length ∧ t.dport.post.length ≤ max 32 s.dport.post.length ∧
    t.est.waiting.length ≤ max 4 s.est.waiting.length ∧ t.est.window.length ≤ max 16 s.est.window.length

/-- A list that grows to its bound at most may stay as it is. -/
@[simp] theorem le_bound (bound n : Nat) : n ≤ max bound n := Nat.le_max_right bound n

@[simp] theorem LineRec.DrivenAlike.refl (l : LineRec) : l.DrivenAlike l := ⟨id, rfl⟩

@[simp] theorem Gentle.refl (s : State) : Gentle s s := by simp [Gentle]

theorem Gentle.trans {s t u : State} (h : Gentle s t) (k : Gentle t u) : Gentle s u := by
  obtain ⟨g1, g2, g3, d1, d2, a1, a2, l1, l2, st, q, c, d, w, v⟩ := h
  obtain ⟨g1', g2', g3', d1', d2', a1', a2', l1', l2', st', q', c', d', w', v'⟩ := k
  exact ⟨g1'.trans g1, g2'.trans g2, g3'.trans g3, d1'.trans d1, d2'.trans d2, a1'.trans a1, a2'.trans a2,
    ⟨l1'.1 ∘ l1.1, l1'.2.trans l1.2⟩, ⟨l2'.1 ∘ l2.1, l2'.2.trans l2.2⟩, st ∘ st', by omega, by omega, by omega, by omega,
    by omega⟩

theorem setGov_gentle {s : State} {v : Governor} (state : v.state = s.gov.state) (target : v.target = s.gov.target)
    (step : v.step = s.gov.step) : Gentle s (s.setGov v) := by simp [Gentle, *]

/-! ### The report unit -/

section
variable (s : State)

@[simp] theorem trigger_queue : (trigger s).report.queue = s.report.queue := by unfold trigger; split <;> simp

@[simp] theorem raiseFault_queue (k : FaultKind) : (raiseFault k s).report.queue = s.report.queue := by
  unfold raiseFault; split <;> simp

theorem trigger_gentle : Gentle s (trigger s) := by simp [Gentle]

theorem raiseFault_gentle (k : FaultKind) : Gentle s (raiseFault k s) := by simp [Gentle]

/-- R194: an entry joins the queue only below its bound. -/
theorem askLog_queue (d : LogDetail) : (askLog d s).report.queue.length ≤ max 8 s.report.queue.length := by
  unfold askLog
  split
  · simp; omega
  · simp [dropEntry]

theorem askLog_gentle (d : LogDetail) : Gentle s (askLog d s) := by
  have grown := askLog_queue s d
  simp [Gentle]; omega

theorem logTrip_gentle (k : FaultKind) (step : Option Nat) : Gentle s (logTrip k step s) := askLog_gentle s _

theorem setRunnerState_gentle (st : RunnerState) : Gentle s (setRunnerState st s) := by simp [Gentle, setRunnerState]

/-! ### The estimator -/

theorem setEstimate_gentle (x : Estimate) : Gentle s (setEstimate x s) := by
  unfold setEstimate; dsimp only; split <;> simp [Gentle]

theorem flush_gentle : Gentle s (flush s) := by
  unfold flush; exact (setEstimate_gentle s (.none s.est.curSource)).trans (by simp [Gentle])

theorem gapMark_gentle : Gentle s (gapMark s) := by
  unfold gapMark; exact (flush_gentle s).trans (by simp [Gentle])

theorem changeover_gentle (v : Nat) : Gentle s (changeover v s) := by
  have flushed (src : EstSource) : Gentle s (flush (s.setEst { s.est with curSource := src })) :=
    Gentle.trans (by simp [Gentle]) (flush_gentle _)
  unfold changeover
  dsimp only
  split <;> split
  · exact flushed .tub
  · exact .refl s
  · exact flushed .torque
  · exact .refl s

theorem recompute_gentle (joined : Option Record) : Gentle s (recompute joined s) := by
  unfold recompute
  dsimp only
  repeat' split
  all_goals exact setEstimate_gentle s _

theorem joinWindow_gentle (r : Record) : Gentle s (joinWindow r s) :=
  Gentle.trans (by simp [Gentle]; omega) (recompute_gentle _ _)

theorem takeStaleMark_gentle (mark : Word32) : Gentle s (takeStaleMark mark s) :=
  Gentle.trans (by simp [Gentle]) (recompute_gentle _ _)

theorem countRecovery_gentle (r : BoundaryReport) : Gentle s (countRecovery r s) := by
  unfold countRecovery; (repeat' split) <;> simp [Gentle]

theorem wrapMark_gentle (r : BoundaryReport) : Gentle s (wrapMark r s) := by
  unfold wrapMark; split <;> simp [Gentle]

theorem closeReport_gentle (r : BoundaryReport) : Gentle s (closeReport r s) := by simp [closeReport, Gentle]

theorem takeTorque_gentle (ripple : Nat) : Gentle s (takeTorque ripple s) := by
  unfold takeTorque; split <;> simp [Gentle]

theorem adoptEstimator_gentle : Gentle s (adoptEstimator s) := by
  have flushed (src : EstSource) : Gentle s (flush (s.setEst { s.est with curSource := src })) :=
    Gentle.trans (by simp [Gentle]) (flush_gentle _)
  unfold adoptEstimator
  dsimp only
  split
  · exact (flushed .tub).trans (by simp [Gentle])
  · exact (flushed .torque).trans (by simp [Gentle])

theorem sampleRequest_gentle (r : SampleRequest) : Gentle s (sampleRequest r s) := by
  unfold sampleRequest
  dsimp only
  (repeat' split) <;> simp [Gentle]
  all_goals omega

theorem readComplete_gentle (f : SportFrame) : Gentle s (readComplete f s) := by
  unfold readComplete
  split
  · exact .refl s
  · simp [Gentle, Nat.le_succ_of_le (le_bound 4 s.est.waiting.length)]

/-! ### The governor and the lines, but for changes of state, target and step -/

theorem refreshRamp_gentle : Gentle s (refreshRamp s) := by simp [refreshRamp, Gentle]

theorem setCeiling_gentle : Gentle s (setCeiling s) := by simp [setCeiling, Gentle]

theorem adoptGovernor_gentle : Gentle s (adoptGovernor s) := by simp [adoptGovernor, refreshRamp, setCeiling, Gentle]

theorem trimHistory_gentle : Gentle s (trimHistory s) := by simp [trimHistory, Gentle]

theorem stamp_gentle (old : State) : Gentle s (stamp old s) := by unfold stamp; split <;> simp [Gentle]

theorem nextChoice_gentle : Gentle s (nextChoice s) := by simp [Gentle]

theorem followAngle_gentle (old : State) : Gentle s (followAngle old s) := by
  unfold followAngle; split <;> simp [Gentle]

end

/-! ### Laws that every operation keeps -/

/-- IDLE, STOPPING and TRIP. -/
def GovState.rests : GovState → Bool
  | .idle | .stopping | .trip => true
  | _ => false

/-- What a law has to meet of the dosing unit, the pass events, the end of start-up and the resets, beside minding no gentle change. -/
structure KeepsDosing (P : State → Prop) : Prop where
  gentle : ∀ {s t : State}, Gentle s t → P s → P t
  passCheck : ∀ {s : State}, P s → P (passCheck s)
  cutQueue : ∀ {s : State} (cause : CutCause), P s → P (cutQueue cause s)
  countSettle : ∀ {s : State}, P s → P (countSettle s)
  addOrder : ∀ {s : State} (origin : Origin) (c : Fin 4) (volume : Nat) (capLimited : Bool), s.dosing.queue.length < 8 → P s →
    P (addOrder origin c volume capLimited s)
  passStart : ∀ {s : State}, P s → P (passStart s)
  nominalOpen : ∀ {s : State}, P s → P (nominalOpen s)
  passClose : ∀ {s : State}, P s → P (passClose s)
  openDevice : ∀ {s : State}, P s → P (openDevice s)
  restart : ∀ {s : State} (levels : BitVec 8), P s → P (resetSoft levels s)
  hardReset : ∀ {s : State} (straps : Fin 4) (levels : BitVec 8) (acked : Nat), P s → P (resetHard straps levels acked s)

/-- What a law has to meet of the governor too, for every operation to keep it: the changes of state with a step in hand, a trip, the
run-down, the end of a run and a step entry. -/
structure Keeps (P : State → Prop) : Prop extends KeepsDosing P where
  goes : ∀ {s : State} {st : GovState} (mv : Move) (target : Nat) (band : Option (Fin 6)), st.rests = false → P s →
    P (enterState st mv target band s)
  detect : ∀ {s : State} (k : FaultKind), P s → P (detect k s)
  halt : ∀ {s : State}, P s → P (enterStopping (leaveStep s))
  idle : ∀ {s : State}, s.gov.state = .stopping ∨ s.gov.state = .trip → P s → P (enterIdle s)
  stepEntry : ∀ {s : State} (i : Nat), s.gov.state = .idle ∨ s.gov.step.isSome = true → P s → P (stepEntry i s)

/-- Two operations in either order. -/
theorem unordered_keeps {P : State → Prop} {f g : State → State} {s : State} (choice : ∀ u, P u → P (nextChoice u))
    (hf : ∀ u, P u → P (f u)) (hg : ∀ u, P u → P (g u)) (h : P s) : P (unordered f g s) := by
  unfold unordered
  repeat' split
  · exact hg _ (hf _ h)
  · exact hg _ (hf _ (choice _ h))
  · exact hf _ (hg _ (choice _ h))

theorem unordered3_keeps {P : State → Prop} {f g h : State → State} {s : State} (choice : ∀ u, P u → P (nextChoice u))
    (hf : ∀ u, P u → P (f u)) (hg : ∀ u, P u → P (g u)) (hh : ∀ u, P u → P (h u)) (k : P s) : P (unordered3 f g h s) := by
  unfold unordered3
  repeat' split
  · exact hh _ (hg _ (hf _ k))
  · exact hh _ (hg _ (hf _ (choice _ k)))
  · exact hg _ (hh _ (hf _ (choice _ k)))
  · exact hh _ (hf _ (hg _ (choice _ k)))
  · exact hf _ (hh _ (hg _ (choice _ k)))
  · exact hg _ (hf _ (hh _ (choice _ k)))
  · exact hf _ (hg _ (hh _ (choice _ k)))

/-! ### The dosing unit's further operations and the end of a plan -/

@[simp] theorem promote_length (s : State) : (promote s).dosing.queue.length = s.dosing.queue.length := by
  unfold promote
  split
  · split <;> simp [*]
  · rfl

theorem addOrder_length (origin : Origin) (c : Fin 4) (volume : Nat) (capLimited : Bool) (s : State) :
    (addOrder origin c volume capLimited s).dosing.queue.length = s.dosing.queue.length + 1 := by simp [addOrder]

theorem addPlanned_length (c : Fin 4) (volume : Nat) (capLimited : Bool) (s : State) :
    (addPlanned c volume capLimited s).dosing.queue.length ≤ s.dosing.queue.length + 1 := by
  unfold addPlanned
  split
  · exact Nat.le_succ _
  · exact Nat.le_of_eq (addOrder_length _ _ _ _ s)

/-- R94: the planner leaves the queue, or adds an order for each chamber of a pair whose amount is not 0. -/
theorem runPlanner_cases (s : State) : (runPlanner s).1 = s ∨ ∃ (a b : Fin 4) (va vb : Nat) (fa fb : Bool),
    (runPlanner s).1 = addPlanned b vb fb (addPlanned a va fa s) := by
  simp only [runPlanner, apply_ite Prod.fst]
  split
  · exact .inl rfl
  · exact .inr ⟨_, _, _, _, _, _, rfl⟩

section
variable {P : State → Prop} (k : KeepsDosing P) {s : State}
include k

theorem addPlanned_keeps (c : Fin 4) (volume : Nat) (capLimited : Bool) (room : s.dosing.queue.length < 8) (h : P s) :
    P (addPlanned c volume capLimited s) := by
  unfold addPlanned
  split
  · exact h
  · exact k.addOrder _ _ _ _ room h

/-- R94: the planner adds two orders at most. -/
theorem runPlanner_keeps (empty : s.dosing.queue = []) (h : P s) : P (runPlanner s).1 := by
  obtain none | ⟨a, b, va, vb, fa, fb, two⟩ := runPlanner_cases s
  · rwa [none]
  · have first : P (addPlanned a va fa s) := addPlanned_keeps k a va fa (by simp [empty]) h
    have room : (addPlanned a va fa s).dosing.queue.length ≤ 1 := by simpa [empty] using addPlanned_length a va fa s
    rw [two]
    exact addPlanned_keeps k b vb fb (by omega) first

theorem abortPlan_keeps (why : EndReason) (h : P s) : P (abortPlan why s) :=
  k.gentle (askLog_gentle _ _) (k.cutQueue _ (k.gentle (setRunnerState_gentle _ _) (k.gentle (by simp [Gentle]) h)))

theorem donePlan_keeps (h : P s) : P (donePlan s) :=
  k.gentle (askLog_gentle _ _) (k.cutQueue _ (k.gentle (setRunnerState_gentle _ _) h))

theorem drain_keeps (h : P s) : P (drain s) :=
  k.gentle (flush_gentle _) (k.gentle (by simp [Gentle]) (k.cutQueue .drain h))

theorem dosingSpeed_keeps (v : Nat) (h : P s) : P (dosingSpeed v s) := by
  unfold dosingSpeed
  refine k.passCheck ?_
  split
  · split
    · exact h
    · exact drain_keeps k h
  · exact k.gentle (by simp [Gentle]) h

theorem setStanding_keeps (standing : Bool) (h : P s) : P (setStanding standing s) := by
  have t : P (s.setTel { s.tel with standing := standing, disagree := 0, agree := 0 }) := k.gentle (by simp [Gentle]) h
  unfold setStanding
  dsimp only
  split
  · exact k.passCheck (k.gentle (raiseFault_gentle _ _) t)
  · exact t

theorem crossCount_keeps (disagrees : Bool) (h : P s) : P (crossCount disagrees s) := by
  unfold crossCount
  repeat' split
  all_goals first
    | exact setStanding_keeps k _ h
    | exact k.gentle (by simp [Gentle]) h

theorem crossCheck_keeps (drive : Nat) (h : P s) : P (crossCheck drive s) := by
  unfold crossCheck
  split
  · exact k.gentle (by simp [Gentle, clearCrossCounts]) h
  · exact crossCount_keeps k _ h

end

/-! ### The governor's moves -/

section
variable {P : State → Prop} (k : Keeps P) {s : State}
include k

theorem enterHold_keeps (h : P s) : P (enterHold s) := by
  have entered := k.goes .atTarget s.gov.effTarget none
    (st := if s.gov.step.any fun p => p.kind = .balance then GovState.balance else .hold) (by split <;> rfl) h
  unfold enterHold
  extract_lets st t
  split
  · exact entered
  · exact k.gentle (setGov_gentle rfl rfl rfl) entered

theorem enterCross_keeps (b : Fin 6) (h : P s) : P (enterCross b s) := k.goes _ _ _ rfl h

theorem enterRetreat_keeps (b : Fin 6) (h : P s) : P (enterRetreat b s) := k.goes _ _ _ rfl h

theorem enterWait_keeps (b : Fin 6) (h : P s) : P (enterWait b s) := k.goes _ _ _ rfl h

theorem forceDown_keeps (h : P s) : P (forceDown s) := k.goes _ _ _ rfl h

theorem climb_keeps (h : P s) : P (climb s) := by
  unfold climb
  split
  · exact k.goes _ _ _ rfl h
  · split
    · exact k.goes _ _ _ rfl h
    · split
      · exact enterCross_keeps k _ h
      · exact enterRetreat_keeps k _ h

theorem stateLogic_keeps (dropped : Bool) (h : P s) : P (stateLogic dropped s) := by
  unfold stateLogic
  dsimp only
  repeat' split
  all_goals first
    | exact h
    | exact climb_keeps k h
    | exact forceDown_keeps k h
    | exact enterCross_keeps k _ h
    | exact k.goes _ _ _ rfl h

theorem recomputeCeiling_keeps (h : P s) : P (recomputeCeiling s) := by
  have t : P (setCeiling s) := k.gentle (setCeiling_gentle s) h
  unfold recomputeCeiling
  dsimp only
  split
  · exact t
  · exact stateLogic_keeps k _ t

/-! ### The steps of a plan -/

theorem nextStep_keeps (step : s.gov.step.isSome = true) (h : P s) : P (nextStep s) := by
  unfold nextStep
  split
  · exact k.stepEntry _ (.inr step) h
  · exact k.halt h

theorem stepFails_keeps (why : FailReason) (h : P s) : P (stepFails why s) := by
  unfold stepFails
  split
  · exact h
  · rename_i p step
    have logged (a : FailAction) : P (askLog (.stepFailed s.runner.stepIndex why a) s) := k.gentle (askLog_gentle _ _) h
    have retried (a : FailAction) : P ((askLog (.stepFailed s.runner.stepIndex why a) s).setRunner
        { (askLog (.stepFailed s.runner.stepIndex why a) s).runner with
          retries := (askLog (.stepFailed s.runner.stepIndex why a) s).runner.retries + 1 }) :=
      k.gentle (by simp [Gentle]) (logged a)
    dsimp only
    split
    · exact nextStep_keeps k (by simp [step]) (logged _)
    · exact k.stepEntry _ (.inr (by simp [step])) (retried _)
    · exact k.halt (k.gentle (setRunnerState_gentle _ _) (retried _))
    · exact k.halt (abortPlan_keeps k.toKeepsDosing _ (logged _))

theorem judgeStep_keeps (h : P s) : P (judgeStep s) := by
  unfold judgeStep
  split
  · exact h
  · rename_i p step
    have next : P (nextStep s) := nextStep_keeps k (by simp [step]) h
    have fails (why : FailReason) : P (stepFails why s) := stepFails_keeps k why h
    repeat' split
    all_goals first
      | exact next
      | exact fails _

theorem balanceTest_keeps (h : P s) : P (balanceTest s) := by
  unfold balanceTest
  split
  · rename_i p step
    split
    · exact nextStep_keeps k (by simp [step]) h
    · exact h
  · exact h

/-! ### The class in force and the estimate updates -/

theorem guardFails_keeps (b : Fin 6) (h : P s) : P (guardFails b s) := by
  have counted : P (s.setGov { s.gov with retreats := s.gov.retreats.set b (s.gov.retreats[b] + 1) }) :=
    k.gentle (by simp [Gentle]) h
  unfold guardFails
  dsimp only
  split
  · exact enterRetreat_keeps k b counted
  · exact stepFails_keeps k _ counted

theorem guardTest_keeps (h : P s) : P (guardTest s) := by
  unfold guardTest
  repeat' split
  all_goals first
    | exact guardFails_keeps k _ h
    | exact h

theorem recomputeClass_keeps (h : P s) : P (recomputeClass s) := by
  unfold recomputeClass
  split
  · exact h
  · exact k.gentle (refreshRamp_gentle _) (recomputeCeiling_keeps k (guardTest_keeps k (k.gentle (by simp [Gentle]) h)))

theorem waitTest_keeps (h : P s) : P (waitTest s) := by
  unfold waitTest
  repeat' split
  all_goals first
    | exact enterCross_keeps k _ h
    | exact h

theorem governorEstimate_keeps (h : P s) : P (governorEstimate s) := by
  unfold governorEstimate
  refine balanceTest_keeps k (waitTest_keeps k (recomputeClass_keeps k ?_))
  split
  · exact k.gentle (by simp [Gentle]) h
  · exact h

theorem plannerUpdate_keeps (h : P s) : P (plannerUpdate s) := by
  unfold plannerUpdate
  split
  · rename_i runs
    have empty : s.dosing.queue = [] := by
      simp only [plannerRuns, Bool.and_eq_true, List.isEmpty_iff] at runs
      exact runs.2
    split
    · exact runPlanner_keeps k.toKeepsDosing empty h
    · exact stepFails_keeps k _ (runPlanner_keeps k.toKeepsDosing empty h)
  · exact h

theorem handUpdate_keeps (h : P s) : P (handUpdate s) :=
  unordered_keeps (fun u => k.gentle (nextChoice_gentle u)) (fun _ => governorEstimate_keeps k)
    (fun _ => plannerUpdate_keeps k) (k.gentle (by simp [Gentle]) h)

theorem deliverTimes_keeps (n : Nat) (h : P s) : P (deliverTimes n s) := by
  induction n generalizing s with
  | zero => exact k.gentle (by simp [Gentle, deliverTimes]) h
  | succ n ih =>
    unfold deliverTimes
    split
    · exact ih (handUpdate_keeps k h)
    · exact h

theorem deliver_keeps (h : P s) : P (deliver s) := deliverTimes_keeps k 4 h

/-! ### Speeds, boundaries, rest and flags at the governor -/

theorem sensorCheck_keeps (h : P s) : P (sensorCheck s) := by
  have t (b : Bool) : P (s.setGov { s.gov with sensorTest := b }) := k.gentle (by simp [Gentle]) h
  unfold sensorCheck
  dsimp only
  split
  · exact k.detect _ (t _)
  · exact t _

theorem bandPassed_keeps (h : P s) : P (bandPassed s) := by
  unfold bandPassed
  repeat' split
  all_goals first
    | exact climb_keeps k h
    | exact h

theorem governorSpeed_keeps (old : Nat) (h : P s) : P (governorSpeed old s) := by
  unfold governorSpeed
  refine k.gentle (refreshRamp_gentle _) (bandPassed_keeps k (sensorCheck_keeps k ?_))
  split
  · exact k.detect _ h
  · exact h

theorem windowedTest_keeps (h : P s) : P (windowedTest s) := by
  have counted (n : Nat) : P (s.setGov { s.gov with overCount := n }) := k.gentle (by simp [Gentle]) h
  unfold windowedTest
  dsimp only
  repeat' split
  · exact k.detect _ (counted _)
  · exact counted _
  · exact counted _
  · exact h

theorem arrive_keeps (h : P s) : P (arrive s) := by
  unfold arrive
  dsimp only
  repeat' split
  all_goals first
    | exact enterHold_keeps k h
    | exact enterCross_keeps k _ h
    | exact enterWait_keeps k _ h
    | exact climb_keeps k h
    | exact h

theorem arrivalTest_keeps (h : P s) : P (arrivalTest s) := by
  have counted (n : Nat) : P (s.setGov { s.gov with arrivals := n }) := k.gentle (by simp [Gentle]) h
  unfold arrivalTest
  repeat' split
  · exact arrive_keeps k (counted _)
  · exact counted _
  · exact counted _
  · exact h

theorem governorBoundary_keeps (h : P s) : P (governorBoundary s) :=
  k.gentle (setGov_gentle rfl rfl rfl) (arrivalTest_keeps k (windowedTest_keeps k h))

theorem dropSettledClass_keeps (h : P s) : P (dropSettledClass s) :=
  recomputeClass_keeps k (k.gentle (by simp [Gentle]) h)

theorem restMove_keeps (h : P s) : P (restMove s) := by
  unfold restMove
  split
  · rename_i runsDown
    dsimp only
    split
    · exact donePlan_keeps k.toKeepsDosing (k.idle runsDown h)
    · exact k.idle runsDown h
  · split
    · exact arrive_keeps k h
    · exact h

theorem governorRest_keeps (h : P s) : P (governorRest s) :=
  unordered_keeps (fun u => k.gentle (nextChoice_gentle u)) (fun _ => dropSettledClass_keeps k) (fun _ => restMove_keeps k) h

theorem referenceTest_keeps (h : P s) : P (referenceTest s) := by
  unfold referenceTest
  split
  · exact k.detect _ h
  · exact h

theorem spinPermitChanged_keeps (h : P s) : P (spinPermitChanged s) := by
  unfold spinPermitChanged
  refine recomputeCeiling_keeps k ?_
  split
  · exact k.gentle (askLog_gentle _ _) h
  · exact h

theorem knockRaised_keeps (h : P s) : P (knockRaised s) := by
  unfold knockRaised
  split
  · exact h
  · exact k.detect _ h

/-! ### The estimator's boundary report -/

theorem excursionFault_keeps (before : Nat) (h : P s) : P (excursionFault before s) := by
  have raised : P (raiseFault .excursion s) := k.gentle (raiseFault_gentle _ _) h
  unfold excursionFault
  dsimp only
  repeat' split
  · exact raised
  · exact k.detect _ raised
  · exact h

theorem sensorFault_keeps (h : P s) : P (sensorFault s) := by
  unfold sensorFault
  split
  · exact sensorCheck_keeps k (k.gentle (raiseFault_gentle _ _) (k.gentle (by simp [Gentle]) h))
  · exact h

theorem recover_keeps (r : BoundaryReport) (h : P s) : P (recover r s) := by
  have counted : P (countRecovery r s) := k.gentle (countRecovery_gentle s r) h
  unfold recover
  dsimp only
  split
  · exact counted
  · exact sensorCheck_keeps k counted

theorem addRecord_keeps (r : BoundaryReport) (h : P s) : P (addRecord r s) := by
  unfold addRecord
  dsimp only
  refine deliver_keeps k (k.gentle (closeReport_gentle _ _) (k.gentle (joinWindow_gentle _ _) ?_))
  exact sensorFault_keeps k (excursionFault_keeps k _ (k.gentle (by simp [Gentle]) h))

theorem estimatorReport_keeps (r : BoundaryReport) (h : P s) : P (estimatorReport r s) := by
  have recovered : P (recover r (wrapMark r (deliver (changeover r.speed s)))) :=
    recover_keeps k r (k.gentle (wrapMark_gentle _ _) (deliver_keeps k (k.gentle (changeover_gentle s _) h)))
  unfold estimatorReport
  dsimp only
  split
  · exact k.gentle (closeReport_gentle _ _) recovered
  · exact addRecord_keeps k r recovered

end

end Sys2Proof.Machine

/-! Every own effect, and what follows it, keeps a law that meets `Keeps`: the timing unit, the lines, the ports and the memory link, the
pages, the settings and start-up, the telemetry and the command block. -/

namespace Sys2Proof.Machine

open Sys2Proof.Safety Sys2Proof.Statement

/-- New flags of the interlock tests. -/
theorem setFlags_gentle {s : State} {v : Lines} (line : v.line = s.lines.line) (fill : v.askFill = s.lines.askFill)
    (lock : v.askLock = s.lines.askLock) : Gentle s (s.setLines v) := by simp [Gentle, *]

/-! ### The timing unit -/

section
variable (s : State)

theorem setTiming_gentle (v : Timing) : Gentle s (s.setTiming v) := by simp [Gentle]

theorem setSource_gentle (src : Source) (r : SourceRec) : Gentle s (setSource s src r) := by simp [Gentle]

theorem measure_gentle (period : Nat) : Gentle s (measure period s) := by simp [Gentle]

theorem samplePointNow_gentle : Gentle s (samplePointNow s) := by
  unfold samplePointNow
  split
  · exact .refl s
  · split
    · exact setTiming_gentle s _
    · exact (setTiming_gentle s _).trans (sampleRequest_gentle _ _)

theorem dueSamples_gentle (n : Nat) : Gentle s (dueSamples n s) := by
  induction n generalizing s with
  | zero => exact .refl s
  | succ n ih =>
    unfold dueSamples
    split
    · exact (samplePointNow_gentle s).trans (ih _)
    · exact .refl s

theorem beginRev_gentle : Gentle s (beginRev s) := (setTiming_gentle s _).trans (samplePointNow_gentle _)

theorem takePulse_gentle (src : Source) : Gentle s (takePulse src s) := by simp [Gentle]

theorem align_gentle : Gentle s (align s) := by simp [Gentle]

theorem commAdvance_gentle (old : State) : Gentle s (commAdvance old s) := by simp [Gentle]

theorem commProgress_gentle : Gentle s (commProgress s) := by
  unfold commProgress
  split
  · exact (setTiming_gentle s _).trans (dueSamples_gentle _ _)
  · exact .refl s

end

section
variable {P : State → Prop} (k : Keeps P) {s : State}
include k

theorem gapIf_keeps (b : Bool) (h : P s) : P (gapIf b s) := by
  unfold gapIf
  split
  · exact deliver_keeps k (k.gentle (gapMark_gentle s) h)
  · exact h

theorem anchorCheck_keeps (h : P s) : P (anchorCheck s) := k.passCheck h

theorem choice_keeps (u : State) : P u → P (nextChoice u) := k.gentle (nextChoice_gentle u)

theorem reselect_keeps (old : State) (h : P s) : P (reselect old s) := by
  unfold reselect
  split
  · exact h
  · refine unordered3_keeps (choice_keeps k) (fun _ => gapIf_keeps k _) (fun u hu => ?_)
      (fun _ hu => deliver_keeps k (anchorCheck_keeps k hu)) (k.gentle (followAngle_gentle _ _) (k.gentle (setTiming_gentle s _) h))
    dsimp only
    split
    · exact deliver_keeps k (referenceTest_keeps k hu)
    · exact hu

theorem handSpeed_keeps (old : State) (h : P s) : P (handSpeed old s) := by
  unfold handSpeed
  split
  · exact unordered3_keeps (choice_keeps k) (fun u hu => deliver_keeps k (k.gentle (changeover_gentle u _) hu))
      (fun _ hu => deliver_keeps k (governorSpeed_keeps k _ hu))
      (fun _ hu => deliver_keeps k (dosingSpeed_keeps k.toKeepsDosing _ hu)) h
  · exact h

theorem openingBoundary_keeps (period : Nat) (h : P s) : P (openingBoundary period s) :=
  k.gentle (beginRev_gentle _) (k.gentle (setGov_gentle rfl rfl rfl)
    (handSpeed_keeps k s (k.gentle (measure_gentle s period) h)))

theorem switchPreferred_keeps (h : P s) : P (switchPreferred s) := by
  unfold switchPreferred
  dsimp only
  split
  · exact deliver_keeps k (anchorCheck_keeps k (k.gentle (followAngle_gentle _ _) (k.gentle (setTiming_gentle s _) h)))
  · exact k.gentle (beginRev_gentle s) h

theorem revolutionBoundary_keeps (src : Source) (r : Revolution) (h : P s) : P (revolutionBoundary src r s) := by
  unfold revolutionBoundary
  refine switchPreferred_keeps k (unordered3_keeps (choice_keeps k) (fun _ => estimatorReport_keeps k _) (fun u hu => ?_)
    (fun u hu => ?_) (k.gentle (measure_gentle _ _) (gapIf_keeps k _ (k.gentle (setTiming_gentle s _) h))))
  · refine deliver_keeps k (governorBoundary_keeps k ?_)
    split
    · exact governorSpeed_keeps k _ hu
    · exact hu
  · refine deliver_keeps k (k.countSettle ?_)
    split
    · exact dosingSpeed_keeps k.toKeepsDosing _ hu
    · exact hu

theorem boundary_keeps (src : Source) (period : Nat) (h : P s) : P (boundary src period s) := by
  unfold boundary
  split
  · exact openingBoundary_keeps k period h
  · exact revolutionBoundary_keeps k src _ h

theorem discardRev_keeps (moved : Bool) (h : P s) : P (discardRev moved s) := by
  unfold discardRev
  refine gapIf_keeps k _ ?_
  split
  · exact k.gentle (setTiming_gentle s _) h
  · exact h

theorem indexAccepted_keeps (h : P s) : P (indexAccepted s) := by
  have aligned : P (followAngle s (align (takePulse .index s))) :=
    k.gentle (followAngle_gentle _ _) (k.gentle (align_gentle _) (k.gentle (takePulse_gentle s _) h))
  unfold indexAccepted
  extract_lets moved t₁ t₂ t₃ t₄
  have discarded : P t₃ := by
    unfold t₃; split
    · exact unordered_keeps (choice_keeps k) (fun _ => discardRev_keeps k _)
        (fun _ hu => deliver_keeps k (anchorCheck_keeps k hu)) aligned
    · exact aligned
  have selected : P t₄ := by
    unfold t₄; split
    · exact reselect_keeps k _ discarded
    · exact discarded
  split
  · exact boundary_keeps k _ _ selected
  · exact selected

theorem commAccepted_keeps (h : P s) : P (commAccepted s) := by
  have advanced : P (followAngle s (commAdvance s (takePulse .comm s))) :=
    k.gentle (followAngle_gentle _ _) (k.gentle (commAdvance_gentle _ _) (k.gentle (takePulse_gentle s _) h))
  unfold commAccepted
  extract_lets t₁ t₂ p period t₃
  have selected : P t₂ := by
    unfold t₂; split
    · exact reselect_keeps k _ advanced
    · exact advanced
  have progressed : P t₃ := k.gentle (commProgress_gentle t₂) selected
  split
  · split
    · exact boundary_keeps k _ _ progressed
    · exact handSpeed_keeps k _ (k.gentle (measure_gentle _ _) progressed)
  · exact selected

theorem loseSource_keeps (src : Source) (h : P s) : P (loseSource src s) := by
  unfold loseSource
  dsimp only
  split
  · exact reselect_keeps k s (k.gentle (setSource_gentle s _ _) h)
  · exact h

theorem foundAtRest_keeps (h : P s) : P (foundAtRest s) :=
  deliver_keeps k (governorRest_keeps k (unordered3_keeps (choice_keeps k)
    (fun u hu => deliver_keeps k (k.gentle (changeover_gentle u _) hu))
    (fun _ hu => deliver_keeps k (governorSpeed_keeps k _ hu))
    (fun _ hu => deliver_keeps k (dosingSpeed_keeps k.toKeepsDosing _ hu))
    (k.gentle (setTiming_gentle _ _) (reselect_keeps k s (k.gentle (setTiming_gentle s _) h)))))

theorem adoptTiming_keeps (old : ReferenceSettings) (h : P s) : P (adoptTiming old s) :=
  reselect_keeps k s (k.gentle (setTiming_gentle s _) h)

/-! ### The lines -/

theorem governorFlags_keeps (old : Lines) (h : P s) : P (governorFlags old s) := by
  refine unordered_keeps (choice_keeps k) (fun u hu => ?_) (fun u hu => ?_) h
  · split
    · exact hu
    · exact deliver_keeps k (spinPermitChanged_keeps k hu)
  · split
    · exact deliver_keeps k (knockRaised_keeps k hu)
    · exact hu

theorem evaluateTests_keeps (h : P s) : P (evaluateTests s) := by
  unfold evaluateTests
  extract_lets set flags t
  have flagged : P t := k.gentle (setFlags_gentle rfl rfl rfl) h
  refine unordered_keeps (choice_keeps k) (fun _ => governorFlags_keeps k _) (fun u hu => ?_) flagged
  split
  · exact hu
  · exact deliver_keeps k (k.passCheck hu)

end

/-- A line record may change as long as an output stays one and the latch stays. -/
theorem setLine_gentle {s : State} {n : Fin 8} {l : LineRec} (alike : s.lines.line[n].DrivenAlike l) : Gentle s (setLine s n l) := by
  have at' (i : Fin 8) : s.lines.line[i].DrivenAlike (setLine s n l).lines.line[i] := by
    by_cases e : n = i
    · subst e; simpa [setLine] using alike
    · have ne : n.val ≠ i.val := fun h => e (Fin.ext h)
      simp [setLine, ne]
  have h0 := at' 0
  have h1 := at' 1
  simp only [Gentle, setLine_frame]
  simp_all [setLine]

theorem withOutside_drivenAlike (l : LineRec) (now : Nat) (level : Bool) : l.DrivenAlike (l.withOutside now level) := by
  unfold LineRec.withOutside
  split <;> simp [LineRec.DrivenAlike]

theorem pinChange_gentle (n : Fin 8) (level : Bool) (s : State) : Gentle s (pinChange n level s) :=
  setLine_gentle (withOutside_drivenAlike _ _ _)

/-- R113: LINES acts on no line of an owner other than the controllers. -/
theorem lineAfter_owned {mode data : Byte} {s : State} {n : Fin 8} (owned : controllerOwned s n = false) :
    lineAfter mode data s n = s.lines.line[n] := by
  unfold lineAfter; split <;> simp [owned]

theorem applyLines_gentle (mode data : Byte) (s : State) : Gentle s (applyLines mode data s) := by
  have fill := lineAfter_owned (mode := mode) (data := data) (s := s) (n := 0) rfl
  have lock := lineAfter_owned (mode := mode) (data := data) (s := s) (n := 1) rfl
  simp_all [Gentle, applyLines]

/-- R119: L0 and L1 are outputs after an adoption, whatever the settings say. -/
theorem adoptedLines_gentle (s : State) : Gentle s (s.setLines { s.lines with
    line := Vector.ofFn fun n =>
      s.lines.line[n].adopt s.now (decide (n.val < 2) || s.settings.inForce.lines.outputs.getLsbD n) }) := by
  simp [Gentle, LineRec.DrivenAlike]

section
variable {P : State → Prop} (k : Keeps P) {s : State}
include k

theorem acceptChange_keeps (n : Fin 8) (h : P s) : P (acceptChange n s) := by
  unfold acceptChange
  split
  · split
    · rename_i d _ _
      have accepted : P (setLine s n { s.lines.line[n] with accepted := d.candidate, debounce := none }) :=
        k.gentle (setLine_gentle ⟨id, rfl⟩) h
      dsimp only
      split
      · exact accepted
      · exact evaluateTests_keeps k accepted
    · exact h
  · exact h

theorem adoptLines_keeps (h : P s) : P (adoptLines s) := evaluateTests_keeps k (k.gentle (adoptedLines_gentle s) h)

end

end Sys2Proof.Machine

/-! What the ports, the memory link, the pages, the settings, the telemetry and the command block do under the laws, so that every own
effect and what follows it keeps a law that meets `Keeps`. -/

namespace Sys2Proof.Machine

open Sys2Proof.Safety Sys2Proof.Statement

/-! ### The ports and the memory link -/

/-- A port may change as long as its post buffer grows to its bound at most. -/
theorem setPort_gentle {s : State} {p : Port} {v : PortState} (post : v.post.length ≤ max 32 (portOf s p).post.length) :
    Gentle s (setPort s p v) := by
  cases p <;> simpa [Gentle, setPort, portOf] using post

theorem setReport_gentle {s : State} {v : ReportUnit} (queue : v.queue = s.report.queue) : Gentle s (s.setReport v) := by
  simp [Gentle, queue]

theorem setLink_gentle (s : State) (v : MemoryLink) : Gentle s (s.setLink v) := by simp [Gentle]

theorem setPages_gentle (s : State) (v : PageUnit) : Gentle s (s.setPages v) := by simp [Gentle]

theorem setTel_gentle (s : State) (v : Telemetry) : Gentle s (s.setTel v) := by simp [Gentle]

theorem setHand_gentle (s : State) (v : HandOver) : Gentle s (s.setHand v) := by simp [Gentle]

theorem setCmd_gentle (s : State) (v : CommandBlock) : Gentle s (s.setCmd v) := by simp [Gentle]

theorem setSettings_gentle {s : State} {v : SettingsUnit} (startup : v.startup = .done → s.settings.startup = .done) :
    Gentle s (s.setSettings v) := by simpa [Gentle] using startup

section
variable (p : Port) (s : State)

theorem answer_gentle (r : Reply) : Gentle s (answer p r s) := setPort_gentle (by simp)

theorem closeOwn_gentle : Gentle s (closeOwn p s) := by simp [Gentle]

theorem dropStretch_gentle : Gentle s (dropStretch p s) := by
  have dropped : Gentle s (setPort s p { portOf s p with stretch := none }) := setPort_gentle (by simp)
  unfold dropStretch
  dsimp only
  repeat' split
  · exact dropped.trans (by simp [Gentle])
  · exact dropped
  · exact dropped

theorem stretchByte_gentle (w : Waiting) (a start : Nat) : Gentle s (stretchByte p w a start s) := setPort_gentle (by simp)

theorem holdWrite_gentle (target : Nat) (v : Byte) (a start : Nat) : Gentle s (holdWrite p target v a start s) := by
  unfold holdWrite
  refine Gentle.trans ?_ (stretchByte_gentle _ _ _ _ _)
  split
  · exact setLink_gentle _ _
  · exact closeOwn_gentle p s

theorem askRead_gentle (target a start : Nat) : Gentle s (askRead p target a start s) := by
  unfold askRead
  refine Gentle.trans ?_ (stretchByte_gentle _ _ _ _ _)
  split
  · exact setLink_gentle _ _
  · exact closeOwn_gentle p s

theorem stepPointer_gentle : Gentle s (stepPointer p s) := setPort_gentle (by simp)

theorem noteSending_gentle : Gentle s (noteSending p s) :=
  (setReport_gentle rfl).trans (setPort_gentle (by simp))

theorem accessFault_gentle (k : AccessKind) (a : Nat) : Gentle s (accessFault p k a s) := by
  unfold accessFault
  dsimp only
  split
  · exact .refl s
  · exact (setPort_gentle (by simp)).trans (setReport_gentle (record_fields _ _ _).2.2.2.2.2.1)

theorem readFault_gentle (k : AccessKind) (a : Nat) : Gentle s (readFault p k a s) := by
  have queue : (accessFault p k a s).report.queue = s.report.queue := by
    unfold accessFault; dsimp only; split <;> simp [recordAccess]
  unfold readFault
  split
  · exact .refl s
  · exact (accessFault_gentle p s k a).trans (setReport_gentle (by simp [queue]))

theorem dropPartial_gentle : Gentle s (dropPartial p s) := by
  unfold dropPartial
  split
  · exact (setReport_gentle (by simp)).trans (setPort_gentle (by simp))
  · exact .refl s

theorem refuseWrite_gentle : Gentle s (refuseWrite p s) := setPort_gentle (by simp)

theorem refuseRead_gentle : Gentle s (refuseRead p s) := setPort_gentle (by simp)

theorem joinPost_gentle (target : Nat) (v : Byte) (room : (portOf s p).post.length < 32) : Gentle s (joinPost p target v s) :=
  setPort_gentle (by simp; omega)

theorem beginTxn_gentle (read : Bool) : Gentle s (beginTxn p read s) := setPort_gentle (by simp)

theorem handOver_gentle (touch : Touch) : Gentle s (handOver touch s) := setHand_gentle s _

theorem endTxn_gentle : Gentle s (endTxn p s) := by
  unfold endTxn
  split
  · exact .refl s
  · exact (((dropStretch_gentle p s).trans (closeOwn_gentle p _)).trans (setPort_gentle (by simp))).trans (handOver_gentle _ _)

theorem restartTxn_gentle (addr : BitVec 7) (read : Bool) : Gentle s (restartTxn p addr read s) := by
  unfold restartTxn
  split
  · exact ((dropStretch_gentle p s).trans (closeOwn_gentle p _)).trans (setPort_gentle (by simp))
  · exact (endTxn_gentle p s).trans (answer_gentle p _ _)

theorem upstreamStart_gentle (addr : BitVec 7) (read : Bool) : Gentle s (upstreamStart p addr read s) := by
  unfold upstreamStart startOn
  repeat' split
  · exact .refl s
  · exact setPort_gentle (by simp)
  · exact beginTxn_gentle p s read
  · exact answer_gentle p s _
  · exact restartTxn_gentle p s addr read

theorem addressByte_gentle (v : Byte) : Gentle s (addressByte p v s) := by
  unfold addressByte
  dsimp only
  repeat' split
  · exact setPort_gentle (by simp)
  · exact setPort_gentle (by simp)
  · exact .refl s

theorem snoopAt_gentle (x : Option SnoopPoint) (v : Byte) : Gentle s (snoopAt p x v s) := by
  unfold snoopAt snoop
  dsimp only
  repeat' split
  · exact (setPort_gentle (by simp)).trans (setCmd_gentle _ _)
  · exact (setPort_gentle (by simp)).trans (setTel_gentle _ _)
  · exact (setPort_gentle (by simp)).trans (setPages_gentle _ _)
  · exact setPort_gentle (by simp)
  · exact .refl s

theorem editWriteOn_gentle (o : Nat) (v : Byte) (a start : Nat) : Gentle s (editWriteOn p o v a start s) :=
  (snoopAt_gentle p s _ v).trans (holdWrite_gentle _ _ _ _ _ _)

theorem takeWriteByte_gentle (v : Byte) : Gentle s (takeWriteByte p v s) := by
  have stepped := stepPointer_gentle p s
  unfold takeWriteByte writeByte
  dsimp only
  repeat' split
  · exact ((stepped.trans (accessFault_gentle p _ _ _)).trans (closeOwn_gentle p _)).trans (refuseWrite_gentle p _)
  · exact ((stepped.trans (accessFault_gentle p _ _ _)).trans (closeOwn_gentle p _)).trans (answer_gentle p _ _)
  · exact (stepped.trans (closeOwn_gentle p _)).trans (stretchByte_gentle p _ _ _ _)
  · exact stepped.trans (editWriteOn_gentle p _ _ _ _ _)
  · exact stepped
  · exact (stepped.trans (snoopAt_gentle p _ _ v)).trans (holdWrite_gentle p _ _ _ _ _)
  · rename_i room
    exact ((stepped.trans (snoopAt_gentle p _ _ v)).trans (closeOwn_gentle p _)).trans (joinPost_gentle p _ _ _ room)
  · exact ((stepped.trans (snoopAt_gentle p _ _ v)).trans (closeOwn_gentle p _)).trans (stretchByte_gentle p _ _ _ _)
  · exact .refl s

theorem takeReadByte_gentle : Gentle s (takeReadByte p s) := by
  have noted := (noteSending_gentle p s).trans (stepPointer_gentle p _)
  have viewed := noted.trans (t := stepPointer p (noteSending p s)) (u := noteView p (stepPointer p (noteSending p s)))
    (setPort_gentle (by simp))
  unfold takeReadByte readByteOn
  dsimp only
  repeat' split
  · exact ((noted.trans (readFault_gentle p _ _ _)).trans (closeOwn_gentle p _)).trans (refuseRead_gentle p _)
  · exact (noted.trans (closeOwn_gentle p _)).trans (refuseRead_gentle p _)
  · exact (noted.trans (closeOwn_gentle p _)).trans (stretchByte_gentle p _ _ _ _)
  · exact noted.trans (askRead_gentle p _ _ _ _)
  · exact (viewed.trans (closeOwn_gentle p _)).trans (setPort_gentle (by simp))
  · exact viewed.trans (askRead_gentle p _ _ _ _)
  · exact noted.trans (askRead_gentle p _ _ _ _)
  · exact .refl s

theorem nackRead_gentle : Gentle s (nackRead p s) := by
  unfold nackRead
  split
  · exact (closeOwn_gentle p s).trans (setPort_gentle (by simp))
  · exact .refl s

theorem busEnd_gentle : Gentle s (busEnd p s) := by
  unfold busEnd
  split
  · exact setPort_gentle (by simp)
  · exact endTxn_gentle p s

theorem stretchExpires_gentle : Gentle s (stretchExpires p s) := by
  have faulted (k : AccessKind) (a : Nat) := (dropStretch_gentle p s).trans (accessFault_gentle p _ k a)
  unfold stretchExpires
  dsimp only
  repeat' split
  · exact (faulted _ _).trans (refuseWrite_gentle p _)
  · exact ((faulted _ _).trans (refuseRead_gentle p _)).trans (setPort_gentle (by simp))
  · exact (faulted _ _).trans (refuseWrite_gentle p _)
  · exact (faulted _ _).trans (refuseWrite_gentle p _)
  · exact (faulted _ _).trans (refuseRead_gentle p _)
  · exact .refl s
  · exact .refl s

theorem idleClose_gentle (k : TransferKind) : Gentle s (idleClose p k s) := by simp [Gentle]

end

theorem midByte_gentle (x : PartialByte) (s : State) : Gentle s (midByte x s) := by
  unfold midByte
  refine Gentle.trans ?_ (busEnd_gentle _ _)
  split
  · exact dropPartial_gentle x.port s
  · exact .refl s

section
variable (s : State)

theorem storeByte_gentle (a : Nat) (v : Byte) : Gentle s (storeByte s a v) := by simp [Gentle]

theorem storeBytes_gentle (a : Nat) (l : List Byte) : Gentle s (storeBytes s a l) := by simp [Gentle]

theorem setTransfer_gentle (t : Option Transfer) : Gentle s (setTransfer s t) := setLink_gentle s _

theorem burstAck_gentle (p : Port) (t : Transfer) : Gentle s (burstAck p t s) := by
  have stored (x : Option Transfer) := (storeByte_gentle s t.addr t.data).trans (setTransfer_gentle _ x)
  unfold burstAck
  dsimp only
  split
  · exact (stored _).trans (setPort_gentle (by simp))
  · exact stored _

theorem drainAck_gentle (p : Port) (t : Transfer) : Gentle s (drainAck p t s) := by
  have kept : portOf (storeByte s t.addr t.data) p = portOf s p := by simp
  have stored : Gentle s (setPort (storeByte s t.addr t.data) p { portOf s p with post := (portOf s p).post.tail }) :=
    (storeByte_gentle s _ _).trans (setPort_gentle (by simp only [List.length_tail, kept]; omega))
  unfold drainAck
  dsimp only
  split
  · exact stored.trans (setTransfer_gentle _ _)
  · exact stored.trans (setTransfer_gentle _ _)

theorem dataAck_gentle : Gentle s (dataAck s) := by
  unfold dataAck
  repeat' split
  · exact burstAck_gentle s _ _
  · exact .refl s
  · exact drainAck_gentle s _ _
  · exact .refl s
  · exact .refl s
  · exact .refl s

theorem readBack_gentle : Gentle s (readBack s) := by
  unfold readBack
  dsimp only
  repeat' split
  · exact (setTransfer_gentle s _).trans (setPort_gentle (by simp))
  · exact setTransfer_gentle s _
  · exact .refl s
  · exact .refl s
  · exact .refl s

theorem endTransfer_gentle : Gentle s (endTransfer s) := by simp [Gentle]

theorem retryAddress_gentle : Gentle s (retryAddress s) := by simp [Gentle]

theorem releasePort_gentle (p : Port) : Gentle s (releasePort p s) := by
  have edit (u : State) : Gentle u (releaseEdit p u) := by
    unfold releaseEdit
    repeat' split
    · exact .refl u
    · exact editWriteOn_gentle p u _ _ _ _
    · exact askRead_gentle p u _ _ _
    · exact .refl u
    · exact .refl u
  have post (u : State) : Gentle u (releasePost p u) := by
    unfold releasePost
    repeat' split
    · rename_i room
      exact joinPost_gentle p u _ _ room
    · exact .refl u
    · exact .refl u
    · exact .refl u
  have start (u : State) : Gentle u (releaseStart p u) := by
    unfold releaseStart
    repeat' split
    · exact .refl u
    · exact beginTxn_gentle p u _
    · exact .refl u
  exact ((edit s).trans (post _)).trans (start _)

/-- R204: the settings read of a RESTART begins; start-up does not end. -/
theorem leaveDrainWait_gentle : Gentle s (leaveDrainWait s) := by
  unfold leaveDrainWait
  split
  · exact setSettings_gentle (fun ended => nomatch ended)
  · exact .refl s

theorem raiseJobs_gentle : Gentle s (raiseJobs s) := by simp [Gentle]

/-- R194: a grant takes an entry from the log queue at most. -/
theorem arbitrate_gentle : Gentle s (arbitrate s) := by
  have taken (u : State) : (takeEntry u).1.report.queue.length ≤ u.report.queue.length := by
    unfold takeEntry; split <;> simp [*]
  have granted (r : Requester) : (grantedTransfer s r).1.report.queue.length ≤ s.report.queue.length := by
    unfold grantedTransfer
    repeat' split
    all_goals first
      | exact Nat.le_refl _
      | exact taken _
  have queue : (arbitrate s).report.queue.length ≤ s.report.queue.length := by
    unfold arbitrate
    split
    · exact granted _
    · exact Nat.le_refl _
  simp [Gentle]; omega

theorem settle_gentle : Gentle s (settle s) :=
  ((((releasePort_gentle s .c).trans (releasePort_gentle _ .d)).trans (leaveDrainWait_gentle _)).trans
    (raiseJobs_gentle _)).trans (arbitrate_gentle _)

theorem advance_gentle (dt : Nat) : Gentle s (advance dt s) := by simp [Gentle]

theorem setPending_gentle (l : List Instr) : Gentle s (s.setPending l) := by simp [Gentle]

/-! ### The pages and the report -/

theorem commitResult_gentle (r : CommitResult) (check : Nat) (step : Option Nat) (id : Option Word16) :
    Gentle s (commitResult r check step id s) :=
  ((setPages_gentle s _).trans (trigger_gentle _)).trans (askLog_gentle _ _)

theorem endSwap_gentle (r : CommitResult) (check : Nat) (step : Option Nat) (id : Option Word16) :
    Gentle s (endSwap r check step id s) := (setPages_gentle s _).trans (commitResult_gentle _ _ _ _ _)

theorem commitNow_gentle : Gentle s (commitNow s) := by
  unfold commitNow takeCommit
  repeat' split
  · exact (setHand_gentle s _).trans (commitResult_gentle _ _ _ _ _)
  · exact (setHand_gentle s _).trans (setPages_gentle _ _)
  · exact .refl s

theorem commitRecordDone_gentle (l : List Byte) : Gentle s (commitRecordDone l s) := by
  unfold commitRecordDone
  dsimp only
  split
  · exact .refl s
  · split
    · exact endSwap_gentle s _ _ _ _
    · exact setPages_gentle s _

theorem carryReadDone_gentle (l : List Byte) : Gentle s (carryReadDone l s) := by simp [Gentle]

theorem carryWriteDone_gentle : Gentle s (carryWriteDone s) := by simp [Gentle]

theorem flip_gentle (l : List Byte) : Gentle s (flip l s) := by
  unfold flip
  refine Gentle.trans ?_ (endSwap_gentle _ _ _ _ _)
  simp [Gentle]

theorem validationDone_gentle (l : List Byte) : Gentle s (validationDone l s) := by
  unfold validationDone validatePage
  dsimp only
  repeat' split
  · exact .refl s
  · exact endSwap_gentle s _ _ _ _
  · exact endSwap_gentle s _ _ _ _
  · exact flip_gentle s _
  · exact setPages_gentle s _

theorem swapFailed_gentle : Gentle s (swapFailed s) := by
  unfold swapFailed
  split
  · exact .refl s
  · exact endSwap_gentle s _ _ _ _

theorem granuleWritten_gentle : Gentle s (granuleWritten s) := by
  unfold granuleWritten
  repeat' split
  · exact setReport_gentle rfl
  · exact setReport_gentle rfl
  · exact setReport_gentle rfl
  · exact .refl s

theorem granuleFailed_gentle : Gentle s (granuleFailed s) := setReport_gentle rfl

theorem periodExpiry_gentle : Gentle s (periodExpiry s) := by
  unfold periodExpiry
  split
  · exact (setReport_gentle rfl).trans (trigger_gentle _)
  · exact .refl s

/-! ### The settings -/

theorem abandonJobs_gentle (p : Job → Bool) : Gentle s (abandonJobs p s) := by simp [Gentle]

theorem setStatus_gentle (st : SettingsStatus) (check : Nat) : Gentle s (setStatus st check s) := by
  unfold setStatus
  split
  · exact .refl s
  · exact (setSettings_gentle id).trans (trigger_gentle _)

theorem adoptRing_gentle (old : Settings) : Gentle s (adoptRing old s) := by
  have abandoned (u : State) : Gentle u (abandonReport u) := by
    unfold abandonReport
    dsimp only
    split
    · exact (abandonJobs_gentle u _).trans (setReport_gentle rfl)
    · exact abandonJobs_gentle u _
  have left := (abandonJobs_gentle s isScan).trans (abandoned _)
  unfold adoptRing
  dsimp only
  repeat' split
  · exact (left.trans (setReport_gentle rfl)).trans (setSettings_gentle id)
  · exact (left.trans (setReport_gentle rfl)).trans (setSettings_gentle id)
  · exact .refl s

theorem adoptPeriod_gentle (old : Settings) : Gentle s (adoptPeriod old s) := by
  unfold adoptPeriod
  split
  · exact setReport_gentle rfl
  · exact .refl s

theorem adoptPages_gentle (old : TrafficSettings) : Gentle s (adoptPages old s) := by simp [Gentle]

theorem adoptAge_gentle : Gentle s (adoptAge s) := by simp [Gentle]

theorem startRestricted_gentle (check : Nat) : Gentle s (startRestricted check s) :=
  (setStatus_gentle s _ _).trans (askLog_gentle _ _)

theorem rereadNow_gentle : Gentle s (rereadNow s) := by
  unfold rereadNow beginReread
  split
  · exact ((setHand_gentle s _).trans (abandonJobs_gentle _ _)).trans (setSettings_gentle id)
  · exact .refl s

theorem startupRetry_gentle : Gentle s (startupRetry s) := by
  unfold startupRetry
  repeat' split
  · exact setSettings_gentle (fun ended => nomatch ended)
  · exact .refl s
  · exact .refl s

theorem searchAgain_gentle (src : Source) : Gentle s (searchAgain src s) := by simp [Gentle]

theorem storeResult_gentle (r : CmdResult) (mask : Byte) : Gentle s (storeResult r mask s) :=
  (setCmd_gentle s _).trans (trigger_gentle _)

theorem markTaken_gentle : Gentle s (markTaken s) := (setHand_gentle s _).trans (setCmd_gentle _ _)

theorem clearLatches_gentle (mask : BitVec 11) : Gentle s (clearLatches mask s) := by
  unfold clearLatches
  split
  · exact .refl s
  · exact (setReport_gentle rfl).trans (trigger_gentle _)

theorem drainFailed_gentle (p : Port) (taken : Nat) (cause : FailCause) : Gentle s (drainFailed p taken cause s) :=
  (setPort_gentle (by simp only [List.length_drop]; omega)).trans (raiseFault_gentle _ _)

theorem byteFailed_gentle (p : Port) : Gentle s (byteFailed p s) := by
  unfold byteFailed
  repeat' split
  · exact refuseWrite_gentle p s
  · exact refuseRead_gentle p s
  · exact .refl s
  · exact .refl s

theorem partialWrite_gentle (j : Job) (cause : FailCause) : Gentle s (partialWrite j cause s) := by simp [Gentle]

end

end Sys2Proof.Machine

/-! Every own effect keeps a law that meets `Keeps` (`ownEffect_keeps`), and so every step does (`Keeps.step`). -/

namespace Sys2Proof.Machine

open Sys2Proof.Safety Sys2Proof.Statement

/-- A condition with two outcomes that keep the law. -/
theorem ite_keeps {P : State → Prop} {c : Prop} [Decidable c] {s t : State} (h : P s) (k : P t) : P (if c then s else t) := by
  split <;> assumption

section
variable {P : State → Prop} (k : Keeps P) {s : State}
include k

/-! ### The settings and start-up -/

theorem adoptSettings_keeps (new : Settings) (h : P s) : P (adoptSettings new s) := by
  unfold adoptSettings
  extract_lets old unit t₁ t₂ t₃
  have adopted : P t₂ := k.gentle (adoptAge_gentle _) (k.gentle (adoptPages_gentle _ _)
    (k.gentle (setStatus_gentle _ _ _) (k.gentle (setSettings_gentle id) h)))
  have timed : P t₃ := by
    unfold t₃; split
    · exact adoptTiming_keeps k _ adopted
    · exact adopted
  refine unordered_keeps (choice_keeps k) (fun u hu => k.gentle (adoptRing_gentle u _) hu) (fun u hu => ?_)
    (k.gentle (adoptPeriod_gentle _ _) timed)
  exact unordered3_keeps (choice_keeps k) (fun v hv => k.gentle (askLog_gentle v _) hv)
    (fun v hv => k.gentle (adoptGovernor_gentle _) (deliver_keeps k (k.gentle (adoptEstimator_gentle v) hv)))
    (fun _ => adoptLines_keeps k) hu

theorem judgeImage_keeps (l : List Byte) (h : P s) : P (judgeImage l s) := by
  have pends (x : Option (List Byte)) : P (s.setSettings { s.settings with pending := x }) :=
    k.gentle (setSettings_gentle id) h
  unfold judgeImage
  dsimp only
  repeat' split
  · exact adoptSettings_keeps k _ (pends _)
  · exact k.gentle (setStatus_gentle _ _ _) (pends _)
  · exact k.gentle (askLog_gentle _ _) (k.gentle (setStatus_gentle _ _ _) (pends _))

theorem rereadDone_keeps (l : List Byte) (h : P s) : P (rereadDone l s) := by
  have reads (x : Option (List Byte)) : P (s.setSettings { s.settings with reading := x }) :=
    k.gentle (setSettings_gentle id) h
  unfold rereadDone
  repeat' split
  · exact h
  · exact reads _
  · exact judgeImage_keeps k _ (reads _)

theorem adoptPending_keeps (h : P s) : P (adoptPending s) := by
  unfold adoptPending
  repeat' split
  · exact adoptSettings_keeps k _ h
  · exact h
  · exact h

theorem afterSettings_keeps (h : P s) : P (afterSettings s) := by
  unfold afterSettings
  dsimp only
  repeat' split
  · exact k.openDevice h
  · exact k.gentle (setSettings_gentle (fun ended => nomatch ended)) h
  · exact k.openDevice (k.gentle (setReport_gentle rfl) h)
  · exact k.openDevice (k.gentle (setReport_gentle rfl) (k.gentle (setReport_gentle rfl) h))

theorem startupReadDone_keeps (l : List Byte) (h : P s) : P (startupReadDone l s) := by
  unfold startupReadDone judgeStartup
  dsimp only
  repeat' split
  · exact k.gentle (setSettings_gentle id) h
  · exact afterSettings_keeps k (adoptSettings_keeps k _ h)
  · exact afterSettings_keeps k (k.gentle (startRestricted_gentle _ _) h)

theorem startupFailed_keeps (h : P s) : P (startupFailed s) := by
  have restricted : P (startRestricted 0 s) := k.gentle (startRestricted_gentle s 0) h
  unfold startupFailed
  dsimp only
  repeat' split
  · exact k.gentle (setSettings_gentle (fun ended => nomatch ended)) h
  · exact k.openDevice restricted
  · exact k.openDevice (k.gentle (setReport_gentle rfl) restricted)
  · exact h

theorem slotScanned_keeps (l : List Byte) (h : P s) : P (slotScanned l s) := by
  have ends (found : List (Nat × Word32)) : P (endScan found s) := by
    unfold endScan
    extract_lets unit t report u
    have positioned : P u := by
      unfold u; split <;> exact k.gentle (setReport_gentle rfl) (k.gentle (setSettings_gentle id) h)
    split
    · exact k.openDevice positioned
    · exact positioned
  unfold slotScanned
  dsimp only
  repeat' split
  all_goals first
    | exact h
    | exact ends _
    | exact k.gentle (setSettings_gentle id) h

/-! ### The memory link's internal transfers -/

theorem completeJob_keeps {p : Job → Bool} {act : Job → State → State} (acts : ∀ j u, P u → P (act j u)) (h : P s) :
    P (completeJob p act s) := by
  have ended (j : Job) : P (setTransfer (storeBytes s (jobAddr j) (jobData j)) none) :=
    k.gentle (setTransfer_gentle _ _) (k.gentle (storeBytes_gentle s _ _) h)
  unfold completeJob
  dsimp only
  repeat' split
  · exact ended _
  · exact acts _ _ (ended _)
  · exact h
  · exact h

theorem jobFailed_keeps (j : Job) (h : P s) : P (jobFailed j s) := by
  cases j with
  | settingsRead => exact k.gentle (setSettings_gentle id) h
  | startupRead => exact startupFailed_keeps k h
  | logScan => exact slotScanned_keeps k _ h
  | commitRecord | carryRead | carryWrite | validate => exact k.gentle (swapFailed_gentle s) h
  | report => exact k.gentle (granuleFailed_gentle s) h
  | logNext | logWrite => exact h

theorem failTransfer_keeps (cause : FailCause) (h : P s) : P (failTransfer cause s) := by
  have raised : P (raiseFault .memoryFault (setTransfer s none)) :=
    k.gentle (raiseFault_gentle _ _) (k.gentle (setTransfer_gentle s _) h)
  have left (j : Job) : P (partialWrite j cause (raiseFault .memoryFault (setTransfer s none))) :=
    k.gentle (partialWrite_gentle _ j cause) raised
  unfold failTransfer
  dsimp only
  repeat' split
  · exact h
  · exact left _
  · exact jobFailed_keeps k _ (left _)
  · exact k.gentle (drainFailed_gentle _ _ _ _) raised
  · exact k.gentle (byteFailed_gentle _ _) raised
  · exact raised
  · exact k.gentle (byteFailed_gentle _ _) raised
  · exact raised
  · exact raised
  · exact h

/-! ### The telemetry -/

theorem driveCheck_keeps (r : TelRecord) (h : P s) : P (driveCheck r s) := by
  have noted := k.gentle (setTel_gentle s { s.tel with prevDrive := some r.drive }) h
  unfold driveCheck
  dsimp only
  split
  · exact deliver_keeps k (k.detect _ noted)
  · exact noted

theorem adoptTelemetry_keeps (h : P s) : P (adoptTelemetry s) := by
  unfold adoptTelemetry
  refine unordered3_keeps (choice_keeps k) (fun u hu => k.gentle (takeTorque_gentle u _) hu) (fun _ => driveCheck_keeps k _)
    (fun u hu => ?_) (k.gentle (setTel_gentle s _) h)
  split
  · exact deliver_keeps k (crossCheck_keeps k.toKeepsDosing _ hu)
  · exact hu

theorem telemetryNow_keeps (h : P s) : P (telemetryNow s) := by
  unfold telemetryNow
  split
  · exact adoptTelemetry_keeps k (k.gentle (setHand_gentle s _) h)
  · exact h

theorem ageExpires_keeps (h : P s) : P (ageExpires s) := by
  have stopped := k.gentle (setTel_gentle s { s.tel with running := false }) h
  unfold ageExpires
  dsimp only
  repeat' split
  · exact k.detect _ stopped
  · exact stopped
  · exact h

/-! ### The commands -/

theorem takeUp_keeps {codes : Byte → Bool} {body : State → Taken} (runs : ∀ u, P u → P (body u).state) (h : P s) :
    P (takeUp codes body s) := by
  unfold takeUp
  dsimp only
  split
  · exact k.gentle (storeResult_gentle _ _ _) (runs _ (k.gentle (markTaken_gentle s) h))
  · exact h

theorem startPlan_keeps (h : P s) : P (startPlan s).state := by
  unfold startPlan
  split
  · rename_i may
    have idle : s.gov.state = .idle := by
      simp only [mayStart, Bool.and_eq_true, beq_iff_eq] at may
      exact may.1.1.1.1.1.1
    exact k.stepEntry _ (.inl (by simpa using idle)) (k.gentle (setRunnerState_gentle _ _) (k.gentle (by simp [Gentle]) h))
  · exact h

theorem stopPlan_keeps (h : P s) : P (stopPlan s).state := by
  have aborted := abortPlan_keeps k.toKeepsDosing .stopped h
  unfold stopPlan stopGovernor
  repeat' split
  · exact aborted
  · exact k.halt aborted
  · exact h

theorem resumePlan_keeps (h : P s) : P (resumePlan s).state := by
  unfold resumePlan
  split
  · rename_i may
    have idle : s.gov.state = .idle := by
      simp only [mayResume, Bool.and_eq_true, beq_iff_eq] at may
      exact may.1.1.1.2
    exact k.stepEntry _ (.inl (by simpa using idle)) (k.gentle (setRunnerState_gentle s _) h)
  · exact h

theorem doseNow_keeps (h : P s) : P (doseNow s).state := by
  unfold doseNow
  dsimp only
  repeat' split
  · exact h
  · rename_i may _
    have room : s.dosing.queue.length < 8 := by
      simp only [mayDose, Bool.not_eq_true', Bool.not_eq_false, Bool.and_eq_true, decide_eq_true_eq] at may
      exact may.1.2
    exact k.addOrder _ _ _ _ room h
  · exact h

theorem ackFaults_keeps (h : P s) : P (ackFaults s).state := by
  unfold ackFaults
  dsimp only
  split
  · exact h
  · exact k.gentle (clearLatches_gentle s _) h

theorem restartNow_keeps (levels : BitVec 8) (h : P s) : P (restartNow levels s) := by
  have stored (r : CmdResult) : P (storeResult r 0 (markTaken s)) :=
    k.gentle (storeResult_gentle _ _ _) (k.gentle (markTaken_gentle s) h)
  unfold restartNow
  dsimp only
  repeat' split
  · exact k.restart levels (stored _)
  · exact stored _
  · exact h

/-! ### Timers of the governor -/

theorem holdExpiry_keeps (h : P s) : P (holdExpiry s) := by
  unfold holdExpiry
  split
  · exact judgeStep_keeps k h
  · exact h

theorem bandWaitExpiry_keeps (h : P s) : P (bandWaitExpiry s) := by
  unfold bandWaitExpiry
  split
  · exact stepFails_keeps k _ h
  · exact h

theorem fiveSecondMark_keeps (h : P s) : P (fiveSecondMark s) := by
  unfold fiveSecondMark
  split
  · exact balanceTest_keeps k (k.gentle (setGov_gentle rfl rfl rfl) h)
  · exact h

/-! ### All own effects -/

theorem ownEffect_keeps (c : Instr) (h : P s) : P (ownEffect c s) := by
  cases c with
  | indexPulse => exact ite_keeps h (indexAccepted_keeps k h)
  | commPulse => exact ite_keeps h (commAccepted_keeps k h)
  | qualifyingSilence dt src => exact k.gentle (searchAgain_gentle s src) h
  | lossDeadline dt src => exact loseSource_keeps k src h
  | restTimerExpiry => exact ite_keeps (foundAtRest_keeps k h) h
  | samplePoint => exact ite_keeps (k.gentle (samplePointNow_gentle s) h) h
  | sportReadComplete dt frame => exact k.gentle (readComplete_gentle s frame) h
  | holdExpiry => exact holdExpiry_keeps k h
  | bandWaitExpiry => exact bandWaitExpiry_keeps k h
  | fiveSecondMark => exact fiveSecondMark_keeps k h
  | overspeedHistoryExpiry => exact k.gentle (trimHistory_gentle s) h
  | passStart => exact k.passStart h
  | nominalOpen => exact k.nominalOpen h
  | passClose => exact k.passClose h
  | pinLevelChange dt line level => exact k.gentle (pinChange_gentle line level s) h
  | acceptedChange dt line => exact acceptChange_keeps k line h
  | upstreamStart dt port addr read => exact k.gentle (upstreamStart_gentle port s addr read) h
  | memoryAddressByte dt port value => exact k.gentle (addressByte_gentle port s value) h
  | writeDataByte dt port value => exact k.gentle (takeWriteByte_gentle port s value) h
  | readDataByte dt port => exact k.gentle (takeReadByte_gentle port s) h
  | controllerNack dt port => exact k.gentle (nackRead_gentle port s) h
  | repeatedStart dt port addr read => exact k.gentle (upstreamStart_gentle port s addr read) h
  | stopCondition dt port => exact k.gentle (busEnd_gentle port s) h
  | midByteCondition dt cut => exact k.gentle (midByte_gentle cut s) h
  | stretchLimit dt port => exact k.gentle (stretchExpires_gentle port s) h
  | heldBurstIdle dt port => exact k.gentle (idleClose_gentle port s .burst) h
  | readIdle dt port => exact k.gentle (idleClose_gentle port s .read) h
  | memoryDataAck => exact k.gentle (dataAck_gentle s) h
  | memoryReadByte => exact k.gentle (readBack_gentle s) h
  | transferEnd => exact k.gentle (endTransfer_gentle s) h
  | addressRetry => exact k.gentle (retryAddress_gentle s) h
  | transferFailed dt cause => exact failTransfer_keeps k cause h
  | commit => exact k.gentle (commitNow_gentle s) h
  | commitRecordRead => exact completeJob_keeps k (fun _ u hu => k.gentle (commitRecordDone_gentle u _) hu) h
  | carryRead => exact completeJob_keeps k (fun _ u hu => k.gentle (carryReadDone_gentle u _) hu) h
  | carryWrite => exact completeJob_keeps k (fun _ u hu => k.gentle (carryWriteDone_gentle u) hu) h
  | validationRead => exact completeJob_keeps k (fun _ u hu => k.gentle (validationDone_gentle u _) hu) h
  | telemetryAdopt => exact telemetryNow_keeps k h
  | telemetryAgeExpiry => exact ageExpires_keeps k h
  | startPlan => rw [ownEffect]; exact takeUp_keeps k (fun _ => startPlan_keeps k) h
  | stop => rw [ownEffect]; exact takeUp_keeps k (fun _ => stopPlan_keeps k) h
  | halt => rw [ownEffect]; exact takeUp_keeps k (fun _ => k.detect .halt) h
  | resume => rw [ownEffect]; exact takeUp_keeps k (fun _ => resumePlan_keeps k) h
  | dose => rw [ownEffect]; exact takeUp_keeps k (fun _ => doseNow_keeps k) h
  | doseCancel => rw [ownEffect]; exact takeUp_keeps k (fun _ => k.cutQueue .cancel) h
  | lines => rw [ownEffect]; exact takeUp_keeps k (fun u hu => k.gentle (applyLines_gentle _ _ u) hu) h
  | ackFaults => rw [ownEffect]; exact takeUp_keeps k (fun _ => ackFaults_keeps k) h
  | clearCounts => rw [ownEffect]; exact takeUp_keeps k (fun _ hu => k.gentle (setReport_gentle rfl) hu) h
  | restart dt levels => exact restartNow_keeps k levels h
  | reportNow | unknownCode => rw [ownEffect]; exact takeUp_keeps k (fun _ hu => hu) h
  | settingsReread => exact k.gentle (rereadNow_gentle s) h
  | settingsRead => exact completeJob_keeps k (fun _ _ => rereadDone_keeps k _) h
  | adoption => exact adoptPending_keeps k h
  | hardReset dt straps levels acked => exact k.hardReset straps levels acked h
  | startupSettingsRead => exact completeJob_keeps k (fun _ _ => startupReadDone_keeps k _) h
  | startupReadRetry => exact k.gentle (startupRetry_gentle s) h
  | logScanRead => exact completeJob_keeps k (fun _ _ => slotScanned_keeps k _) h
  | reportPeriodExpiry => exact k.gentle (periodExpiry_gentle s) h
  | reportGranuleWrite => exact completeJob_keeps k (fun _ u hu => k.gentle (granuleWritten_gentle u) hu) h
  | logWrite => exact completeJob_keeps k (fun _ _ hu => hu) h

end

theorem Keeps.keptByParts {P : State → Prop} (k : Keeps P) : KeptByParts P where
  queue l h := k.gentle (setPending_gentle _ l) h
  advance dt h := k.gentle (advance_gentle _ dt) h
  own c h := ownEffect_keeps k c h
  deliver h := deliver_keeps k h
  stamp old h := k.gentle (stamp_gentle _ old) h
  settle h := k.gentle (settle_gentle _) h

/-- A law that meets `Keeps` is kept by every step. -/
theorem Keeps.step {P : State → Prop} (k : Keeps P) {s t : State} (h : P s) (run : Machine.step s = .next t) : P t :=
  k.keptByParts.step h run

/-! ### Laws that mind no step and no target -/

/-- What a law has to meet that reads nothing of the governor but its state: beside `KeepsDosing`, every change within a state and every
entry of one. -/
structure KeepsState (P : State → Prop) : Prop extends KeepsDosing P where
  within : ∀ {s : State} {v : Governor}, v.state = s.gov.state → P s → P (s.setGov v)
  enter : ∀ {s : State} (st : GovState) (mv : Move) (target : Nat) (band : Option (Fin 6)), P s → P (enterState st mv target band s)

theorem setRunner_gentle (s : State) (v : Runner) : Gentle s (s.setRunner v) := by simp [Gentle]

section
variable {P : State → Prop} (k : KeepsState P) {s : State}
include k

theorem leaveStep_keepsState (h : P s) : P (leaveStep s) := by
  unfold leaveStep
  dsimp only
  split
  · exact k.gentle (setCeiling_gentle _) (k.within rfl (k.cutQueue _ h))
  · exact h

theorem detect_keepsState (f : FaultKind) (h : P s) : P (detect f s) := by
  have raised {u : State} (hu : P u) : P (raiseFault f u) :=
    k.gentle (raiseFault_gentle u f) hu
  have logged {u : State} (step : Option Nat) (hu : P u) : P (logTrip f step u) := k.gentle (logTrip_gentle u f step) hu
  unfold detect
  dsimp only
  repeat' split
  · exact raised h
  · exact logged _ (raised h)
  · exact abortPlan_keeps k.toKeepsDosing _ (leaveStep_keepsState k (k.cutQueue _ (logged _ (raised (k.enter _ _ _ _ (k.within rfl h))))))
  · exact leaveStep_keepsState k (k.cutQueue _ (logged _ (raised (k.enter _ _ _ _ (k.within rfl h)))))

theorem aimAtStep_keepsState (p : PlanStep) (h : P s) : P (aimAtStep p s) := by
  have held : P (enterHold s) := by
    unfold enterHold
    extract_lets st t
    split
    · exact k.enter _ _ _ _ h
    · exact k.within rfl (k.enter _ _ _ _ h)
  unfold aimAtStep climb enterCross enterRetreat
  dsimp only
  split
  · exact k.within rfl held
  · repeat' split
    all_goals exact k.enter _ _ _ _ h

theorem runBeginTests_keepsState (h : P s) : P (runBeginTests s) := by
  unfold runBeginTests
  extract_lets t₁ t₂
  have stale : P t₁ := by
    unfold t₁; split
    · exact h
    · exact detect_keepsState k _ h
  have fault : P t₂ := by
    unfold t₂; split
    · exact detect_keepsState k _ stale
    · exact stale
  split
  · exact detect_keepsState k _ fault
  · exact fault

theorem stepEntry_keepsState (i : Nat) (h : P s) : P (stepEntry i s) := by
  unfold stepEntry
  split
  · exact h
  · rename_i p _
    extract_lets fromIdle t₁ runner t₂ gov t₃ t₄ t₅
    have cut : P t₁ := by
      unfold t₁; split
      · exact k.cutQueue _ h
      · exact h
    have entered : P t₃ := k.within rfl (k.gentle (setRunner_gentle _ _) cut)
    have aimed : P t₅ := aimAtStep_keepsState k p (k.gentle (setCeiling_gentle _) (by
      split
      · exact k.within rfl entered
      · exact entered))
    split
    · exact runBeginTests_keepsState k aimed
    · exact aimed

end

/-- Such a law is kept by every operation. -/
theorem KeepsState.keeps {P : State → Prop} (k : KeepsState P) : Keeps P where
  toKeepsDosing := k.toKeepsDosing
  goes mv target band _ h := k.enter _ mv target band h
  detect f h := detect_keepsState k f h
  halt h := k.enter _ _ _ _ (k.within rfl (leaveStep_keepsState k h))
  idle _ h := k.within rfl (k.enter _ _ _ _ h)
  stepEntry i _ h := stepEntry_keepsState k i h

end Sys2Proof.Machine

/-! What the dosing unit's operations do to the queue and to the pass in progress, what a change of governor state leaves, and how
far the bounded lists grow: the facts from which each law of Safety.lean meets `Keeps`. -/

namespace Sys2Proof.Machine

open Sys2Proof.Safety Sys2Proof.Statement

/-! ### Orders and the pass in progress -/

/-- R101, R102: an order to which a pass's volume has been accounted. -/
def DoseOrder.accounted (volume : Nat) (o : DoseOrder) : DoseOrder :=
  { o with
    injected := o.injected + volume,
    state := if o.injected + volume = o.ordered then .settling else o.state,
    settle := if o.injected + volume = o.ordered then 0 else o.settle }

/-- R92: an order that has become the head. -/
def DoseOrder.promoted (o : DoseOrder) : DoseOrder := if o.state = .queued then { o with state := .injecting } else o

@[simp] theorem DoseOrder.promoted_volumes (o : DoseOrder) :
    o.promoted.injected = o.injected ∧ o.promoted.ordered = o.ordered := by unfold promoted; split <;> simp

theorem DoseOrder.promoted_state (o : DoseOrder) : o.promoted.state ≠ .queued := by
  unfold promoted
  split
  · simp
  · assumption

theorem DoseOrder.promoted_of_ne {o : DoseOrder} (h : o.state ≠ .queued) : o.promoted = o := if_neg h

theorem DoseOrder.accounted_state {o : DoseOrder} (volume : Nat) (h : o.state ≠ .queued) :
    (o.accounted volume).state ≠ .queued := by
  unfold accounted
  dsimp only
  split
  · simp
  · exact h

section
variable (s : State)

@[simp] theorem promote_queue : (promote s).dosing.queue = s.dosing.queue.modifyHead DoseOrder.promoted := by
  unfold promote DoseOrder.promoted
  split
  · split <;> simp [*]
  · simp [*]

@[simp] theorem promote_pass : (promote s).dosing.pass = s.dosing.pass := by
  unfold promote
  split
  · split <;> rfl
  · rfl

@[simp] theorem addOrder_pass (origin : Origin) (c : Fin 4) (volume : Nat) (capLimited : Bool) :
    (addOrder origin c volume capLimited s).dosing.pass = s.dosing.pass := by simp [addOrder]

/-- R91, R92: a new order stands behind the others, or is the head. -/
theorem addOrder_queue (origin : Origin) (c : Fin 4) (volume : Nat) (capLimited : Bool) :
    ∃ o : DoseOrder, o.state = .queued ∧ o.injected = 0 ∧
      (addOrder origin c volume capLimited s).dosing.queue = (s.dosing.queue ++ [o]).modifyHead DoseOrder.promoted :=
  ⟨_, rfl, rfl, promote_queue _⟩

/-- R101, R102: an accounted pass is over, and its volume is the head order's. -/
@[simp] theorem accountPass_dosing (p : PassRecord) (volume : Nat) :
    (accountPass p volume s).dosing.pass = none ∧
      (accountPass p volume s).dosing.queue = s.dosing.queue.modifyHead (DoseOrder.accounted volume) := by
  unfold accountPass DoseOrder.accounted
  split
  · dsimp only
    split <;> simp [*]
  · simp [*]

theorem closeProRata_of_none {s : State} (h : s.dosing.pass = none) : closeProRata s = s := by simp [closeProRata, h]

@[simp] theorem closeProRata_pass : (closeProRata s).dosing.pass = none := by
  unfold closeProRata
  split
  · simp
  · assumption

@[simp] theorem closeProRata_queue_nil {s : State} (h : s.dosing.queue = []) : (closeProRata s).dosing.queue = [] := by
  unfold closeProRata
  split
  · simp [h]
  · exact h

/-- R101: a pass closed pro rata gives the head order no more than the pass's volume. -/
theorem closeProRata_queue {s : State} {p : PassRecord} (h : s.dosing.pass = some p) :
    ∃ v, v ≤ p.volume ∧ (closeProRata s).dosing.queue = s.dosing.queue.modifyHead (DoseOrder.accounted v) := by
  refine ⟨proRata s p, ?_, by simp [closeProRata, h]⟩
  unfold proRata
  split
  · exact Nat.min_le_right _ _
  · exact Nat.zero_le _

theorem passCheck_cases : passConditions s = true ∧ passCheck s = s ∨ passCheck s = closeProRata s := by
  unfold passCheck
  split
  · exact .inl ⟨‹_›, rfl⟩
  · exact .inr rfl

theorem cutQueue_nil {s : State} (cause : CutCause) (h : s.dosing.queue = []) : cutQueue cause s = s := by simp [cutQueue, h]

/-- R104: a cut of a queue with orders ends them all and the pass. -/
theorem cutQueue_cons {s : State} (cause : CutCause) (h : s.dosing.queue ≠ []) :
    (cutQueue cause s).dosing.queue = [] ∧ (cutQueue cause s).dosing.pass = none ∧
      (cutQueue cause s).lines = (askFill false (closeProRata s)).lines := by
  unfold cutQueue
  split
  · contradiction
  · simp

/-- R92, R103: at a boundary report a SETTLING head is DONE and the next order is the head, or it has settled once more. -/
theorem countSettle_cases :
    (countSettle s).dosing.queue = s.dosing.queue ∨
      ∃ o rest, s.dosing.queue = o :: rest ∧ o.state = .settling ∧
        ((countSettle s).dosing.queue = rest.modifyHead DoseOrder.promoted ∨
          ∃ o' : DoseOrder, (countSettle s).dosing.queue = o' :: rest ∧ o'.state = o.state ∧
            o'.injected = o.injected ∧ o'.ordered = o.ordered) := by
  unfold countSettle
  split
  · rename_i o rest queue
    split
    · rename_i settling
      refine .inr ⟨o, rest, queue, settling, ?_⟩
      split
      · exact .inl (by simp)
      · exact .inr ⟨{ o with settle := o.settle + 1 }, by simp [setHead, queue], rfl, rfl, rfl⟩
    · exact .inl rfl
  · exact .inl rfl

@[simp] theorem countSettle_pass : (countSettle s).dosing.pass = s.dosing.pass := by
  unfold countSettle setHead
  repeat' split
  all_goals simp

/-- R100: the order that a pass starts for is the INJECTING head, and no pass is in progress. -/
theorem startingOrder_eq {s : State} {o : DoseOrder} (h : startingOrder s = some o) :
    s.dosing.queue.head? = some o ∧ s.dosing.pass = none ∧ o.state = .injecting := by
  unfold startingOrder at h
  split at h
  · split at h
    · rename_i head none inject
      obtain rfl := Option.some.inj h
      exact ⟨head, none, inject.1⟩
    · exact absurd h (by simp)
  · exact absurd h (by simp)

/-- R99, R100: a pass is no larger than what its order still has to inject. -/
theorem passRecordFor_volume (o : DoseOrder) : (passRecordFor s o).volume ≤ o.ordered - o.injected := by
  unfold passRecordFor
  extract_lets d v opening nominal r full lag
  split
  · assumption
  · exact Nat.le_refl _

/-- R100: a pass starts at the INJECTING head's opening angle under the pass conditions; else neither pass nor lines change. -/
theorem passStart_cases :
    ((passStart s).dosing.pass = s.dosing.pass ∧ (passStart s).lines = s.lines) ∨
      ∃ o t, startingOrder s = some o ∧ passConditions s = true ∧ passStart s = askFill true t ∧
        t.dosing.pass = some (passRecordFor s o) ∧ t.gov = s.gov ∧ t.lines = s.lines ∧ t.settings = s.settings := by
  unfold passStart
  split
  · rename_i o head
    split
    · rename_i conditions
      exact .inr ⟨o, _, head, conditions, rfl, by simp [keepAngle], by simp, by simp, by simp⟩
    · exact .inl ⟨by simp [takeAngle], by simp⟩
  · exact .inl ⟨rfl, rfl⟩

@[simp] theorem passStart_queue : (passStart s).dosing.queue = s.dosing.queue := by
  unfold passStart
  (repeat' split) <;> simp [keepAngle, takeAngle]

/-- R100: the nominal open angle marks the time in the pass record. -/
theorem nominalOpen_pass :
    (nominalOpen s).dosing.pass = s.dosing.pass ∨
      ∃ p p' : PassRecord, s.dosing.pass = some p ∧ (nominalOpen s).dosing.pass = some p' ∧ p'.volume = p.volume := by
  unfold nominalOpen
  split
  · rename_i p pass
    split
    · exact .inr ⟨p, _, pass, rfl, rfl⟩
    · exact .inl rfl
  · exact .inl rfl

@[simp] theorem nominalOpen_queue : (nominalOpen s).dosing.queue = s.dosing.queue := by
  unfold nominalOpen
  (repeat' split) <;> simp [keepAngle]

@[simp] theorem nominalOpen_lines : (nominalOpen s).lines = s.lines := by
  unfold nominalOpen
  (repeat' split) <;> simp [keepAngle]

/-- R102: a pass that ends gives the head order its full volume. -/
theorem passClose_cases :
    passClose s = s ∨
      ∃ p, s.dosing.pass = some p ∧ (passClose s).dosing.pass = none ∧
        (passClose s).dosing.queue = s.dosing.queue.modifyHead (DoseOrder.accounted p.volume) ∧
        (passClose s).lines = (askFill false (takeAngle p.closing s)).lines := by
  unfold passClose
  split
  · rename_i p pass
    split
    · exact .inr ⟨p, pass, by simp, by simp [takeAngle], by simp⟩
    · exact .inl rfl
  · exact .inl rfl

end

/-! ### Changes of governor state -/

/-- R61: the governor asks for LOCK_REQ low when it enters IDLE and for high when it leaves it. -/
def lockFollows (old new : GovState) (s : State) : State :=
  if new = .idle then askLock false s else if old = .idle then askLock true s else s

/-- R59, R61, R101: what the entry to a governor state comes to. -/
theorem enterState_eq (st : GovState) (mv : Move) (target : Nat) (band : Option (Fin 6)) (s : State) :
    ∃ g : Governor,
      (enterState st mv target band s =
        if st ≠ s.gov.state then passCheck (lockFollows s.gov.state st (trigger (s.setGov g))) else s.setGov g) ∧
      g.state = st ∧ g.target = target ∧ g.step = s.gov.step :=
  ⟨_, rfl, rfl, rfl, rfl⟩

@[simp] theorem lockFollows_frame (old new : GovState) (s : State) :
    (lockFollows old new s).gov = s.gov ∧ (lockFollows old new s).dosing = s.dosing ∧
      (lockFollows old new s).settings = s.settings ∧ (lockFollows old new s).report = s.report ∧
      (lockFollows old new s).est = s.est ∧ (lockFollows old new s).cport = s.cport ∧
      (lockFollows old new s).dport = s.dport := by
  unfold lockFollows
  repeat' split
  all_goals simp

/-- The governor's state, target and step after the entry to a state. -/
@[simp] theorem enterState_gov (st : GovState) (mv : Move) (target : Nat) (band : Option (Fin 6)) (s : State) :
    (enterState st mv target band s).gov.state = st ∧ (enterState st mv target band s).gov.target = target ∧
      (enterState st mv target band s).gov.step = s.gov.step := by
  obtain ⟨g, entered, state, aim, step⟩ := enterState_eq st mv target band s
  rw [entered]
  split <;> simp [*]

end Sys2Proof.Machine

/-! The laws of the dose queue (R91, R92), of the bounded lists (R20, R28, R180, R194), of the orders (R98 to R102) and of L0 and L1
(R61, R100 to R102, R110): each meets `KeepsState`, and so every step keeps it. -/

namespace Sys2Proof.Machine

open Sys2Proof.Safety Sys2Proof.Statement

/-! ### The law of the queue -/

/-- The law of the queue, as a proposition about the queue. -/
def QueueOk (q : List DoseOrder) : Prop :=
  q.length ≤ 8 ∧ (∀ o ∈ q.head?, o.state ≠ .queued) ∧ ∀ o ∈ q.tail, o.state = .queued

theorem queueLaw_iff (s : State) : queueLaw s = true ↔ QueueOk s.dosing.queue := by
  unfold queueLaw QueueOk
  cases s.dosing.queue <;> simp

theorem QueueOk.nil : QueueOk [] := by simp [QueueOk]

theorem QueueOk.accounted {q : List DoseOrder} (volume : Nat) (h : QueueOk q) :
    QueueOk (q.modifyHead (DoseOrder.accounted volume)) := by
  cases q with
  | nil => exact h
  | cons o rest =>
    obtain ⟨bound, head, behind⟩ := h
    exact ⟨bound, by simpa using DoseOrder.accounted_state volume (head o rfl), behind⟩

/-- R92: orders of which all but the head are known to be QUEUED, once the head is promoted. -/
theorem QueueOk.promoted {q : List DoseOrder} (bound : q.length ≤ 8) (behind : ∀ o ∈ q.tail, o.state = .queued) :
    QueueOk (q.modifyHead DoseOrder.promoted) := by
  cases q with
  | nil => exact nil
  | cons o rest => exact ⟨bound, by simpa using o.promoted_state, behind⟩

theorem QueueOk.closeProRata {s : State} (h : QueueOk s.dosing.queue) : QueueOk (closeProRata s).dosing.queue := by
  cases pass : s.dosing.pass with
  | none => rwa [closeProRata_of_none pass]
  | some p =>
    obtain ⟨v, -, queue⟩ := closeProRata_queue pass
    rw [queue]
    exact h.accounted v

theorem QueueOk.passCheck {s : State} (h : QueueOk s.dosing.queue) : QueueOk (passCheck s).dosing.queue := by
  obtain ⟨-, same⟩ | closed := passCheck_cases s
  · rwa [same]
  · rw [closed]; exact h.closeProRata

theorem QueueOk.countSettle {s : State} (h : QueueOk s.dosing.queue) : QueueOk (countSettle s).dosing.queue := by
  obtain same | ⟨o, rest, queue, settling, promoted | ⟨o', queue', state, -, -⟩⟩ := countSettle_cases s
  · rwa [same]
  · rw [queue] at h
    obtain ⟨bound, -, behind⟩ := h
    rw [promoted]
    exact .promoted (by simp at bound; omega) fun x hx => behind x (List.mem_of_mem_tail hx)
  · rw [queue] at h
    obtain ⟨bound, -, behind⟩ := h
    rw [queue']
    exact ⟨bound, by simp [state, settling], behind⟩

theorem QueueOk.addOrder {s : State} (origin : Origin) (c : Fin 4) (volume : Nat) (capLimited : Bool)
    (room : s.dosing.queue.length < 8) (h : QueueOk s.dosing.queue) :
    QueueOk (addOrder origin c volume capLimited s).dosing.queue := by
  obtain ⟨o, state, -, added⟩ := addOrder_queue s origin c volume capLimited
  rw [added]
  refine .promoted (by simp; omega) ?_
  cases queue : s.dosing.queue with
  | nil => simp
  | cons head rest =>
    rw [queue] at h
    simpa [or_imp, forall_and, state] using h.2.2

theorem QueueOk.keepsState : KeepsState fun s => QueueOk s.dosing.queue where
  gentle := by
    rintro s t ⟨-, -, -, queue, -⟩ h
    rwa [queue]
  passCheck := QueueOk.passCheck
  cutQueue {s} cause h := by
    by_cases empty : s.dosing.queue = []
    · rwa [cutQueue_nil cause empty]
    · rw [(cutQueue_cons cause empty).1]; exact .nil
  countSettle := QueueOk.countSettle
  addOrder := QueueOk.addOrder
  passStart h := by rwa [passStart_queue]
  nominalOpen h := by rwa [nominalOpen_queue]
  passClose {s} h := by
    obtain same | ⟨p, -, -, queue, -⟩ := passClose_cases s
    · rwa [same]
    · rw [queue]; exact h.accounted _
  openDevice h := by simpa using h
  restart _ _ := .nil
  hardReset _ _ _ _ := .nil
  within _ h := h
  enter {s} st mv target band h := by
    obtain ⟨g, entered, -⟩ := enterState_eq st mv target band s
    rw [entered]
    split
    · exact QueueOk.passCheck (by simpa using h)
    · exact h

/-- Settles O6. -/
theorem doseQueueLawKept : Obligations.DoseQueueLawKept := by
  intro s t h next
  rw [queueLaw_iff] at h ⊢
  exact QueueOk.keepsState.keeps.step h next

/-! ### The bounds of the lists -/

/-- Each bounded list grows to its bound at most. -/
def Grows (s t : State) : Prop :=
  t.report.queue.length ≤ max 8 s.report.queue.length ∧
    t.cport.post.length ≤ max 32 s.cport.post.length ∧ t.dport.post.length ≤ max 32 s.dport.post.length ∧
    t.est.waiting.length ≤ max 4 s.est.waiting.length ∧ t.est.window.length ≤ max 16 s.est.window.length

theorem Gentle.grows {s t : State} : Gentle s t → Grows s t := by
  rintro ⟨-, -, -, -, -, -, -, -, -, -, report, cpost, dpost, waiting, window⟩
  exact ⟨report, cpost, dpost, waiting, window⟩

theorem Grows.refl (s : State) : Grows s s := (Gentle.refl s).grows

theorem Grows.trans {s t u : State} (h : Grows s t) (k : Grows t u) : Grows s u := by
  unfold Grows at *
  omega

/-- A change outside the report unit, the ports and the estimator. -/
theorem Grows.of_eq {s t : State} (report : t.report = s.report) (cport : t.cport = s.cport) (dport : t.dport = s.dport)
    (est : t.est = s.est) : Grows s t := by simp [Grows, *]

theorem buffersBounded_iff (s : State) :
    buffersBounded s = true ↔ s.report.queue.length ≤ 8 ∧ s.cport.post.length ≤ 32 ∧ s.dport.post.length ≤ 32 ∧
      s.est.waiting.length ≤ 4 ∧ s.est.window.length ≤ 16 := by
  simp only [buffersBounded, Bool.and_eq_true, decide_eq_true_eq, and_assoc]
  rfl

theorem Grows.bounded {s t : State} (h : Grows s t) (b : buffersBounded s = true) : buffersBounded t = true := by
  rw [buffersBounded_iff] at *
  unfold Grows at h
  omega

section
variable (s : State)

theorem accountPass_grows (p : PassRecord) (volume : Nat) : Grows s (accountPass p volume s) := by
  unfold accountPass
  split
  · dsimp only
    split
    · exact (Grows.of_eq (by simp) (by simp) (by simp) (by simp)).trans (takeStaleMark_gentle _ _).grows
    · exact .of_eq (by simp) (by simp) (by simp) (by simp)
  · exact .of_eq rfl rfl rfl rfl

theorem closeProRata_grows : Grows s (closeProRata s) := by
  unfold closeProRata
  split
  · have asked : Grows s (askFill false s) := .of_eq (by simp) (by simp) (by simp) (by simp)
    exact (asked.trans (accountPass_grows _ _ _)).trans (.of_eq rfl rfl rfl rfl)
  · exact .refl s

theorem passCheck_grows : Grows s (passCheck s) := by
  obtain ⟨-, same⟩ | closed := passCheck_cases s
  · rw [same]; exact .refl s
  · rw [closed]; exact closeProRata_grows s

theorem cutQueue_grows (cause : CutCause) : Grows s (cutQueue cause s) := by
  unfold cutQueue
  split
  · exact .refl s
  · have low : Grows (closeProRata s) (askFill false (closeProRata s)) := .of_eq (by simp) (by simp) (by simp) (by simp)
    exact ((closeProRata_grows s).trans low).trans ((Grows.of_eq rfl rfl rfl rfl).trans (askLog_gentle _ _).grows)

theorem promote_grows : Grows s (promote s) := .of_eq (by simp) (by simp) (by simp) (by simp)

theorem countSettle_grows : Grows s (countSettle s) := by
  unfold countSettle
  repeat' split
  · refine Grows.trans ?_ (promote_grows _)
    exact Grows.trans (.of_eq rfl rfl rfl rfl) (askLog_gentle _ _).grows
  · exact .of_eq rfl rfl rfl rfl
  · exact .refl s
  · exact .refl s

theorem passClose_grows : Grows s (passClose s) := by
  unfold passClose
  repeat' split
  · exact (Grows.of_eq (by simp [takeAngle]) (by simp [takeAngle]) (by simp [takeAngle]) (by simp [takeAngle])).trans
      (accountPass_grows _ _ _)
  · exact .refl s
  · exact .refl s

theorem openDevice_grows : Grows s (openDevice s) := by
  unfold openDevice
  extract_lets opened report started log
  have timed : Grows s started := by simp [Grows, started, report, opened]
  have logged : Grows s log := by
    unfold log
    split
    · exact timed.trans (askLog_gentle _ _).grows
    · exact timed
  exact logged.trans ((Grows.of_eq rfl rfl rfl rfl).trans (trigger_gentle _).grows)

end

theorem buffersBounded_keepsState : KeepsState fun s => buffersBounded s = true where
  gentle h := h.grows.bounded
  passCheck := (passCheck_grows _).bounded
  cutQueue cause := (cutQueue_grows _ cause).bounded
  countSettle := (countSettle_grows _).bounded
  addOrder _ _ _ _ _ := (Grows.of_eq (by simp) (by simp) (by simp) (by simp)).bounded
  passStart := (Grows.of_eq (by simp) (by simp) (by simp) (by simp)).bounded
  nominalOpen := (Grows.of_eq (by simp) (by simp) (by simp) (by simp)).bounded
  passClose := (passClose_grows _).bounded
  openDevice := (openDevice_grows _).bounded
  restart {s} levels h := by
    rw [buffersBounded_iff] at *
    obtain ⟨report, cpost, dpost, -, -⟩ := h
    exact ⟨report, cpost, dpost, Nat.zero_le _, Nat.zero_le _⟩
  hardReset _ _ _ _ := by
    rw [buffersBounded_iff]
    exact ⟨Nat.zero_le _, Nat.zero_le _, Nat.zero_le _, Nat.zero_le _, Nat.zero_le _⟩
  within _ := (Grows.of_eq rfl rfl rfl rfl).bounded
  enter {s} st mv target band h := by
    obtain ⟨g, entered, -⟩ := enterState_eq st mv target band s
    rw [entered]
    split
    · have run : Grows s (trigger (s.setGov g)) := (Grows.of_eq rfl rfl rfl rfl).trans (trigger_gentle _).grows
      exact ((run.trans (.of_eq (by simp) (by simp) (by simp) (by simp))).trans (passCheck_grows _)).bounded h
    · exact (Grows.of_eq rfl rfl rfl rfl).bounded h

/-- Settles O5. -/
theorem bufferBoundsKept : Obligations.BufferBoundsKept :=
  fun _ _ h next => buffersBounded_keepsState.keeps.step h next

end Sys2Proof.Machine

/-! The law of the orders (R98 to R102) and the law of L0 and L1 (R61, R100 to R102, R109, R110). -/

namespace Sys2Proof.Machine

open Sys2Proof.Safety Sys2Proof.Statement

/-! ### The law of the orders -/

/-- The law of the orders but for the governor's state: no order has more injected than ordered, and a pass in progress belongs to an
INJECTING head with room for its volume. -/
def OrdersOk (s : State) : Prop :=
  (∀ o ∈ s.dosing.queue, o.injected ≤ o.ordered) ∧
    ∀ p ∈ s.dosing.pass, ∃ o ∈ s.dosing.queue.head?, o.state = .injecting ∧ o.injected + p.volume ≤ o.ordered

/-- The law of the orders, as a proposition. -/
def OrderOk (s : State) : Prop := OrdersOk s ∧ (s.dosing.pass.isSome = true → atTarget s = true)

theorem orderLaw_iff (s : State) : orderLaw s = true ↔ OrderOk s := by
  unfold orderLaw OrderOk OrdersOk
  cases s.dosing.pass <;> cases s.dosing.queue <;> simp [and_assoc]

theorem atTarget_of_gov {s t : State} (h : t.gov.state = s.gov.state) : atTarget t = atTarget s := by simp [atTarget, h]

theorem passConditions_atTarget {s : State} (h : passConditions s = true) : atTarget s = true := by
  simp only [passConditions, Bool.and_eq_true] at h
  exact h.1.1.1.1.1

/-- With no pass in progress the law is about the volumes alone. -/
theorem OrderOk.of_none {s : State} (pass : s.dosing.pass = none) (volumes : ∀ o ∈ s.dosing.queue, o.injected ≤ o.ordered) :
    OrderOk s := ⟨⟨volumes, by simp [pass]⟩, by simp [pass]⟩

theorem OrdersOk.of_dosing {s t : State} (dosing : t.dosing = s.dosing) (h : OrdersOk s) : OrdersOk t := by
  unfold OrdersOk
  rwa [dosing]

theorem OrderOk.of_same {s t : State} (queue : t.dosing.queue = s.dosing.queue) (pass : t.dosing.pass = s.dosing.pass)
    (state : t.gov.state = s.gov.state) (h : OrderOk s) : OrderOk t := by
  unfold OrderOk OrdersOk
  rwa [queue, pass, atTarget_of_gov state]

/-- R101, R102: a volume for which the head has room keeps every order's injected volume within the ordered one. -/
theorem volumes_accounted {q : List DoseOrder} {v : Nat} (volumes : ∀ o ∈ q, o.injected ≤ o.ordered)
    (room : ∀ o ∈ q.head?, o.injected + v ≤ o.ordered) :
    ∀ o ∈ q.modifyHead (DoseOrder.accounted v), o.injected ≤ o.ordered := by
  cases q with
  | nil => exact volumes
  | cons head rest =>
    intro o ho
    obtain rfl | behind := List.mem_cons.1 ho
    · exact room head rfl
    · exact volumes o (.tail _ behind)

theorem volumes_promoted {q : List DoseOrder} (volumes : ∀ o ∈ q, o.injected ≤ o.ordered) :
    ∀ o ∈ q.modifyHead DoseOrder.promoted, o.injected ≤ o.ordered := by
  cases q with
  | nil => exact volumes
  | cons head rest => simpa using volumes

/-- The head order has room for the pass in progress, and so for less. -/
theorem OrdersOk.room {s : State} {p : PassRecord} {v : Nat} (h : OrdersOk s) (pass : s.dosing.pass = some p) (least : v ≤ p.volume) :
    ∀ o ∈ s.dosing.queue.head?, o.injected + v ≤ o.ordered := by
  obtain ⟨o, head, -, room⟩ := h.2 p pass
  intro x hx
  obtain rfl : o = x := Option.some.inj (head.symm.trans hx)
  omega

theorem OrdersOk.closeProRata {s : State} (h : OrdersOk s) : OrderOk (closeProRata s) := by
  cases pass : s.dosing.pass with
  | none => rw [closeProRata_of_none pass]; exact .of_none pass h.1
  | some p =>
    obtain ⟨v, least, queue⟩ := closeProRata_queue pass
    exact .of_none (closeProRata_pass s) (by rw [queue]; exact volumes_accounted h.1 (h.room pass least))

/-- R101: the pass check leaves a pass in progress at a target only. -/
theorem OrdersOk.passCheck {s : State} (h : OrdersOk s) : OrderOk (passCheck s) := by
  obtain ⟨conditions, same⟩ | closed := passCheck_cases s
  · rw [same]; exact ⟨h, fun _ => passConditions_atTarget conditions⟩
  · rw [closed]; exact h.closeProRata

theorem OrderOk.countSettle {s : State} (h : OrderOk s) : OrderOk (countSettle s) := by
  obtain same | ⟨o, rest, queue, settling, moved⟩ := countSettle_cases s
  · exact .of_same same (countSettle_pass s) (by simp) h
  · have volumes := h.1.1
    have pass : s.dosing.pass = none := by
      refine Option.eq_none_iff_forall_ne_some.2 fun p pass => ?_
      obtain ⟨x, head, injecting, -⟩ := h.1.2 p pass
      simp_all
    refine .of_none ((countSettle_pass s).trans pass) ?_
    rw [queue, List.forall_mem_cons] at volumes
    obtain promoted | ⟨o', queue', -, injected, ordered⟩ := moved
    · rw [promoted]; exact volumes_promoted volumes.2
    · rw [queue', List.forall_mem_cons, injected, ordered]; exact volumes

theorem OrderOk.addOrder {s : State} (origin : Origin) (c : Fin 4) (volume : Nat) (capLimited : Bool) (h : OrderOk s) :
    OrderOk (addOrder origin c volume capLimited s) := by
  obtain ⟨o, state, empty, queue⟩ := addOrder_queue s origin c volume capLimited
  obtain ⟨⟨volumes, head⟩, target⟩ := h
  refine ⟨⟨?_, fun p pass => ?_⟩, ?_⟩
  · rw [queue]
    refine volumes_promoted fun x hx => ?_
    obtain old | new := List.mem_append.1 hx
    · exact volumes x old
    · obtain rfl := List.mem_singleton.1 new
      omega
  · rw [addOrder_pass] at pass
    obtain ⟨x, first, injecting, room⟩ := head p pass
    refine ⟨x, ?_, injecting, room⟩
    rw [queue]
    cases front : s.dosing.queue with
    | nil => simp [front] at first
    | cons y rest =>
      obtain rfl : y = x := by simpa [front] using first
      simp [DoseOrder.promoted_of_ne, injecting]
  · rw [addOrder_pass, atTarget_of_gov (s := s) (by simp)]; exact target

theorem OrderOk.passStart {s : State} (h : OrderOk s) : OrderOk (passStart s) := by
  obtain ⟨pass, -⟩ | ⟨o, t, start, conditions, started, pass, -⟩ := passStart_cases s
  · exact .of_same (passStart_queue s) pass (by simp) h
  · obtain ⟨head, -, injecting⟩ := startingOrder_eq start
    obtain ⟨⟨volumes, -⟩, -⟩ := h
    have within : o.injected ≤ o.ordered := volumes o (List.mem_of_mem_head? head)
    have room := passRecordFor_volume s o
    have record : (Machine.passStart s).dosing.pass = some (passRecordFor s o) := by rw [started]; simpa using pass
    refine ⟨⟨by simpa using volumes, fun p hp => ?_⟩, fun _ => ?_⟩
    · obtain rfl : passRecordFor s o = p := Option.some.inj (record.symm.trans hp)
      exact ⟨o, by simpa using head, injecting, by omega⟩
    · rw [atTarget_of_gov (s := s) (by simp)]
      exact passConditions_atTarget conditions

theorem OrderOk.nominalOpen {s : State} (h : OrderOk s) : OrderOk (nominalOpen s) := by
  obtain same | ⟨p, p', pass, pass', volume⟩ := nominalOpen_pass s
  · exact .of_same (nominalOpen_queue s) same (by simp) h
  · obtain ⟨⟨volumes, head⟩, target⟩ := h
    refine ⟨⟨by simpa using volumes, fun q hq => ?_⟩, fun _ => ?_⟩
    · obtain rfl : p' = q := Option.some.inj (pass'.symm.trans hq)
      simpa [volume] using head p pass
    · rw [atTarget_of_gov (s := s) (by simp)]
      exact target (by simp [pass])

theorem OrderOk.passClose {s : State} (h : OrderOk s) : OrderOk (passClose s) := by
  obtain same | ⟨p, pass, none, queue, -⟩ := passClose_cases s
  · rwa [same]
  · exact .of_none none (by rw [queue]; exact volumes_accounted h.1.1 (h.1.room pass (Nat.le_refl _)))

theorem OrderOk.keepsState : KeepsState OrderOk where
  gentle {s t} same h := by
    obtain ⟨state, -, -, queue, pass, -⟩ := same
    exact h.of_same queue pass state
  passCheck h := h.1.passCheck
  cutQueue {s} cause h := by
    by_cases empty : s.dosing.queue = []
    · rwa [cutQueue_nil cause empty]
    · obtain ⟨queue, pass, -⟩ := cutQueue_cons cause empty
      exact .of_none pass (by simp [queue])
  countSettle := OrderOk.countSettle
  addOrder origin c volume capLimited _ := OrderOk.addOrder origin c volume capLimited
  passStart := OrderOk.passStart
  nominalOpen := OrderOk.nominalOpen
  passClose := OrderOk.passClose
  openDevice h := h.of_same (by simp) (by simp) (by simp)
  restart _ _ := .of_none rfl (by simp [resetSoft, Dosing.reset])
  hardReset _ _ _ _ := .of_none rfl (by simp [resetHard, State.reset, Dosing.reset])
  within {s v} state h := h.of_same (s := s) (t := s.setGov v) rfl rfl state
  enter {s} st mv target band h := by
    obtain ⟨g, entered, state, -⟩ := enterState_eq st mv target band s
    rw [entered]
    split
    · exact (h.1.of_dosing (by simp)).passCheck
    · rename_i same
      exact h.of_same (s := s) (t := s.setGov g) rfl rfl (state.trans (Classical.not_not.1 same))

/-- Settles O7. -/
theorem orderLawKept : Obligations.OrderLawKept := by
  intro s t h next
  rw [orderLaw_iff] at h ⊢
  exact OrderOk.keepsState.keeps.step h next

/-! ### The law of L0 and L1 -/

/-- L0 and L1 are outputs, their owners have last asked for these levels, and outside start-up their latches are at them. -/
def LinesFollow (s : State) (fill lock : Bool) : Prop :=
  s.lines.line[0].output = true ∧ s.lines.line[1].output = true ∧ s.lines.askFill.getD false = fill ∧
    s.lines.askLock = some lock ∧ (started s = true → s.lines.line[0].latch = fill ∧ s.lines.line[1].latch = lock)

/-- The law of L0 and L1, as a proposition. -/
def LineOk (s : State) : Prop := LinesFollow s s.dosing.pass.isSome (s.gov.state != .idle)

theorem lineLaw_iff (s : State) : lineLaw s = true ↔ LineOk s := by
  unfold lineLaw LineOk LinesFollow
  cases started s <;> simp [and_assoc]

theorem LinesFollow.of_lines {s t : State} {fill lock : Bool} (lines : t.lines = s.lines)
    (startup : t.settings.startup = s.settings.startup) (h : LinesFollow s fill lock) : LinesFollow t fill lock := by
  unfold LinesFollow started
  rw [lines, startup]
  exact h

/-- R110: FILL goes to the level that the dosing unit asks for. -/
theorem LinesFollow.askFill {s : State} {fill lock : Bool} (level : Bool) (h : LinesFollow s fill lock) :
    LinesFollow (askFill level s) level lock := by
  obtain ⟨out0, out1, -, asked, driven⟩ := h
  unfold Machine.askFill
  dsimp only
  split
  · rename_i start
    exact ⟨by simpa [setLine] using out0, by simpa [setLine] using out1, by simp [setLine], by simpa [setLine] using asked,
      fun _ => ⟨by simp [setLine, out0], by simpa [setLine] using (driven start).2⟩⟩
  · rename_i start
    exact ⟨out0, out1, rfl, asked, fun go => absurd go start⟩

/-- R110: LOCK_REQ goes to the level that the governor asks for. -/
theorem LinesFollow.askLock {s : State} {fill lock : Bool} (level : Bool) (h : LinesFollow s fill lock) :
    LinesFollow (askLock level s) fill level := by
  obtain ⟨out0, out1, asked, -, driven⟩ := h
  unfold Machine.askLock
  dsimp only
  split
  · rename_i start
    exact ⟨by simpa [setLine] using out0, by simpa [setLine] using out1, by simpa [setLine] using asked, by simp [setLine],
      fun _ => ⟨by simpa [setLine] using (driven start).1, by simp [setLine, out1]⟩⟩
  · rename_i start
    exact ⟨out0, out1, asked, rfl, fun go => absurd go start⟩

/-- R61: LOCK_REQ follows the governor's state. -/
theorem LinesFollow.lockFollows {s : State} {fill : Bool} (old new : GovState) (h : LinesFollow s fill (old != .idle)) :
    LinesFollow (lockFollows old new s) fill (new != .idle) := by
  unfold Machine.lockFollows
  split
  · rename_i idle
    subst idle
    exact h.askLock false
  · rename_i busy
    split
    · rw [bne_iff_ne.2 busy]; exact h.askLock true
    · rename_i wasBusy
      rwa [bne_iff_ne.2 busy, ← bne_iff_ne.2 wasBusy]

theorem LinesFollow.closeProRata {s : State} {lock : Bool} (h : LinesFollow s s.dosing.pass.isSome lock) :
    LinesFollow (closeProRata s) false lock := by
  cases pass : s.dosing.pass with
  | none => rw [closeProRata_of_none pass]; simpa [pass] using h
  | some p => exact (h.askFill false).of_lines (by simp [Machine.closeProRata, pass]) (by simp)

theorem LineOk.closeProRata {s : State} (h : LineOk s) : LineOk (closeProRata s) := by
  simpa [LineOk] using LinesFollow.closeProRata h

theorem LineOk.passCheck {s : State} (h : LineOk s) : LineOk (passCheck s) := by
  obtain ⟨-, same⟩ | closed := passCheck_cases s
  · rwa [same]
  · rw [closed]; exact h.closeProRata

theorem LineOk.of_same {s t : State} (lines : t.lines = s.lines) (startup : t.settings.startup = s.settings.startup)
    (pass : t.dosing.pass.isSome = s.dosing.pass.isSome) (state : t.gov.state = s.gov.state) (h : LineOk s) : LineOk t := by
  unfold LineOk
  rw [pass, state]
  exact LinesFollow.of_lines lines startup h

theorem LineOk.passStart {s : State} (h : LineOk s) : LineOk (passStart s) := by
  obtain ⟨pass, lines⟩ | ⟨o, t, -, -, started, pass, gov, lines, settings⟩ := passStart_cases s
  · exact h.of_same lines (by simp) (by rw [pass]) (by simp)
  · have driven := (LinesFollow.of_lines lines (by rw [settings]) h).askFill true
    rw [started]
    unfold LineOk
    simpa [pass, gov] using driven

theorem LineOk.nominalOpen {s : State} (h : LineOk s) : LineOk (nominalOpen s) := by
  refine h.of_same (by simp) (by simp) ?_ (by simp)
  obtain same | ⟨p, p', pass, pass', -⟩ := nominalOpen_pass s
  · rw [same]
  · rw [pass, pass']; rfl

theorem LineOk.passClose {s : State} (h : LineOk s) : LineOk (passClose s) := by
  obtain same | ⟨p, -, pass, -, lines⟩ := passClose_cases s
  · rwa [same]
  · have angle : LinesFollow (takeAngle p.closing s) s.dosing.pass.isSome (s.gov.state != .idle) :=
      LinesFollow.of_lines (by simp) (by simp) h
    unfold LineOk
    rw [pass]
    simpa using (angle.askFill false).of_lines (t := Machine.passClose s) lines (by simp)

/-- R110: at the end of start-up both lines are driven to the levels asked for. -/
theorem LineOk.openDevice {s : State} (h : LineOk s) : LineOk (openDevice s) := by
  obtain ⟨out0, out1, fill, lock, -⟩ := h
  have lines : (Machine.openDevice s).lines = (driveAsked (openTiming s)).lines := by
    unfold Machine.openDevice
    dsimp only
    split <;> simp
  unfold LineOk LinesFollow
  rw [lines]
  simp [driveAsked, setLine, out0, out1, fill, lock]

/-- R110, R121: after a reset the governor, being in STOPPING, asks for LOCK_REQ high. -/
theorem LineOk.of_reset {s : State} {levels : BitVec 8} (lines : s.lines = .reset levels) (state : s.gov.state = .stopping)
    (pass : s.dosing.pass = none) (starting : started s = false) : LineOk s := by
  unfold LineOk LinesFollow
  rw [lines, state, pass, starting]
  simp [Lines.reset]

theorem LineOk.keepsState : KeepsState LineOk where
  gentle {s t} same h := by
    obtain ⟨state, -, -, -, pass, fill, lock, line0, line1, startup, -⟩ := same
    obtain ⟨out0, out1, askedFill, askedLock, driven⟩ := h
    unfold LineOk LinesFollow
    rw [pass, state, fill, lock, line0.2, line1.2]
    exact ⟨line0.1 out0, line1.1 out1, askedFill, askedLock, fun go => driven (by
      simp only [started, beq_iff_eq] at go ⊢; exact startup go)⟩
  passCheck := LineOk.passCheck
  cutQueue {s} cause h := by
    by_cases empty : s.dosing.queue = []
    · rwa [cutQueue_nil cause empty]
    · obtain ⟨-, pass, lines⟩ := cutQueue_cons cause empty
      unfold LineOk
      rw [pass]
      simpa using ((LinesFollow.closeProRata h).askFill false).of_lines (t := cutQueue cause s) lines (by simp)
  countSettle h := h.of_same (by simp) (by simp) (by simp) (by simp)
  addOrder _ _ _ _ _ h := h.of_same (by simp) (by simp) (by simp) (by simp)
  passStart := LineOk.passStart
  nominalOpen := LineOk.nominalOpen
  passClose := LineOk.passClose
  openDevice := LineOk.openDevice
  restart levels _ := .of_reset (levels := levels) rfl rfl rfl (by simp [started, resetSoft, SettingsUnit.reset])
  hardReset _ levels _ _ :=
    .of_reset (levels := levels) rfl rfl rfl (by simp [started, resetHard, State.reset, SettingsUnit.reset])
  within {s v} state h := h.of_same (s := s) (t := s.setGov v) rfl rfl rfl state
  enter {s} st mv target band h := by
    obtain ⟨g, entered, state, -⟩ := enterState_eq st mv target band s
    rw [entered]
    split
    · refine LineOk.passCheck ?_
      have follows := (LinesFollow.of_lines (t := trigger (s.setGov g)) (by simp) (by simp) h).lockFollows s.gov.state st
      unfold LineOk
      simpa [state] using follows
    · rename_i same
      exact h.of_same (s := s) (t := s.setGov g) rfl rfl rfl (state.trans (Classical.not_not.1 same))

/-- Settles O9. -/
theorem lineLawKept : Obligations.LineLawKept := by
  intro s t h next
  rw [lineLaw_iff] at h ⊢
  exact LineOk.keepsState.keeps.step h next

end Sys2Proof.Machine

/-! The law of rest (R60, R63, R72, R83): it meets `Keeps`, and so every step keeps it. -/

namespace Sys2Proof.Machine

open Sys2Proof.Safety Sys2Proof.Statement

/-- The law of rest, as a proposition about the governor. -/
def RestOk (s : State) : Prop := s.gov.state.rests = true → s.gov.target = 0 ∧ s.gov.step = none

theorem restLaw_iff (s : State) : restLaw s = true ↔ RestOk s := by
  unfold restLaw RestOk
  cases s.gov.state <;> simp [GovState.rests]

theorem RestOk.of_gov {s t : State} (state : t.gov.state = s.gov.state) (target : t.gov.target = s.gov.target)
    (step : t.gov.step = s.gov.step) (h : RestOk s) : RestOk t := by
  unfold RestOk
  rwa [state, target, step]

/-- A state of the governor in which a step may be in hand. -/
theorem RestOk.of_busy {s : State} (h : s.gov.state.rests = false) : RestOk s := fun rest => by simp [h] at rest

theorem RestOk.of_rest {s : State} (target : s.gov.target = 0) (step : s.gov.step = none) : RestOk s := fun _ => ⟨target, step⟩

/-! ### The governor's state, target and step -/

section
variable (s : State)

/-- R63, R105: leaving the step in hand changes neither state nor target. -/
@[simp] theorem leaveStep_gov :
    (leaveStep s).gov.state = s.gov.state ∧ (leaveStep s).gov.target = s.gov.target ∧ (leaveStep s).gov.step = none := by
  unfold leaveStep
  dsimp only
  split
  · simp [setCeiling, noStep]
  · rename_i none
    simpa using none

@[simp] theorem enterStopping_gov :
    (enterStopping s).gov.target = 0 ∧ (enterStopping s).gov.step = s.gov.step := by simp [enterStopping]

@[simp] theorem enterIdle_gov : (enterIdle s).gov.target = 0 ∧ (enterIdle s).gov.step = s.gov.step := by simp [enterIdle]

theorem enterHold_busy : (enterHold s).gov.state.rests = false := by
  have state : (enterHold s).gov.state = if s.gov.step.any fun p => p.kind = .balance then GovState.balance else .hold := by
    unfold enterHold
    extract_lets st t held
    split <;> simp [held, t, st]
  rw [state]
  split <;> rfl

theorem climb_busy : (climb s).gov.state.rests = false := by
  unfold climb enterCross enterRetreat
  repeat' split
  all_goals simp [GovState.rests]

theorem aimAtStep_busy (p : PlanStep) : (aimAtStep p s).gov.state.rests = false := by
  unfold aimAtStep
  dsimp only
  repeat' split
  · exact enterHold_busy s
  · exact climb_busy s
  · simp [GovState.rests]
  · simp [GovState.rests]

end

/-- R72: a trip ends at a target of 0 with no step in hand. -/
theorem RestOk.detect {s : State} (f : FaultKind) (h : RestOk s) : RestOk (detect f s) := by
  unfold Machine.detect
  dsimp only
  split
  · exact h.of_gov (by simp) (by simp) (by simp)
  · exact h.of_gov (by simp) (by simp) (by simp)
  · split <;> exact .of_rest (by simp) (by simp)

theorem RestOk.runBeginTests {s : State} (h : RestOk s) : RestOk (runBeginTests s) := by
  unfold Machine.runBeginTests
  extract_lets t₁ t₂
  have stale : RestOk t₁ := ite_keeps h (h.detect _)
  have fault : RestOk t₂ := ite_keeps (stale.detect _) stale
  exact ite_keeps (fault.detect _) fault

theorem RestOk.stepEntry {s : State} (i : Nat) (h : RestOk s) : RestOk (stepEntry i s) := by
  unfold Machine.stepEntry
  split
  · exact h
  · rename_i p _
    extract_lets fromIdle t₁ runner t₂ gov t₃ t₄ t₅
    have aimed : RestOk t₅ := .of_busy (aimAtStep_busy _ p)
    exact ite_keeps aimed.runBeginTests aimed

theorem RestOk.keeps : Keeps RestOk where
  gentle same h := by
    obtain ⟨state, target, step, -⟩ := same
    exact h.of_gov state target step
  passCheck h := h.of_gov (by simp) (by simp) (by simp)
  cutQueue _ h := h.of_gov (by simp) (by simp) (by simp)
  countSettle h := h.of_gov (by simp) (by simp) (by simp)
  addOrder _ _ _ _ _ h := h.of_gov (by simp) (by simp) (by simp)
  passStart h := h.of_gov (by simp) (by simp) (by simp)
  nominalOpen h := h.of_gov (by simp) (by simp) (by simp)
  passClose h := h.of_gov (by simp) (by simp) (by simp)
  openDevice h := h.of_gov (by simp) (by simp) (by simp)
  restart _ _ := .of_rest rfl rfl
  hardReset _ _ _ _ := .of_rest rfl rfl
  goes _ _ _ busy _ := .of_busy (by simpa using busy)
  detect := RestOk.detect
  halt _ := .of_rest (by simp) (by simp)
  idle at_rest h := by
    have rest := h (by obtain state | state := at_rest <;> simp [state, GovState.rests])
    exact .of_rest (by simp) (by simpa using rest.2)
  stepEntry i _ := RestOk.stepEntry i

/-- Settles O8. -/
theorem restLawKept : Obligations.RestLawKept := by
  intro s t h next
  rw [restLaw_iff] at h ⊢
  exact RestOk.keeps.step h next

end Sys2Proof.Machine

/-! What an event leaves of the blocks that its own effect leaves, and the frames of the commands (chapters 1 to 14). -/

namespace Sys2Proof.Machine

open Sys2Proof.Safety Sys2Proof.Statement

/-! ### From the own effect to the whole event -/

theorem eq_event_of_exec {c : Instr} {s t : State} (run : exec c s = .next t) (h : resetsGovernor c = false) :
    t = event (ownEffect c) c.dt s := by
  rw [outcome_of_exec run, outcome, h]
  simp

section
variable (f : State → State) (dt : Nat) (s : State)

@[simp] theorem event_hand_eq : (event f dt s).hand = (f (advance dt s)).hand := by simp [event]

@[simp] theorem event_settings :
    (event f dt s).settings.inForce = (f (advance dt s)).settings.inForce ∧
      (event f dt s).settings.restricted = (f (advance dt s)).settings.restricted ∧
      (event f dt s).settings.pending = (f (advance dt s)).settings.pending ∧
      (event f dt s).settings.status = (f (advance dt s)).settings.status ∧
      (event f dt s).settings.check = (f (advance dt s)).settings.check ∧
      (event f dt s).settings.scan = (f (advance dt s)).settings.scan := by simp [event]

@[simp] theorem event_pageFields :
    (event f dt s).pages.active = (f (advance dt s)).pages.active ∧ (event f dt s).pages.swap = (f (advance dt s)).pages.swap ∧
      (event f dt s).pages.valid = (f (advance dt s)).pages.valid ∧
      (event f dt s).pages.result = (f (advance dt s)).pages.result ∧
      (event f dt s).pages.check = (f (advance dt s)).pages.check ∧
      (event f dt s).pages.stepIndex = (f (advance dt s)).pages.stepIndex := by simp [event]

@[simp] theorem event_access :
    (event f dt s).report.accessCount = (f (advance dt s)).report.accessCount ∧
      (event f dt s).report.lastAccess = (f (advance dt s)).report.lastAccess := by simp [event]

end

section
variable {f : State → State} {dt : Nat} {s : State} (owed : (f (advance dt s)).est.owed = false)
include owed

/-- With no estimate update owed, nothing after the own effect touches the blocks of the machine, but for the command number. -/
@[simp] theorem event_machine :
    (event f dt s).est = (f (advance dt s)).est ∧ (event f dt s).runner = (f (advance dt s)).runner ∧
      (event f dt s).dosing = (f (advance dt s)).dosing ∧ (event f dt s).lines = (f (advance dt s)).lines := by
  rw [event_of_not_owed owed]
  simp

@[simp] theorem event_latches : (event f dt s).report.latches = (f (advance dt s)).report.latches := by
  rw [event_of_not_owed owed]
  simp

@[simp] theorem event_gov (gov : (f (advance dt s)).gov = s.gov) : (event f dt s).gov = s.gov := by
  rw [event_quiet owed gov]
  simpa using gov

end

/-! ### The timing unit, the S-port and the governor's timers -/

@[simp] theorem readComplete_owed (frame : SportFrame) (s : State) : (readComplete frame s).est.owed = s.est.owed := by
  unfold readComplete
  split <;> simp

@[simp] theorem sampleRequest_owed (r : SampleRequest) (s : State) : (sampleRequest r s).est.owed = s.est.owed := by
  unfold sampleRequest
  dsimp only
  (repeat' split) <;> simp

@[simp] theorem samplePointNow_owed (s : State) : (samplePointNow s).est.owed = s.est.owed := by
  unfold samplePointNow
  dsimp only
  (repeat' split) <;> simp

/-- Settles O12. -/
theorem timingAndGovernorFrame : Obligations.TimingAndGovernorFrame := by
  intro s t dt
  refine ⟨fun c src frame which run => ?_, fun c frame which run => ?_, fun c src frame which owed run => ?_,
    fun src owed run => ?_, fun owed run => ?_⟩
  · rcases which with rfl | rfl | rfl | rfl | rfl | rfl | rfl | rfl | rfl | rfl | rfl
    all_goals simp only [eq_event_of_exec run rfl, RecordsKept, SettingsKept, PagesKept, AccessKept, ownEffect, event_cmd,
      event_tel, event_hand_eq, event_settings, event_pageFields, event_access]
    all_goals (try split) <;> simp
  · rcases which with rfl | rfl | rfl | rfl | rfl
    all_goals simp [eq_event_of_exec run rfl, ownEffect]
  · rcases which with rfl | rfl | rfl
    · simp [eq_event_of_exec run rfl, ownEffect, owed, LatchesKept]
    · rw [eq_event_of_exec run rfl]
      by_cases due : sampleDue (advance dt s) = true
      all_goals simp [ownEffect, Instr.dt, due, owed, LatchesKept]
    · simp [eq_event_of_exec run rfl, ownEffect, owed, LatchesKept]
  · simp [eq_event_of_exec run rfl, ownEffect, owed]
  · simp [eq_event_of_exec run rfl, ownEffect, owed, LatchesKept]

/-! ### The dosing unit, the line unit and the report unit -/

/-- R111: a level at one pin leaves the other lines. -/
theorem pinChange_other {n k : Fin 8} (level : Bool) (s : State) (other : k ≠ n) :
    (pinChange n level s).lines.line[k] = s.lines.line[k] := by
  simp [pinChange, setLine, Fin.val_inj, other.symm]

/-- Settles O13. -/
theorem dosingLineReportFrame : Obligations.DosingLineReportFrame := by
  intro s t dt
  refine ⟨fun c n level which run => ?_, fun c n level which owed run => ?_, fun owed run => ?_, fun n level owed run => ?_,
    fun c which owed run => ?_⟩
  · rcases which with rfl | rfl | rfl | rfl | rfl | rfl | rfl | rfl
    all_goals simp [eq_event_of_exec run rfl, RecordsKept, SettingsKept, PagesKept, AccessKept, ownEffect]
  · rcases which with rfl | rfl | rfl
    all_goals simp [eq_event_of_exec run rfl, ownEffect, owed, LatchesKept]
  · simp [eq_event_of_exec run rfl, ownEffect, owed]
  · refine ⟨by simp [eq_event_of_exec run rfl, ownEffect, owed], fun k other => ?_⟩
    have lines : t.lines = (pinChange n level (advance dt s)).lines := by
      simp [eq_event_of_exec run rfl, ownEffect, owed, Instr.dt]
    rw [lines]
    exact pinChange_other level (advance dt s) other
  · rcases which with rfl | rfl | rfl
    all_goals simp [eq_event_of_exec run rfl, ownEffect, owed, MachineKept, LatchesKept]

/-! ### The upstream ports and the memory link -/

/-- R139: a snooped byte changes the commit code of the pages at most. -/
@[simp] theorem snoopAt_pages (p : Port) (point : Option SnoopPoint) (v : Byte) (s : State) :
    (snoopAt p point v s).pages.active = s.pages.active ∧ (snoopAt p point v s).pages.swap = s.pages.swap ∧
      (snoopAt p point v s).pages.valid = s.pages.valid ∧ (snoopAt p point v s).pages.result = s.pages.result ∧
      (snoopAt p point v s).pages.check = s.pages.check ∧ (snoopAt p point v s).pages.stepIndex = s.pages.stepIndex := by
  unfold snoopAt snoop
  (repeat' split) <;> simp

@[simp] theorem takeWriteByte_pages (p : Port) (v : Byte) (s : State) :
    (takeWriteByte p v s).pages.active = s.pages.active ∧ (takeWriteByte p v s).pages.swap = s.pages.swap ∧
      (takeWriteByte p v s).pages.valid = s.pages.valid ∧ (takeWriteByte p v s).pages.result = s.pages.result ∧
      (takeWriteByte p v s).pages.check = s.pages.check ∧ (takeWriteByte p v s).pages.stepIndex = s.pages.stepIndex := by
  unfold takeWriteByte writeByte
  dsimp only
  (repeat' split) <;> simp

theorem midByte_access (p : Port) (s : State) :
    (midByte ⟨p, false⟩ s).report.accessCount = s.report.accessCount ∧
      (midByte ⟨p, false⟩ s).report.lastAccess = s.report.lastAccess := by simp [midByte]

/-- Settles O14. -/
theorem portAndLinkFrame : Obligations.PortAndLinkFrame := by
  intro s t dt p owed
  refine ⟨fun c addr read v x which run => ?_, fun c addr read v x which run => ?_, fun c v which run => ?_,
    fun c addr read v which run => ?_⟩
  · rcases which with rfl | rfl | rfl | rfl | rfl | rfl | rfl | rfl | rfl | rfl | rfl | rfl | rfl | rfl | rfl
    all_goals simp [eq_event_of_exec run rfl, ownEffect, owed, MachineKept, SettingsKept, PagesKept, LatchesKept]
  · rcases which with rfl | rfl | rfl | rfl | rfl | rfl | rfl | rfl | rfl | rfl | rfl | rfl | rfl | rfl
    all_goals simp [eq_event_of_exec run rfl, ownEffect]
  · rcases which with rfl | rfl | rfl | rfl | rfl | rfl | rfl | rfl | rfl | rfl | rfl
    all_goals simp [eq_event_of_exec run rfl, ownEffect]
  · rcases which with rfl | rfl | rfl | rfl | rfl | rfl | rfl | rfl | rfl | rfl | rfl | rfl
    all_goals simp [eq_event_of_exec run rfl, ownEffect, AccessKept, midByte_access]

/-! ### The plan page unit and the settings unit -/

/-- The end of a job leaves of the runner, and of the pages, what its block's own act leaves. -/
theorem completeJob_runnerParts (p : Job → Bool) {act : Job → State → State} (s : State)
    (kept : ∀ j u, (act j u).runner.state = u.runner.state ∧ (act j u).runner.stepIndex = u.runner.stepIndex ∧
      (act j u).runner.retries = u.runner.retries ∧ (act j u).runner.doseUsed = u.runner.doseUsed ∧
      (act j u).runner.endReason = u.runner.endReason) :
    (completeJob p act s).runner.state = s.runner.state ∧ (completeJob p act s).runner.stepIndex = s.runner.stepIndex ∧
      (completeJob p act s).runner.retries = s.runner.retries ∧ (completeJob p act s).runner.doseUsed = s.runner.doseUsed ∧
      (completeJob p act s).runner.endReason = s.runner.endReason := by
  unfold completeJob
  dsimp only
  (repeat' split) <;> simp [kept]

theorem completeJob_pageParts (p : Job → Bool) {act : Job → State → State} (s : State)
    (kept : ∀ j u, (act j u).pages.active = u.pages.active ∧ (act j u).pages.valid = u.pages.valid) :
    (completeJob p act s).pages.active = s.pages.active ∧ (completeJob p act s).pages.valid = s.pages.valid := by
  unfold completeJob
  dsimp only
  (repeat' split) <;> simp [kept]

section
variable (s : State)

/-- R152: the flip replaces the plan copy and nothing else of the runner. -/
@[simp] theorem validationDone_runner (l : List Byte) :
    (validationDone l s).runner.state = s.runner.state ∧ (validationDone l s).runner.stepIndex = s.runner.stepIndex ∧
      (validationDone l s).runner.retries = s.runner.retries ∧ (validationDone l s).runner.doseUsed = s.runner.doseUsed ∧
      (validationDone l s).runner.endReason = s.runner.endReason := by
  unfold validationDone validatePage flip
  dsimp only
  (repeat' split) <;> simp

@[simp] theorem commitNow_pages :
    (commitNow s).pages.active = s.pages.active ∧ (commitNow s).pages.valid = s.pages.valid := by
  unfold commitNow takeCommit commitResult
  (repeat' split) <;> simp

@[simp] theorem commitRecordDone_pages (l : List Byte) :
    (commitRecordDone l s).pages.active = s.pages.active ∧ (commitRecordDone l s).pages.valid = s.pages.valid := by
  unfold commitRecordDone
  dsimp only
  (repeat' split) <;> simp

@[simp] theorem carryReadDone_pages (l : List Byte) :
    (carryReadDone l s).pages.active = s.pages.active ∧ (carryReadDone l s).pages.valid = s.pages.valid := by
  unfold carryReadDone
  split <;> simp

@[simp] theorem carryWriteDone_pages :
    (carryWriteDone s).pages.active = s.pages.active ∧ (carryWriteDone s).pages.valid = s.pages.valid := by
  unfold carryWriteDone
  dsimp only
  (repeat' split) <;> simp

@[simp] theorem rereadNow_settings :
    (rereadNow s).settings.inForce = s.settings.inForce ∧ (rereadNow s).settings.restricted = s.settings.restricted ∧
      (rereadNow s).settings.pending = s.settings.pending ∧ (rereadNow s).settings.status = s.settings.status ∧
      (rereadNow s).settings.check = s.settings.check ∧ (rereadNow s).settings.scan = s.settings.scan := by
  unfold rereadNow beginReread
  split <;> simp

@[simp] theorem startupRetry_settings :
    (startupRetry s).settings.inForce = s.settings.inForce ∧ (startupRetry s).settings.restricted = s.settings.restricted ∧
      (startupRetry s).settings.pending = s.settings.pending ∧ (startupRetry s).settings.status = s.settings.status ∧
      (startupRetry s).settings.check = s.settings.check ∧ (startupRetry s).settings.scan = s.settings.scan := by
  unfold startupRetry
  (repeat' split) <;> simp

end

/-! A failed transfer adopts no settings. -/

section
variable (s : State)

@[simp] theorem openDevice_inForce : (openDevice s).settings.inForce = s.settings.inForce := by
  unfold openDevice
  dsimp only
  split <;> simp

@[simp] theorem startupFailed_inForce : (startupFailed s).settings.inForce = s.settings.inForce := by
  unfold startupFailed startRestricted setStatus
  dsimp only
  (repeat' split) <;> simp

@[simp] theorem slotScanned_inForce (l : List Byte) : (slotScanned l s).settings.inForce = s.settings.inForce := by
  unfold slotScanned endScan
  dsimp only
  (repeat' split) <;> simp

@[simp] theorem jobFailed_inForce (j : Job) : (jobFailed j s).settings.inForce = s.settings.inForce := by
  cases j <;> simp [jobFailed]

@[simp] theorem failTransfer_inForce (cause : FailCause) : (failTransfer cause s).settings.inForce = s.settings.inForce := by
  unfold failTransfer
  dsimp only
  (repeat' split) <;> simp

end

/-- Settles O15. -/
theorem pageAndSettingsFrame : Obligations.PageAndSettingsFrame := by
  intro s t dt
  refine ⟨fun c which owed run => ?_, fun c which owed run => ?_, fun c which run => ?_, fun c which run => ?_,
    fun c which owed run => ?_, fun cause owed run => ?_⟩
  · rcases which with rfl | rfl | rfl | rfl | rfl
    all_goals simp [eq_event_of_exec run rfl, ownEffect, owed, SettingsKept, LatchesKept, AccessKept, completeJob_runnerParts]
  · rcases which with rfl | rfl | rfl | rfl
    all_goals simp [eq_event_of_exec run rfl, ownEffect, owed, completeJob_pageParts]
  · rcases which with rfl | rfl | rfl | rfl
    all_goals simp [eq_event_of_exec run rfl, ownEffect]
  · rcases which with rfl | rfl | rfl | rfl | rfl
    all_goals simp [eq_event_of_exec run rfl, ownEffect, AccessKept]
  · rcases which with rfl | rfl
    all_goals simp [eq_event_of_exec run rfl, ownEffect, owed, MachineKept, SettingsKept, PagesKept, LatchesKept, AccessKept]
  · simp [eq_event_of_exec run rfl, ownEffect, owed, RecordsKept, AccessKept]

/-! ### The telemetry checks and the command record -/

theorem telemetryNow_hand (s : State) :
    (telemetryNow s).hand.command = s.hand.command ∧ (telemetryNow s).hand.commit = s.hand.commit ∧
      (telemetryNow s).hand.settings = s.hand.settings := by
  unfold telemetryNow
  split <;> simp

/-- R161: taking a command up changes neither the image nor another hand-over. -/
theorem takeUp_image (codes : Byte → Bool) {body : State → Taken} (cmd : ∀ u, (body u).state.cmd = u.cmd)
    (hand : ∀ u, (body u).state.hand = u.hand) (s : State) :
    (takeUp codes body s).cmd.image = s.cmd.image ∧ (takeUp codes body s).cmd.written = s.cmd.written ∧
      (takeUp codes body s).hand.telemetry = s.hand.telemetry ∧ (takeUp codes body s).hand.commit = s.hand.commit ∧
      (takeUp codes body s).hand.settings = s.hand.settings := by
  unfold takeUp
  dsimp only
  split <;> simp [storeResult, markTaken, cmd, hand]

/-- Settles O16. -/
theorem telemetryAndCommandFrame : Obligations.TelemetryAndCommandFrame := by
  intro s t dt
  refine ⟨fun c which run => ?_, fun c which run => ?_, fun c which owed run => ?_, fun c which owed run => ?_,
    fun c which owed run => ?_, fun c which run => ?_⟩
  · rcases which with rfl | rfl
    all_goals simp [eq_event_of_exec run rfl, ownEffect, SettingsKept, PagesKept, AccessKept, telemetryNow_hand]
  · rcases which with rfl | rfl | rfl | rfl | rfl | rfl | rfl | rfl | rfl | rfl | rfl
    all_goals simp [eq_event_of_exec run rfl, ownEffect, SettingsKept, PagesKept, takeUp_image]
  · rcases which with rfl | rfl | rfl | rfl | rfl
    all_goals simp [eq_event_of_exec run rfl, ownEffect, owed]
  · rcases which with rfl | rfl | rfl | rfl
    all_goals simp [eq_event_of_exec run rfl, ownEffect, owed]
  · rcases which with rfl | rfl | rfl | rfl
    all_goals simp [eq_event_of_exec run rfl, ownEffect, owed, LatchesKept]
  · rcases which with rfl | rfl | rfl | rfl | rfl | rfl | rfl | rfl | rfl | rfl
    all_goals simp [eq_event_of_exec run rfl, ownEffect, AccessKept]

end Sys2Proof.Machine

/-! Where the commands that store may change the FRAM (R179, R181, R184, R187, R194). -/

namespace Sys2Proof.Machine

open Sys2Proof.Safety Sys2Proof.Statement

theorem readByte_of_mem {s t : State} (h : s.mem = t.mem) (a : Nat) : readByte s a = readByte t a := by simp [readByte, h]

section
variable (s : State)

/-- R179, R181: an acknowledged byte of a port's write is stored at the transfer's address. -/
theorem dataAck_mem : (dataAck s).mem = s.mem ∨
    ∃ x, s.link.transfer = some x ∧ (dataAck s).mem = (storeByte s x.addr x.data).mem := by
  unfold dataAck
  split
  · rename_i x bus
    split
    · split
      · refine .inr ⟨x, bus, ?_⟩
        unfold burstAck
        dsimp only
        split <;> simp
      · exact .inl rfl
    · split
      · refine .inr ⟨x, bus, ?_⟩
        unfold drainAck
        dsimp only
        split <;> simp
      · exact .inl rfl
    · exact .inl rfl
  · exact .inl rfl

/-- An internal write that ends is stored at its address. -/
theorem completeJob_stores (p : Job → Bool) {act : Job → State → State} (acts : ∀ j u, (act j u).mem = u.mem) :
    (completeJob p act s).mem = s.mem ∨
      ∃ j o, jobOnBus s = some (j, o) ∧ (completeJob p act s).mem = (storeBytes s (jobAddr j) (jobData j)).mem := by
  unfold completeJob
  split
  · rename_i j orphan bus
    split
    · refine .inr ⟨j, orphan, bus, ?_⟩
      dsimp only
      split <;> simp [acts]
    · exact .inl rfl
  · exact .inl rfl

/-- R184: a failed transfer stores what an internal write leaves. -/
theorem failTransfer_stores (cause : FailCause) : (failTransfer cause s).mem = s.mem ∨
    ∃ j o, jobOnBus s = some (j, o) ∧ (failTransfer cause s).mem = (partialWrite j cause s).mem := by
  cases bus : s.link.transfer with
  | none => exact .inl (by simp [failTransfer, bus])
  | some x =>
    by_cases fits : causeFits x cause = true
    · cases kind : x.kind with
      | job j o => exact .inr ⟨j, o, by simp [jobOnBus, bus, kind], failTransfer_job_mem bus kind fits⟩
      | burst | read | drain taken =>
        left
        simp only [failTransfer, bus, fits, if_true, kind]
        (repeat' split) <;> simp_all
    · exact .inl (by simp [failTransfer, bus, fits])

end

section
variable {s : State} {a : Nat} (wf : Memory.wf s.mem = true)
include wf

/-- R184: a write that fails at a data byte changes no byte beyond the acknowledged ones. -/
theorem readByte_partialWrite_other {j : Job} {acked : Nat} (outside : a < jobAddr j ∨ jobAddr j + acked ≤ a) :
    readByte (partialWrite j (.dataByte acked) s) a = readByte s a := by
  refine readByte_storeBytes_other _ wf (outside.imp_right fun beyond => ?_)
  have few : (leftByFailure j acked).length ≤ acked := by
    unfold leftByFailure
    split
    · exact Nat.zero_le _
    · exact List.length_take_le _ _
  omega

/-- R187: nor does a write that a hard reset cuts off. -/
theorem readByte_cutOffWrite_other {acked : Nat}
    (outside : ∀ j o, jobOnBus s = some (j, o) → a < jobAddr j ∨ jobAddr j + acked ≤ a) :
    readByte (cutOffWrite acked s) a = readByte s a := by
  unfold cutOffWrite
  split
  · rename_i j o bus
    refine readByte_storeBytes_other _ wf ((outside j o bus).imp_right fun beyond => ?_)
    have few := List.length_take_le acked (jobData j)
    omega
  · rfl

end

/-- The FRAM after a command is the one that its own effect leaves. -/
theorem readByte_of_exec {c : Instr} {s t : State} (run : exec c s = .next t) (a : Nat) :
    readByte t a = readByte (ownEffect c (advance c.dt s)) a := by
  rw [outcome_of_exec run]
  exact readByte_of_mem (outcome_mem c s) a

/-- Settles O11. -/
theorem storesStayInTheirTransfer : Obligations.StoresStayInTheirTransfer := by
  intro s t a wf
  have failed (dt : Nat) (cause : FailCause) (run : exec (.transferFailed dt cause) s = .next t)
      (left : ∀ j o, jobOnBus s = some (j, o) → readByte (partialWrite j cause (advance dt s)) a = readByte s a) :
      readByte t a = readByte s a := by
    rw [readByte_of_exec run]
    obtain same | ⟨j, o, bus, stored⟩ := failTransfer_stores (advance dt s) cause
    · exact readByte_of_mem same a
    · exact (readByte_of_mem stored a).trans (left j o bus)
  refine ⟨fun dt run elsewhere => ?_, fun c dt which run outside => ?_, fun dt acked run outside => ?_,
    fun dt cause b l o bus run => ?_, fun dt cause which run => ?_, fun dt straps levels acked run outside => ?_⟩
  · rw [readByte_of_exec run]
    obtain same | ⟨x, bus, stored⟩ := dataAck_mem (advance dt s)
    · exact readByte_of_mem same a
    · exact (readByte_of_mem stored a).trans (readByte_storeByte_other _ wf (elsewhere x bus))
  · have written : (ownEffect c (advance c.dt s)).mem = (advance c.dt s).mem ∨
        ∃ j o, jobOnBus (advance c.dt s) = some (j, o) ∧
          (ownEffect c (advance c.dt s)).mem = (storeBytes (advance c.dt s) (jobAddr j) (jobData j)).mem := by
      obtain rfl | rfl | rfl := which
      all_goals exact completeJob_stores _ _ (by intros; simp)
    rw [readByte_of_exec run]
    obtain same | ⟨j, o, bus, stored⟩ := written
    · exact readByte_of_mem same a
    · exact (readByte_of_mem stored a).trans (readByte_storeBytes_other _ wf (outside j o bus))
  · exact failed dt _ run fun j o bus => readByte_partialWrite_other wf (s := advance dt s) (outside j o bus)
  · refine failed dt cause run fun j o' bus' => ?_
    obtain ⟨rfl, -⟩ : Job.logWrite b l = j ∧ o = o' := by simpa using bus.symm.trans bus'
    rw [partialWrite_logWrite]
    rfl
  · obtain rfl | rfl := which
    all_goals exact failed dt _ run fun j o bus => rfl
  · rw [readByte_of_exec run]
    exact readByte_cutOffWrite_other (s := advance dt s) wf outside

end Sys2Proof.Machine

/-! The window decoder, the memory address bytes and the pins (R111, R128 to R131, R139, R177). -/

namespace Sys2Proof.Machine

open Sys2Proof.Safety Sys2Proof.Statement

/-! ### The decode order -/

theorem inPage_iff {base a : Nat} : inPage base a = true ↔ base ≤ a ∧ a < base + 256 := by simp [inPage]

/-- R131: the first window that covers an address. -/
theorem find?_covers {t : TrafficSettings} {a : Nat} {i : Fin 8} (covers : t.windows[i].covers a = true)
    (first : ∀ j : Fin 8, j < i → t.windows[j].covers a = false) : t.windows.toList.find? (·.covers a) = some t.windows[i] := by
  refine List.find?_eq_some_iff_getElem.2 ⟨covers, i, by simp, by simp, fun j before => ?_⟩
  have other := first ⟨j, Nat.lt_trans before i.isLt⟩ before
  simpa using other

theorem decode_of_window {t : TrafficSettings} {a : Nat} {i : Fin 8} (p : Port) (write : Bool) (below : a < Config.settingsBase)
    (outA : inPage t.pageA a = false) (outB : inPage t.pageB a = false) (covers : t.windows[i].covers a = true)
    (first : ∀ j : Fin 8, j < i → t.windows[j].covers a = false) : decode t p write a = decodeWindow t.windows[i] p write a := by
  have inMemory : ¬Config.memSize ≤ a := by simp only [Config.settingsBase, Config.memSize] at *; omega
  simp only [decode, if_neg inMemory, if_neg (Nat.not_le.2 below), outA, outB, Bool.or_self, Bool.false_eq_true, if_false,
    find?_covers covers first]

/-- R131: a byte without the right is discarded. -/
theorem decodeWindow_forbidden {w : WindowEntry} {p : Port} {write : Bool} (a : Nat) (right : (w.rights p).allows write = false) :
    decodeWindow w p write a = .discard (if write then .forbiddenWrite else .forbiddenRead) w.handles := by
  simp [decodeWindow, right, forbidden]

/-- R131, R139: a byte with the right is judged by its window's kind. -/
theorem decodeWindow_allowed {w : WindowEntry} {p : Port} {write : Bool} (a : Nat) (right : (w.rights p).allows write = true) :
    decodeWindow w p write a =
      match w.kind with
      | .planEdit => .edit (a - w.first)
      | .planView => .view (a - w.first)
      | .command => .memory w.handling (if write = true ∧ a - w.first < 16 then some (.command (a - w.first)) else none)
      | .telemetry => .memory w.handling (if write = true ∧ a - w.first < 16 then some (.telemetry (a - w.first)) else none)
      | .pass | .report => .memory w.handling none := by
  unfold decodeWindow WindowEntry.handles windowSnoop
  rw [if_pos right]
  cases kind : w.kind <;> cases write <;> simp

/-- Settles O37. -/
theorem decodeOrder : Obligations.DecodeOrder := by
  intro t p write a
  refine ⟨fun beyond => if_pos beyond, fun region below => ?_, fun below page => ?_, fun below outA outB i covers first => ?_⟩
  · have inMemory : ¬Config.memSize ≤ a := Nat.not_le.2 below
    have settings : Config.settingsBase ≤ a := region
    rw [decode, if_neg inMemory, if_pos settings]
    cases p <;> cases write <;> rfl
  · have inMemory : ¬Config.memSize ≤ a := by simp only [Config.memSize]; omega
    have hidden : (inPage t.pageA a || inPage t.pageB a) = true := by simpa [inPage_iff] using page
    have outside : ¬Config.settingsBase ≤ a := Nat.not_le.2 below
    rw [decode, if_neg inMemory, if_neg outside, if_pos hidden]
  · rw [decode_of_window p write below outA outB covers first]
    refine ⟨fun right => decodeWindow_forbidden a right, fun right => ?_⟩
    rw [decodeWindow_allowed a right]
    refine ⟨fun kind => ?_, fun kind => ?_, fun kind => ?_, fun kind => ?_, fun kind => ?_⟩
    · rw [kind]
    · rw [kind]
    · rw [kind]
    · rw [kind]
    · obtain kind | kind := kind <;> rw [kind]

/-! ### Memory address bytes and pins -/

/-- Settles O39: with nothing stretched and no start held, the port is after the event as the address byte leaves it. -/
theorem addressBytesSetPointer : Obligations.AddressBytesSetPointer := by
  intro dt p v s addressing free noStart
  have first (none : (portOf s p).addrHigh = none) :
      portOf (addressByte p v (advance dt s)) p = { portOf s p with addrHigh := some v, reply := .ack } := by
    simp [addressByte, addressing, none]
  have second (h : Byte) (high : (portOf s p).addrHigh = some h) : portOf (addressByte p v (advance dt s)) p =
      { portOf s p with addrHigh := none, pointer := h ++ v, txn := .writing, reply := .ack } := by
    simp [addressByte, addressing, high]
  refine ⟨event (addressByte p v) dt s, rfl, fun none => ?_, fun h high => ?_⟩
  · exact (portOf_event (by rw [first none]; exact free) (by rw [first none]; exact noStart)).trans
      (first none)
  · exact (portOf_event (by rw [second h high]; exact free)
      (by rw [second h high]; exact noStart)).trans (second h high)

/-- R111: a level at a pin that has it changes nothing; another makes the debounce record afresh or drops it. -/
theorem withOutside_eq (l : LineRec) (now : Nat) (level : Bool) : l.withOutside now level =
    if l.pin = level then l
    else { l with
      pin := level, held := l.output && level != l.latch,
      debounce := if level = l.accepted then none else some { candidate := level, start := now } } := by
  unfold LineRec.withOutside LineRec.withPin
  split <;> rfl

theorem setLine_self (s : State) (n : Fin 8) : (setLine s n s.lines.line[n]).lines = s.lines := by simp [setLine]

/-- Settles O33. -/
theorem pinChangeStartsDebounce : Obligations.PinChangeStartsDebounce := by
  intro dt n level s owed
  have lines : (event (pinChange n level) dt s).lines = (pinChange n level (advance dt s)).lines :=
    event_machine (by simpa using owed) |>.2.2.2
  refine ⟨event (pinChange n level) dt s, rfl, fun same => ?_, fun new => ?_⟩
  · have kept : s.lines.line[n].withOutside (s.now + dt) level = s.lines.line[n] := by rw [withOutside_eq, if_pos same]
    rw [lines]
    exact (congrArg (fun l => (setLine (advance dt s) n l).lines) kept).trans (setLine_self s n)
  · rw [lines, pinChange, setLine, withOutside_eq]
    simpa using fun same => absurd same new

/-! ### TORQUE records -/

/-- R26: to the nearest gram, a half rounding up. -/
theorem nearest_gram (x : Nat) : 512 * ((x + 256) / 512) ≤ x + 256 ∧ x < 512 * ((x + 256) / 512) + 256 := by omega

/-- Settles O26. -/
theorem torqueRecordMagnitude : Obligations.TorqueRecordMagnitude := by
  intro set e r torque
  refine ⟨fun q measured => ?_, fun missing => ?_, ?_, ?_, ?_, ?_⟩
  · obtain ⟨low, high⟩ := nearest_gram (2 * q * set.torque)
    refine ⟨(2 * q * set.torque + 256) / 512, ?_, low, high, ?_⟩
    · simp [makeRecord, torque, measured, torqueMagnitude]
    · simp only [makeRecord, torque, measured, Option.isNone_some, Bool.false_eq_true, if_false]
      split <;> simp
  · simp [makeRecord, torque, missing]
  all_goals simp [makeRecord, torque]

end Sys2Proof.Machine

/-! The sources, the selection and the at-rest finding (R3, R4, R6, R7, R71), and the S-port (R16, R19, R20). -/

namespace Sys2Proof.Machine

open Sys2Proof.Safety Sys2Proof.Statement

/-! ### The source records and the selection -/

section
variable (s : State) (src : Source) (r : SourceRec)

@[simp] theorem sourceRec_setSource : sourceRec (setSource s src r).timing src = r := by cases src <;> rfl

@[simp] theorem sourceRec_setSource_other :
    sourceRec (setSource s src r).timing (otherSource src) = sourceRec s.timing (otherSource src) := by cases src <;> rfl

@[simp] theorem otherSource_otherSource : otherSource (otherSource src) = src := by cases src <;> rfl

/-- A source record is replaced and nothing else of the timing unit. -/
@[simp] theorem setSource_timing :
    (setSource s src r).timing.sel = s.timing.sel ∧ (setSource s src r).timing.counter = s.timing.counter ∧
      (setSource s src r).timing.speed = s.timing.speed ∧ (setSource s src r).timing.rev = s.timing.rev := by
  cases src <;> exact ⟨rfl, rfl, rfl, rfl⟩

/-- R3: a source that returns to SEARCHING. -/
@[simp] theorem SourceRec.search_fields :
    r.search.state = .searching ∧ r.search.count = 0 ∧ r.search.interval = none ∧ r.search.refPeriod = none ∧
      r.search.deadline = none := ⟨rfl, rfl, rfl, rfl, rfl⟩

end

/-- R8: a selected source that is still QUALIFIED stays selected, and so does a selection that the sources' states give again. -/
theorem reselect_stays {old s : State} (h : s.timing.sel.any (qualified s.timing) = true ∨ selectionNow s = s.timing.sel) :
    reselect old s = s := if_pos h

/-- R7: else the selection moves, and the revolution in progress is discarded. -/
theorem reselect_moves {old s : State} (h : ¬(s.timing.sel.any (qualified s.timing) = true ∨ selectionNow s = s.timing.sel)) :
    (reselect old s).timing = { s.timing with sel := selectionNow s, rev := none } := by
  unfold reselect
  rw [if_neg h]
  dsimp only
  rw [unordered3_timing]
  · simp
  · intro u; simp
  · intro u; split <;> simp
  · intro u; simp

theorem reselect_timing (old s : State) :
    (reselect old s).timing = s.timing ∨
      (reselect old s).timing = { s.timing with sel := selectionNow s, rev := none } := by
  by_cases h : s.timing.sel.any (qualified s.timing) = true ∨ selectionNow s = s.timing.sel
  · rw [reselect_stays h]; exact .inl rfl
  · exact .inr (reselect_moves h)

@[simp] theorem sourceRec_reselect (old s : State) (src : Source) :
    sourceRec (reselect old s).timing src = sourceRec s.timing src := by
  obtain same | moved := reselect_timing old s
  · rw [same]
  · rw [moved]; cases src <;> rfl

@[simp] theorem reselect_counter (old s : State) : (reselect old s).timing.counter = s.timing.counter := by
  obtain same | moved := reselect_timing old s
  · rw [same]
  · rw [moved]

/-- R7: with a selected source that is not QUALIFIED the selection goes to the other one where that is, else to NONE. -/
theorem reselect_leaves {old s : State} {src : Source} (sel : s.timing.sel = some src)
    (lost : (sourceRec s.timing src).state ≠ .qualified) :
    (reselect old s).timing = { s.timing with
      sel := if (sourceRec s.timing (otherSource src)).state = .qualified then some (otherSource src) else none, rev := none } := by
  have now : selectionNow s =
      if (sourceRec s.timing (otherSource src)).state = .qualified then some (otherSource src) else none := by
    unfold selectionNow qualified
    cases src <;> cases s.settings.inForce.reference.preferred <;> simp_all [otherSource] <;> rfl
  have other : otherSource src ≠ src := by cases src <;> decide
  rw [reselect_moves, now]
  rintro (still | same)
  · simp [sel, qualified, lost] at still
  · rw [now, sel] at same
    split at same
    · exact other (Option.some.inj same)
    · cases same

/-- R3: the moment at which a source's silence is due, and what the timing unit is then and before it. -/
theorem searchAgain_timing {src : Source} {s : State} {limit past : Nat}
    (due : silenceDue s (sourceRec s.timing src) = decide (limit ≤ past)) :
    if limit ≤ past then
      (sourceRec (searchAgain src s).timing src).state = .searching ∧ (sourceRec (searchAgain src s).timing src).count = 0 ∧
        (sourceRec (searchAgain src s).timing src).interval = none ∧
        (sourceRec (searchAgain src s).timing src).refPeriod = none
    else (searchAgain src s).timing = s.timing := by
  unfold searchAgain
  rw [due]
  by_cases silent : limit ≤ past <;> simp [silent]

/-- Settles O19. -/
theorem qualifyingSilenceReturnsToSearching : Obligations.QualifyingSilenceReturnsToSearching := by
  intro src dt l s qualifying pulse
  have due : silenceDue (advance dt s) (sourceRec s.timing src) =
      decide (((sourceRec s.timing src).interval.map fun i => 3 * i).getD 3000000 ≤ s.now + dt - l) := by
    simp [silenceDue, qualifying, pulse, since, Config.lossFactor, Config.restTime]
  refine ⟨event (searchAgain src) dt s, rfl, ?_, ?_⟩
  · rw [event_timing]
    unfold searchAgain
    split <;> simp
  · rw [event_timing]
    cases interval : (sourceRec s.timing src).interval with
    | none => exact searchAgain_timing (by rw [interval] at due; exact due)
    | some i => exact searchAgain_timing (by rw [interval] at due; exact due)

/-- R4: the record of a QUALIFIED source whose deadline has passed. -/
def SourceRec.afterLoss (r : SourceRec) (witnessed : Bool) : SourceRec :=
  if witnessed then { r with state := .lost, deadline := none } else r.search

theorem SourceRec.afterLoss_state (r : SourceRec) (witnessed : Bool) :
    (r.afterLoss witnessed).deadline = none ∧ (r.afterLoss witnessed).state ≠ .qualified := by
  cases witnessed <;> simp [afterLoss]

theorem loseSource_due {src : Source} {d : Nat} {s : State} (qualified : (sourceRec s.timing src).state = .qualified)
    (deadline : (sourceRec s.timing src).deadline = some d) (passed : d ≤ s.now) :
    loseSource src s =
      reselect s (setSource s src ((sourceRec s.timing src).afterLoss (witness s (sourceRec s.timing src)))) := by
  simp [loseSource, qualified, deadline, passed, SourceRec.afterLoss]

/-- R4: a witness is a pulse of the other source or a drive speed of 30 rpm or more. -/
theorem witness_iff {s : State} {r : SourceRec} :
    witness s r = true ↔ r.witnessed = true ∨ ∃ x, s.tel.adopted = some x ∧ 30 ≤ x.speed := by
  unfold witness Config.witnessSpeed
  cases s.tel.adopted <;> simp

/-- Settles O20. -/
theorem lossDeadlineLosesSource : Obligations.LossDeadlineLosesSource := by
  intro src dt d s qualified deadline passed
  have lost := loseSource_due (s := advance dt s) qualified deadline passed
  have record : sourceRec (loseSource src (advance dt s)).timing src =
      (sourceRec s.timing src).afterLoss (witness s (sourceRec s.timing src)) := by
    rw [lost, sourceRec_reselect, sourceRec_setSource]
    rfl
  refine ⟨event (loseSource src) dt s, rfl, ?_⟩
  rw [event_timing, record]
  refine ⟨?_, (SourceRec.afterLoss_state _ _).1, fun seen => ?_, fun pulses drive => ?_, fun sel => ?_⟩
  · rw [lost]; simp
  · rw [witness_iff.2 seen]
    rfl
  · have unseen : witness s (sourceRec s.timing src) = false := by
      refine Bool.eq_false_iff.2 fun seen => ?_
      obtain pulse | ⟨x, adopted, fast⟩ := witness_iff.1 seen
      · rw [pulses] at pulse; cases pulse
      · exact absurd fast (Nat.not_le.2 (drive x adopted))
    rw [unseen]
    exact ⟨rfl, rfl, rfl, rfl⟩
  · rw [lost, reselect_leaves (src := src) (by simpa using sel) (by rw [sourceRec_setSource]; exact (SourceRec.afterLoss_state _ _).2)]
    simp

/-! ### The at-rest finding -/

/-- R6: a source at the at-rest finding is SEARCHING, or OFF as before. -/
theorem SourceRec.atRest_eq (r : SourceRec) : r.atRest = if r.state = .off ∨ r.state = .searching then r else r.search := by
  unfold atRest
  cases state : r.state <;> simp

theorem SourceRec.atRest_state (r : SourceRec) : r.atRest.state ≠ .qualified := by
  rw [atRest_eq]
  split
  · rename_i h
    obtain h | h := h <;> simp [h]
  · simp

/-- The timing unit with both sources found at rest, before the selection follows. -/
def restedTiming (s : State) : State :=
  s.setTiming { s.timing with
    index := s.timing.index.atRest, comm := s.timing.comm.atRest, atRest := true, restStart := none }

@[simp] theorem sourceRec_restedTiming (s : State) (src : Source) :
    sourceRec (restedTiming s).timing src = (sourceRec s.timing src).atRest := by cases src <;> rfl

/-- R6, R7: no source being QUALIFIED, the selection is NONE. -/
theorem reselect_restedTiming (s : State) :
    (reselect s (restedTiming s)).timing =
      { (restedTiming s).timing with sel := none, rev := if s.timing.sel = none then s.timing.rev else none } := by
  have rested (src : Source) : (sourceRec (restedTiming s).timing src).state ≠ .qualified := by
    rw [sourceRec_restedTiming]; exact SourceRec.atRest_state _
  cases sel : s.timing.sel with
  | none =>
    have none : selectionNow (restedTiming s) = none := by simp [selectionNow, qualified, SourceRec.atRest_state]
    rw [reselect_stays (.inr (none.trans sel.symm))]
    simp [restedTiming, sel]
  | some src =>
    rw [reselect_leaves (s := restedTiming s) (src := src) sel (rested src)]
    simp [SourceRec.atRest_state]

theorem foundAtRest_timing (s : State) :
    (foundAtRest s).timing = { (reselect s (restedTiming s)).timing with speed := 0, measured := true } := by
  unfold foundAtRest
  dsimp only
  rw [(deliver_frame _).2.1, (governorRest_frame _).2.1, unordered3_timing]
  · rfl
  all_goals intro u; simp

theorem restDue_of {s : State} {t0 : Nat} (started : s.timing.restStart = some t0) (passed : 3000000 ≤ s.now - t0) :
    restDue s = true := by
  rw [restDue, started]
  exact decide_eq_true passed

/-- Settles O21. -/
theorem restTimerFindsDrumAtRest : Obligations.RestTimerFindsDrumAtRest := by
  intro dt t0 s started passed
  have due : restDue (advance dt s) = true := restDue_of started passed
  refine ⟨event (fun t => if restDue t then foundAtRest t else t) dt s, rfl, ?_⟩
  rw [event_timing, if_pos due, foundAtRest_timing, reselect_restedTiming]
  refine ⟨rfl, rfl, rfl, rfl, fun sel => by simp [sel], fun src => ?_⟩
  have record : sourceRec (restedTiming (advance dt s)).timing src = (sourceRec s.timing src).atRest :=
    sourceRec_restedTiming _ src
  have found (t : Timing) (h : sourceRec t src = (sourceRec s.timing src).atRest) :
      if (sourceRec s.timing src).state = .off ∨ (sourceRec s.timing src).state = .searching then
        sourceRec t src = sourceRec s.timing src
      else (sourceRec t src).state = .searching ∧ (sourceRec t src).count = 0 ∧ (sourceRec t src).interval = none ∧
        (sourceRec t src).refPeriod = none := by
    rw [h, SourceRec.atRest_eq]
    split <;> simp
  exact found _ (by rw [← record]; cases src <;> rfl)

/-! ### The end of a run-down -/

/-- STOPPING or TRIP with no step in hand. -/
def RunsDown (s : State) : Prop := (s.gov.state = .stopping ∨ s.gov.state = .trip) ∧ s.gov.step = none

theorem RunsDown.of_gov {s t : State} (state : t.gov.state = s.gov.state) (step : t.gov.step = s.gov.step) (h : RunsDown s) :
    RunsDown t := by
  unfold RunsDown
  rwa [state, step]

theorem RunsDown.rest {s : State} (h : RunsDown s) : atRestOrRunningDown s := ⟨.inr h.1, h.2⟩

theorem RunsDown.deliver {s : State} (h : RunsDown s) : RunsDown (deliver s) := by
  obtain ⟨state, step, -⟩ := deliver_rest h.rest
  exact h.of_gov state step

/-- R72: a trip in STOPPING or TRIP goes on with the run-down. -/
theorem RunsDown.detect {s : State} (f : FaultKind) (h : RunsDown s) : RunsDown (detect f s) := by
  unfold Machine.detect
  dsimp only
  split
  · exact h.of_gov (by simp) (by simp)
  · exact h.of_gov (by simp) (by simp)
  · split <;> exact ⟨.inr (by simp), by simp⟩

theorem RunsDown.referenceTest {s : State} (h : RunsDown s) : RunsDown (referenceTest s) := ite_keeps (h.detect _) h

theorem RunsDown.sensorCheck {s : State} (h : RunsDown s) : RunsDown (sensorCheck s) :=
  ite_keeps (.detect _ (h.of_gov rfl rfl)) (h.of_gov rfl rfl)

theorem RunsDown.bandPassed {s : State} (h : RunsDown s) : bandPassed s = s := by
  unfold Machine.bandPassed
  obtain ⟨state | state, -⟩ := h <;> rw [state]

theorem RunsDown.governorSpeed {s : State} (old : Nat) (h : RunsDown s) : RunsDown (governorSpeed old s) := by
  have tested : RunsDown (Machine.sensorCheck (if s.gov.state ≠ .idle ∧ old ≤ (govSet s).ceiling + 20 ∧
      (govSet s).ceiling + 20 < s.timing.speed then Machine.detect .overspeed s else s)) :=
    RunsDown.sensorCheck (ite_keeps (h.detect _) h)
  unfold Machine.governorSpeed
  dsimp only
  rw [tested.bandPassed]
  exact tested.of_gov rfl rfl

theorem RunsDown.unordered3 {s : State} {f g k : State → State} (hf : ∀ u, RunsDown u → RunsDown (f u))
    (hg : ∀ u, RunsDown u → RunsDown (g u)) (hk : ∀ u, RunsDown u → RunsDown (k u)) (h : RunsDown s) :
    RunsDown (unordered3 f g k s) := unordered3_keeps (fun _ hu => hu.of_gov rfl rfl) hf hg hk h

theorem RunsDown.reselect {s : State} (old : State) (h : RunsDown s) : RunsDown (reselect old s) := by
  unfold Machine.reselect
  split
  · exact h
  · refine .unordered3 (fun u hu => ?_) (fun u hu => ite_keeps hu.referenceTest.deliver hu)
      (fun u hu => .deliver (hu.of_gov (by simp [anchorCheck]) (by simp [anchorCheck])))
      (h.of_gov (by simp) (by simp))
    exact ite_keeps (.deliver (hu.of_gov (by simp) (by simp))) hu

/-- IDLE with the target 0, no run and no step in hand. -/
def IdleDown (s : State) : Prop := s.gov.state = .idle ∧ s.gov.target = 0 ∧ s.gov.run = false ∧ s.gov.step = none

theorem IdleDown.of_kept {s t : State} (h : IdleDown s) (k : RestKept s t) : IdleDown t := by
  obtain ⟨state, step, target, run, -⟩ := k
  unfold IdleDown
  rwa [state, step, target, run]

theorem IdleDown.rest {s : State} (h : IdleDown s) : atRestOrRunningDown s := ⟨.inl h.1, h.2.2.2⟩

/-- R71: the at-rest finding of a run-down enters IDLE. -/
theorem RunsDown.restMove {s : State} (h : RunsDown s) : IdleDown (restMove s) := by
  obtain ⟨state, step⟩ := h
  unfold Machine.restMove
  rw [if_pos state]
  dsimp only
  split <;> simp [IdleDown, enterIdle, step]

theorem dropSettledClass_rest {s : State} (h : atRestOrRunningDown s) : RestKept s (dropSettledClass s) :=
  .trans (t := s.setGov { s.gov with settledSinceRest := none }) (by simp [RestKept]) (recomputeClass_rest h)

theorem RunsDown.governorRest {s : State} (h : RunsDown s) : IdleDown (governorRest s) := by
  have class_first (u : State) (hu : RunsDown u) : IdleDown (Machine.restMove (dropSettledClass u)) := by
    obtain ⟨state, step, -⟩ := dropSettledClass_rest hu.rest
    exact (hu.of_gov state step).restMove
  have move_first (u : State) (hu : RunsDown u) : IdleDown (dropSettledClass (Machine.restMove u)) :=
    hu.restMove.of_kept (dropSettledClass_rest hu.restMove.rest)
  unfold Machine.governorRest unordered
  split
  · exact class_first s h
  · split
    · exact class_first _ (h.of_gov rfl rfl)
    · exact move_first _ (h.of_gov rfl rfl)

theorem RunsDown.foundAtRest {s : State} (h : RunsDown s) : IdleDown (foundAtRest s) := by
  unfold Machine.foundAtRest
  extract_lets timing rested reselected measured u
  have moved : RunsDown reselected := .reselect s (h.of_gov rfl rfl)
  have spoken : RunsDown (Machine.unordered3 (fun x => Machine.deliver (changeover 0 x))
      (fun x => Machine.deliver (Machine.governorSpeed reselected.timing.speed x))
      (fun x => Machine.deliver (dosingSpeed 0 x)) u) :=
    .unordered3 (fun x hx => .deliver (hx.of_gov (by simp) (by simp))) (fun x hx => (hx.governorSpeed _).deliver)
      (fun x hx => .deliver (hx.of_gov (by simp) (by simp))) (moved.of_gov rfl rfl)
  exact spoken.governorRest.of_kept (deliver_rest spoken.governorRest.rest)

/-- Settles O22. -/
theorem restEndsRunDown : Obligations.RestEndsRunDown := by
  intro dt t0 s started passed law running
  have due : restDue (advance dt s) = true := restDue_of started passed
  have down : RunsDown (advance dt s) := by
    have rest := (restLaw_iff s).1 law (by obtain state | state := running <;> simp [state, GovState.rests])
    exact ⟨running, rest.2⟩
  obtain ⟨state, target, run, -⟩ := down.foundAtRest.of_kept (deliver_rest down.foundAtRest.rest)
  refine ⟨event (fun t => if restDue t then foundAtRest t else t) dt s, rfl, ?_⟩
  simp only [event, if_pos due, settle_frame, stamp_gov_fields]
  exact ⟨state, target, run⟩

end Sys2Proof.Machine

/-! The S-port's requests and reads (R16, R19, R20), and the drum angle (R10, R12, R13). -/

namespace Sys2Proof.Machine

open Sys2Proof.Safety Sys2Proof.Statement

/-! ### Requests -/

/-- R20: an idle S-port starts the read at once. -/
theorem sampleRequest_idle (r : SampleRequest) {s : State} (idle : s.est.reading = none) :
    (sampleRequest r s).est.reading = some (r, false) ∧ (sampleRequest r s).est.waiting = s.est.waiting ∧
      (sampleRequest r s).est.pins = .frame := by
  simp [sampleRequest, idle]

/-- R20: with a read in progress the request waits, or is not read where four wait already. -/
theorem sampleRequest_busy (r : SampleRequest) {s : State} (busy : s.est.reading ≠ none) :
    (sampleRequest r s).est.reading = s.est.reading ∧ (sampleRequest r s).est.pins = s.est.pins ∧
      (sampleRequest r s).est.waiting = if s.est.waiting.length < 4 then s.est.waiting ++ [r] else s.est.waiting := by
  obtain ⟨x, reading⟩ := Option.ne_none_iff_exists'.1 busy
  unfold sampleRequest
  dsimp only
  rw [reading]
  dsimp only
  split <;> simp

/-- R16: the request that the next sample point of a revolution makes. -/
def requestNow (s : State) (r : Revolution) : SampleRequest where
  rev := s.timing.counter + 1
  index := r.nextSample
  angle := (drumAngle s).getD 0 / 256
  anchored := isAnchored s.timing

theorem samplePointNow_slow {s : State} {r : Revolution} (rev : s.timing.rev = some r) (slow : s.timing.speed < 60) :
    samplePointNow s = s.setTiming { s.timing with rev := some { r with nextSample := r.nextSample + 1 } } := by
  unfold samplePointNow
  rw [rev]
  exact if_pos slow

theorem samplePointNow_fast {s : State} {r : Revolution} (rev : s.timing.rev = some r) (fast : 60 ≤ s.timing.speed) :
    samplePointNow s = sampleRequest (requestNow s r) (s.setTiming { s.timing with rev := some { r with
      nextSample := r.nextSample + 1, requests := r.requests + 1, anchored := r.anchored && isAnchored s.timing } }) := by
  unfold samplePointNow
  rw [rev]
  exact if_neg (Nat.not_lt.2 fast)

/-- Settles O23. -/
theorem samplePointIsRequested : Obligations.SamplePointIsRequested := by
  intro dt r s owed rev due
  have est : (event (fun t => if sampleDue t then samplePointNow t else t) dt s).est = (samplePointNow (advance dt s)).est := by
    rw [(event_machine (by rw [if_pos due]; simpa using owed)).1, if_pos due]
  refine ⟨event (fun t => if sampleDue t then samplePointNow t else t) dt s, rfl, ?_⟩
  rw [est, event_timing, if_pos due]
  refine ⟨fun fast => ?_, fun slow => ?_⟩
  · rw [samplePointNow_fast (s := advance dt s) rev fast]
    refine ⟨by simp, fun idle => ?_, fun busy => ?_⟩
    · exact sampleRequest_idle (requestNow (advance dt s) r) (by simpa using idle)
    · exact sampleRequest_busy (requestNow (advance dt s) r) (by simpa using busy)
  · rw [samplePointNow_slow (s := advance dt s) rev slow]
    simp

/-! ### Reads -/

/-- R19: a good frame has its status bit set and each axis in range. -/
theorem goodFrame_iff (f : SportFrame) : goodFrame f = true ↔ f.status.getLsbD 0 = true ∧
    (-8000 ≤ axis f.xLow f.xHigh ∧ axis f.xLow f.xHigh ≤ 8000) ∧ (-8000 ≤ axis f.yLow f.yHigh ∧ axis f.yLow f.yHigh ≤ 8000) ∧
    (-8000 ≤ axis f.zLow f.zHigh ∧ axis f.zLow f.zHigh ≤ 8000) := by
  simp only [goodFrame, inRange, Bool.and_eq_true, decide_eq_true_eq, and_assoc]

/-- Settles O24. -/
theorem sportReadFilesGoodSample : Obligations.SportReadFilesGoodSample := by
  intro dt f q gap s owed reading
  have est : (event (readComplete f) dt s).est = (readComplete f (advance dt s)).est :=
    (event_machine (by simpa using owed)).1
  have read : (readComplete f (advance dt s)).est = { s.est with
      collection := fileSample f q gap s.est.collection, reading := s.est.waiting.head?.map fun w => (w, false),
      waiting := s.est.waiting.tail, pins := if s.est.waiting.isEmpty then .idle else .frame } := by
    simp [readComplete, reading]
  refine ⟨event (readComplete f) dt s, rfl, ?_⟩
  rw [est, read]
  refine ⟨List.drop_one.symm, rfl, fun none => by simp [none, SportPins.idle], fun some => ?_, fun none => by simp [none, fileSample],
    fun c collection => ?_⟩
  · have waits : s.est.waiting.isEmpty = false := by simpa using some
    rw [waits]
    rfl
  · have filed : fileSample f q gap (some c) = if c.rev = q.rev ∧ gap = false ∧ goodFrame f = true then
        some { c with samples := c.samples ++
          [{ index := q.index, x := axis f.xLow f.xHigh, y := axis f.yLow f.yHigh, angle := q.angle }] }
        else some c := by
      simp [fileSample]
    rw [collection]
    split
    · rename_i good
      rw [← goodFrame_iff] at good
      exact filed.trans (if_pos good)
    · rename_i bad
      rw [← goodFrame_iff] at bad
      exact filed.trans (if_neg bad)

end Sys2Proof.Machine

/-! What a pulse does to the timing unit (R2, R3, R8 to R10, R13 to R16), and the drum angle (R10, R12, R13). -/

namespace Sys2Proof.Machine

open Sys2Proof.Safety Sys2Proof.Statement

/-! ### What boundaries and the selection leave -/

/-- The source records, the COMM angle and alignment, and the rest timer are as before. -/
def Timing.PulsesKept (t u : Timing) : Prop :=
  u.index = t.index ∧ u.comm = t.comm ∧ u.c = t.c ∧ u.align = t.align ∧ u.commAngle = t.commAngle ∧
    u.commAngleAt = t.commAngleAt ∧ u.commFirst = t.commFirst ∧ u.atRest = t.atRest ∧ u.restStart = t.restStart

theorem Timing.PulsesKept.refl (t : Timing) : t.PulsesKept t := by simp [PulsesKept]

theorem Timing.PulsesKept.trans {t u v : Timing} (h : t.PulsesKept u) (k : u.PulsesKept v) : t.PulsesKept v := by
  simp_all [PulsesKept]

theorem Timing.PulsesKept.of_eq {t u : Timing} (h : u = t) : t.PulsesKept u := h ▸ .refl t

theorem reselect_pulses (old s : State) : s.timing.PulsesKept (reselect old s).timing := by
  obtain same | moved := reselect_timing old s
  · exact .of_eq same
  · rw [moved]; simp [Timing.PulsesKept]

theorem measure_eq (period : Nat) (s : State) :
    (measure period s).timing = { s.timing with speed := speedOf s period, measured := true } := by
  unfold measure
  dsimp only
  split <;> simp

@[simp] theorem handSpeed_timing (old s : State) : (handSpeed old s).timing = s.timing := by simp

theorem beginRev_pulses (s : State) : s.timing.PulsesKept (beginRev s).timing := by
  rw [beginRev_timing]; simp [Timing.PulsesKept]

theorem switchPreferred_pulses (s : State) : s.timing.PulsesKept (switchPreferred s).timing := by
  by_cases h : s.timing.sel = some (otherSource s.settings.inForce.reference.preferred) ∧
      qualified s.timing s.settings.inForce.reference.preferred = true
  · rw [switchPreferred_timing h]; simp [Timing.PulsesKept]
  · rw [switchPreferred_stays h]; exact beginRev_pulses s

theorem boundary_pulses (src : Source) (period : Nat) (s : State) : s.timing.PulsesKept (boundary src period s).timing := by
  unfold boundary
  split
  · unfold openingBoundary
    refine .trans ?_ (beginRev_pulses _)
    simp [measure_eq, Timing.PulsesKept]
  · rename_i r _
    obtain ⟨u, v, ends, -, -, timing, -⟩ := revolutionBoundary_timing src r s
    rw [ends]
    refine .trans ?_ (switchPreferred_pulses u)
    rw [timing]; simp [Timing.PulsesKept]

/-- R10: the timing unit after its grid has moved or not. -/
def Timing.discarded (moved : Bool) (t : Timing) : Timing := { t with rev := if moved then none else t.rev }

theorem discardRev_timing (moved : Bool) (s : State) : (discardRev moved s).timing = s.timing.discarded moved := by
  cases moved with
  | false => rfl
  | true =>
    cases rev : s.timing.rev with
    | none =>
      have same : s.timing = s.timing.discarded true := by simp only [Timing.discarded, if_true, ← rev]
      simpa [discardRev, gapIf, rev] using same
    | some r => simp [discardRev, gapIf, rev, Timing.discarded]

/-- Two operations of which one leaves the timing unit alone. -/
theorem unordered_timing_of {f g : State → State} {change : Timing → Timing} (hf : ∀ u, (f u).timing = change u.timing)
    (hg : ∀ u, (g u).timing = u.timing) (s : State) : (unordered f g s).timing = change s.timing := by
  unfold unordered
  (repeat' split) <;> simp [hf, hg]

/-! ### An accepted INDEX pulse -/

/-- R2, R4, R6, R10: what an accepted INDEX pulse does before the boundary: the source records, the rest timer and the alignment. -/
def indexTaken (s : State) : State := align (takePulse .index s)

/-- R2, R4, R6: the timing unit with an accepted pulse in its source's record. -/
theorem takePulse_index_timing (s : State) : (takePulse .index s).timing = { s.timing with
    index := s.timing.index.accept 1 s.now, comm := { s.timing.comm with witnessed := true },
    restStart := some s.now, atRest := false } := rfl

theorem takePulse_comm_timing (s : State) : (takePulse .comm s).timing = { s.timing with
    comm := s.timing.comm.accept s.settings.inForce.reference.p s.now, index := { s.timing.index with witnessed := true },
    restStart := some s.now, atRest := false } := rfl

/-- R10: the timing unit before the boundary of an INDEX pulse. -/
theorem indexTaken_timing (s : State) : (indexTaken s).timing =
    if s.timing.comm.state = .qualified then { (takePulse .index s).timing with
      align := if s.timing.align = .unaligned ∨ s.timing.c = s.settings.inForce.reference.p then .aligned else .misaligned,
      c := 0, commAngle := 0, commAngleAt := s.now, commFirst := true }
    else (takePulse .index s).timing := by
  unfold indexTaken align
  by_cases comm : s.timing.comm.state = .qualified
  · simp [qualified, sourceRec, takePulse_index_timing, comm]
  · simp [qualified, sourceRec, takePulse_index_timing, comm]

/-- R10: the same after the grid has moved. -/
def indexGrid (s : State) : State :=
  if s.timing.sel = some .comm then
    unordered (discardRev (gridMoves s)) (fun u => deliver (anchorCheck u)) (followAngle s (indexTaken s))
  else followAngle s (indexTaken s)

theorem indexGrid_timing (s : State) : (indexGrid s).timing = { (indexTaken s).timing with
    rev := if s.timing.sel = some .comm ∧ gridMoves s = true then none else (indexTaken s).timing.rev } := by
  unfold indexGrid
  by_cases comm : s.timing.sel = some .comm
  · rw [if_pos comm, unordered_timing_of (discardRev_timing _) (by intro u; simp)]
    simp [comm, Timing.discarded]
  · rw [if_neg comm]
    simp [comm]

theorem indexAccepted_eq (s : State) : indexAccepted s =
    let t := if qualified (indexGrid s).timing .index && !qualified s.timing .index then reselect (indexGrid s) (indexGrid s)
      else indexGrid s
    if t.timing.sel = some .index then boundary .index ((sourceRec t.timing .index).interval.getD 0) t else t := rfl

theorem indexAccepted_pulses (s : State) : (indexTaken s).timing.PulsesKept (indexAccepted s).timing := by
  have grid : (indexTaken s).timing.PulsesKept (indexGrid s).timing := by
    rw [indexGrid_timing]; simp [Timing.PulsesKept]
  rw [indexAccepted_eq]
  extract_lets t
  have selected : (indexTaken s).timing.PulsesKept t.timing := by
    unfold t
    split
    · exact grid.trans (reselect_pulses _ _)
    · exact grid
  split
  · exact selected.trans (boundary_pulses _ _ _)
  · exact selected

/-! ### An accepted COMM pulse -/

/-- R13: what an accepted COMM pulse does before the boundary. -/
def commTaken (s : State) : State := commAdvance s (takePulse .comm s)

theorem commProgress_timing (s : State) : (commProgress s).timing = { s.timing with rev := (commProgress s).timing.rev } := by
  unfold commProgress
  split
  · conv => lhs; rw [dueSamples_timing]
    rfl
  · rfl

theorem commAccepted_eq (s : State) : commAccepted s =
    let t := followAngle s (commTaken s)
    let t := if qualified t.timing .comm && !qualified s.timing .comm then reselect t t else t
    if t.timing.sel = some .comm then
      let p := t.settings.inForce.reference.p
      let period := p * t.timing.comm.interval.getD 0
      let t := commProgress t
      if t.timing.c % p = 0 then boundary .comm period t else handSpeed t (measure period t)
    else t := rfl

theorem commAccepted_pulses (s : State) : (commTaken s).timing.PulsesKept (commAccepted s).timing := by
  rw [commAccepted_eq]
  extract_lets followed t p period u
  have same : followed.timing = (commTaken s).timing := by simp [followed]
  have selected : (commTaken s).timing.PulsesKept t.timing := by
    rw [← same]
    unfold t
    split
    · exact reselect_pulses _ _
    · exact .refl _
  have progress : (commTaken s).timing.PulsesKept u.timing := by
    refine selected.trans ?_
    rw [commProgress_timing]
    simp [Timing.PulsesKept]
  split
  · split
    · exact progress.trans (boundary_pulses _ _ _)
    · refine progress.trans ?_
      simp [measure_eq, Timing.PulsesKept]
  · exact selected

/-! ### The record of an accepted pulse -/

section
variable {r : SourceRec} (len now : Nat)

/-- R2: only an OFF source takes no pulse's time. -/
theorem SourceRec.accept_lastPulse (on : r.state ≠ .off) : (r.accept len now).lastPulse = some now := by
  unfold accept
  cases state : r.state
  case off => exact absurd state on
  all_goals rfl

theorem SourceRec.on_of_accepts (accepts : r.rejects now = false) : r.state ≠ .off := by
  intro off
  simp [rejects, off] at accepts

/-- R3: the first accepted pulse of a SEARCHING or LOST source. -/
theorem SourceRec.accept_first (first : r.state = .searching ∨ r.state = .lost) :
    r.accept len now = {
      state := .qualifying, count := 0, lastPulse := some now, interval := none, refPeriod := none, deadline := none,
      witnessed := false, revStart := now, revPulses := 0 } := by
  obtain state | state := first <;> simp [accept, state]

/-- R2, R4: a QUALIFIED source stays so, with the interval and the deadline of its newest pulse. -/
theorem SourceRec.accept_qualified {l : Nat} (qualified : r.state = .qualified) (last : r.lastPulse = some l) :
    (r.accept len now).state = .qualified ∧ (r.accept len now).lastPulse = some now ∧
      (r.accept len now).interval = some (now - l) ∧ (r.accept len now).deadline = some (now + 3 * (now - l)) := by
  simp [accept, qualified, last, Config.lossFactor]

theorem SourceRec.accept_stays_qualified (qualified : r.state = .qualified) :
    (r.accept len now).state = .qualified ∧ ∃ i, (r.accept len now).interval = some i := by
  simp [accept, qualified]

end

/-- R13: the timing unit before the boundary of an accepted pulse of a QUALIFIED COMM. -/
theorem commTaken_timing {s : State} (comm : s.timing.comm.state = .qualified) :
    (commTaken s).timing = { (takePulse .comm s).timing with
      c := s.timing.c + 1, commAngleAt := s.now, commFirst := false,
      commAngle := if s.timing.align = .unaligned ∧ (s.timing.c + 1) % s.settings.inForce.reference.p = 0 then 0
        else if s.timing.commFirst then commAngleNow s else (s.timing.commAngle + commStep s) % Config.fullTurn } := by
  have after : (s.timing.comm.accept s.settings.inForce.reference.p s.now).state = .qualified :=
    (SourceRec.accept_stays_qualified _ _ comm).1
  have step : commStep (takePulse .comm s) = commStep s := rfl
  unfold commTaken commAdvance
  simp only [qualified, sourceRec, takePulse_comm_timing, comm, after, step]
  rfl

/-! ### The drum angle -/

/-- R12: the INDEX angle at a pulse. -/
theorem indexAngle_at_pulse {s : State} (pulse : s.timing.index.lastPulse = some s.now) : indexAngle s = 0 := by
  unfold indexAngle
  rw [pulse]
  split
  · rename_i l r last _
    obtain rfl := Option.some.inj last
    simp [since]
  · rfl

/-- R13: at the moment at which the COMM angle is set it has not gone on. -/
theorem commAdvanced_at_pulse {s : State} (set : s.timing.commAngleAt = s.now) (i : Nat) : commAdvanced s i = 0 := by
  simp [commAdvanced, set, since]

theorem drumAngle_index {s : State} (sel : s.timing.sel = some .index) : drumAngle s = some (indexAngle s) := by
  simp [drumAngle, sel]

theorem drumAngle_comm {s : State} (sel : s.timing.sel = some .comm) : drumAngle s = some (commAngleNow s) := by
  simp [drumAngle, sel]

/-- R12: at an accepted INDEX pulse the INDEX angle is 0. -/
theorem indexAngle_event_indexPulse {dt : Nat} {s : State} (accepts : s.timing.index.rejects (s.now + dt) = false) :
    indexAngle (event indexPulse dt s) = 0 := by
  refine indexAngle_at_pulse ?_
  obtain ⟨index, -⟩ := indexAccepted_pulses (advance dt s)
  have taken : (indexTaken (advance dt s)).timing.index = s.timing.index.accept 1 (s.now + dt) := by
    rw [indexTaken_timing]
    split <;> rfl
  rw [event_timing, event_now (by intro u; simp), indexPulse, if_neg (by simpa using accepts), index, taken]
  exact SourceRec.accept_lastPulse _ _ (SourceRec.on_of_accepts _ accepts)

/-- R10: an accepted INDEX pulse sets the angle of a QUALIFIED COMM to 0. -/
theorem commAngleNow_event_indexPulse {dt : Nat} {s : State} (accepts : s.timing.index.rejects (s.now + dt) = false)
    (comm : s.timing.comm.state = .qualified) : commAngleNow (event indexPulse dt s) = 0 := by
  obtain ⟨-, -, -, -, angle, angleAt, -⟩ := indexAccepted_pulses (advance dt s)
  have pulse : (event indexPulse dt s).timing = (indexAccepted (advance dt s)).timing := by
    rw [event_timing, indexPulse, if_neg (by simpa using accepts)]
  rw [← pulse, indexTaken_timing, if_pos (by simpa using comm)] at angle angleAt
  have set : (event indexPulse dt s).timing.commAngleAt = (event indexPulse dt s).now := by
    rw [angleAt, event_now (by intro u; simp)]
    rfl
  unfold commAngleNow
  split
  · rw [commAdvanced_at_pulse set, angle]
    rfl
  · exact angle

/-- R13: at an accepted COMM pulse the angle of a QUALIFIED COMM is the one that is set. -/
theorem commAngleNow_event_commPulse {dt : Nat} {s : State} (accepts : s.timing.comm.rejects (s.now + dt) = false)
    (comm : s.timing.comm.state = .qualified) :
    commAngleNow (event commPulse dt s) = (commTaken (advance dt s)).timing.commAngle % Config.fullTurn := by
  obtain ⟨-, record, -, -, angle, angleAt, -⟩ := commAccepted_pulses (advance dt s)
  have pulse : (event commPulse dt s).timing = (commAccepted (advance dt s)).timing := by
    rw [event_timing, commPulse, if_neg (by simpa using accepts)]
  obtain ⟨i, interval⟩ := (SourceRec.accept_stays_qualified s.settings.inForce.reference.p (s.now + dt) comm).2
  have taken : (commTaken (advance dt s)).timing.comm = s.timing.comm.accept s.settings.inForce.reference.p (s.now + dt) ∧
      (commTaken (advance dt s)).timing.commAngleAt = s.now + dt := by
    rw [commTaken_timing (by simpa using comm)]
    exact ⟨rfl, rfl⟩
  rw [← pulse] at record angle angleAt
  have set : (event commPulse dt s).timing.commAngleAt = (event commPulse dt s).now := by
    rw [angleAt, event_now (by intro u; simp)]
    exact taken.2
  unfold commAngleNow
  rw [record, taken.1, interval]
  dsimp only
  rw [commAdvanced_at_pulse set, angle, Nat.add_zero]

end Sys2Proof.Machine

namespace Sys2Proof

open Machine

/-- Settles O25. -/
theorem drumAngle : Obligations.DrumAngle := by
  refine ⟨fun dt s t accepts run sel => ?_, fun l p s sel last period => ?_, fun dt s t accepts comm run sel => ?_,
    fun dt s t accepts comm selected run sel => ?_, fun i s sel interval positive => ?_⟩
  · rw [drumAngle_index sel, outcome_of_exec run]
    exact congrArg some (indexAngle_event_indexPulse accepts)
  · have angle : Machine.drumAngle s = some (if s.now - l < p then 360 * 256 * (s.now - l) / p
        else if s.now - l = 0 then 0 else 359 * 256 + 255) := by
      rw [drumAngle_index sel, indexAngle, last, period]
      rfl
    refine ⟨fun before => ?_, fun beyond gone => ?_⟩
    · rw [angle, if_pos before]
    · rw [angle, if_neg (Nat.not_lt.2 beyond), if_neg (Nat.ne_of_gt gone)]
  · rw [drumAngle_comm sel, outcome_of_exec run]
    exact congrArg some (commAngleNow_event_indexPulse accepts comm)
  · have old : Machine.drumAngle (advance dt s) = some (commAngleNow (advance dt s)) := drumAngle_comm selected
    rw [drumAngle_comm sel, outcome_of_exec run, old]
    refine congrArg some ((commAngleNow_event_commPulse accepts comm).trans ?_)
    rw [commTaken_timing (by simpa using comm)]
    simp only [advance_frame]
    (repeat' split) <;> simp_all [Config.fullTurn, commStep]
  · have positive' : i ≠ 0 := Nat.ne_of_gt positive
    rw [drumAngle_comm sel, commAngleNow, interval]
    dsimp only
    rw [commAdvanced, if_neg positive']
    rfl

end Sys2Proof

/-! Pulses that begin QUALIFYING or are rejected (R2, R3), and pulses that end or open a revolution (R8 to R10, R13 to R16). -/

namespace Sys2Proof.Machine

open Sys2Proof.Safety Sys2Proof.Statement

/-! ### An event that does nothing of its own -/

theorem event_idle {f : State → State} {dt : Nat} {s : State} (idle : f (advance dt s) = advance dt s) (owed : s.est.owed = false) :
    MachineKept s (event f dt s) ∧ RecordsKept s (event f dt s) ∧ SettingsKept s (event f dt s) ∧ PagesKept s (event f dt s) ∧
      LatchesKept s (event f dt s) ∧ AccessKept s (event f dt s) ∧ MemoryKept s (event f dt s) := by
  have quiet : (f (advance dt s)).est.owed = false := by rw [idle]; exact owed
  refine ⟨?_, by simp [RecordsKept, idle], by simp [SettingsKept, idle], by simp [PagesKept, idle],
    by rw [LatchesKept, event_latches quiet, idle]; rfl, by simp [AccessKept, idle], fun a => ?_⟩
  · obtain ⟨est, runner, dosing, lines⟩ := event_machine quiet
    refine ⟨by simp [idle], ?_, event_gov quiet (by simp [idle]), ?_, ?_, ?_⟩
    · simpa [idle] using est
    · simpa [idle] using runner
    · simpa [idle] using dosing
    · simpa [idle] using lines
  · refine readByte_of_mem ?_ a
    rw [event_mem_effect, idle]
    rfl

/-! ### The first pulse of a source, and a rejected one -/

/-- R2, R3: an INDEX pulse that does not qualify INDEX reaches no boundary where INDEX is not selected. -/
theorem indexAccepted_unqualified {s : State} (unqualified : (s.timing.index.accept 1 s.now).state ≠ .qualified)
    (sel : s.timing.sel ≠ some .index) : indexAccepted s = indexGrid s := by
  have taken : (indexTaken s).timing.index = s.timing.index.accept 1 s.now ∧ (indexTaken s).timing.sel = s.timing.sel := by
    rw [indexTaken_timing]
    split <;> exact ⟨rfl, rfl⟩
  have grid : qualified (indexGrid s).timing .index = false ∧ (indexGrid s).timing.sel = s.timing.sel := by
    rw [indexGrid_timing]
    exact ⟨by simpa [qualified, sourceRec, taken.1] using unqualified, taken.2⟩
  rw [indexAccepted_eq]
  simp [grid, sel]

theorem commAccepted_unqualified {s : State}
    (unqualified : (s.timing.comm.accept s.settings.inForce.reference.p s.now).state ≠ .qualified)
    (sel : s.timing.sel ≠ some .comm) : (commAccepted s).timing = (takePulse .comm s).timing := by
  have comm : qualified (takePulse .comm s).timing .comm = false := by
    simpa [qualified, sourceRec, takePulse_comm_timing] using unqualified
  have taken : commTaken s = takePulse .comm s := by
    unfold commTaken commAdvance
    simp [comm]
  have same : (takePulse .comm s).timing.sel = s.timing.sel := rfl
  rw [commAccepted_eq, taken]
  simp [comm, same, sel]

/-- R3: the record of a SEARCHING or LOST source after its first accepted pulse. -/
theorem SourceRec.accept_begins {r : SourceRec} (len now : Nat) (first : r.state = .searching ∨ r.state = .lost) :
    r.rejects now = false ∧ (r.accept len now).state ≠ .qualified := by
  refine ⟨?_, by rw [accept_first _ _ first]; simp⟩
  obtain state | state := first <;> simp [rejects, state]

/-- R2: a QUALIFIED pulse less than half the last interval after the last accepted one, and every pulse of an OFF source. -/
theorem SourceRec.rejects_of {r : SourceRec} {now : Nat} (h : r.state = .off ∨ r.state = .qualified ∧ ∃ l i,
    r.lastPulse = some l ∧ r.interval = some i ∧ 2 * (now - l) < i) : r.rejects now = true := by
  obtain off | ⟨qualified, l, i, last, interval, soon⟩ := h
  · simp [rejects, off]
  · simp [rejects, qualified, last, interval, soon]

/-- Settles O17. -/
theorem pulseBeginsQualifyingOrIsRejected : Obligations.PulseBeginsQualifyingOrIsRejected := by
  refine ⟨fun src dt s first sel => ?_, fun src dt s owed rejected => ?_⟩
  · cases src with
    | index =>
      obtain ⟨accepts, unqualified⟩ := SourceRec.accept_begins (r := s.timing.index) 1 (s.now + dt) first
      have timing : (event indexPulse dt s).timing = { (indexTaken (advance dt s)).timing with
          rev := (indexGrid (advance dt s)).timing.rev } := by
        rw [event_timing, indexPulse, if_neg (by simpa using accepts),
          indexAccepted_unqualified (by simpa using unqualified) (by simpa using sel), indexGrid_timing]
      have record := SourceRec.accept_first (r := s.timing.index) 1 (s.now + dt) first
      refine ⟨event indexPulse dt s, rfl, ?_⟩
      rw [timing, indexTaken_timing]
      split <;> simp [sourceRec, otherSource, takePulse_index_timing, record]
    | comm =>
      obtain ⟨accepts, unqualified⟩ := SourceRec.accept_begins (r := s.timing.comm) s.settings.inForce.reference.p (s.now + dt) first
      have timing : (event commPulse dt s).timing = (takePulse .comm (advance dt s)).timing := by
        rw [event_timing, commPulse, if_neg (by simpa using accepts),
          commAccepted_unqualified (by simpa using unqualified) (by simpa using sel)]
      have record := SourceRec.accept_first (r := s.timing.comm) s.settings.inForce.reference.p (s.now + dt) first
      refine ⟨event commPulse dt s, rfl, ?_⟩
      rw [timing]
      simp [sourceRec, otherSource, takePulse_comm_timing, record]
  · have rejects := SourceRec.rejects_of rejected
    cases src with
    | index => exact ⟨event indexPulse dt s, rfl, event_idle (if_pos rejects) owed⟩
    | comm => exact ⟨event commPulse dt s, rfl, event_idle (if_pos rejects) owed⟩

/-! ### Boundaries -/

/-- R9, R15, R16: a revolution has begun now, with the request of sample 0 at 60 rpm or more. -/
def RevBegun (now : Nat) (t : Timing) : Prop :=
  ∃ u, t.rev = some u ∧ u.start = now ∧ u.nextSample = 1 ∧ u.pulses = 0 ∧ u.requests = if 60 ≤ t.speed then 1 else 0

theorem beginRev_begun (s : State) : RevBegun s.now (beginRev s).timing := by
  rw [beginRev_timing]
  refine ⟨_, rfl, rfl, rfl, rfl, ?_⟩
  by_cases fast : 60 ≤ s.timing.speed <;> simp [fast]

/-- R15: a boundary with no revolution in progress. -/
theorem boundary_opening {s : State} (src : Source) {period : Nat} (none : s.timing.rev = none) (positive : 0 < period) :
    (boundary src period s).timing.counter = s.timing.counter ∧ (boundary src period s).timing.measured = true ∧
      (boundary src period s).timing.speed = (if 3000000 < period then 0 else 60000000 / period) ∧
      (boundary src period s).timing.sel = s.timing.sel ∧ RevBegun s.now (boundary src period s).timing := by
  have opening : boundary src period s = openingBoundary period s := by simp [boundary, none]
  rw [opening, openingBoundary_timing s positive]
  refine ⟨?_, ?_, ?_, ?_, beginRev_begun (s.setTiming { s.timing with
    speed := if 3000000 < period then 0 else 60000000 / period, measured := true })⟩
  all_goals rw [beginRev_timing]; rfl

/-- R9, R14, R15: a boundary that ends a revolution of 3 s at most. -/
theorem boundary_ending {s : State} (src : Source) (period : Nat) {r : Revolution} (rev : s.timing.rev = some r)
    (begun : r.start < s.now) (recent : s.now ≤ r.start + 3000000) :
    ∃ u, boundary src period s = switchPreferred u ∧ u.now = s.now ∧ u.settings = s.settings ∧
      u.timing = { s.timing with
        counter := s.timing.counter + 1, measured := true, speed := 60000000 / (s.now - r.start) } := by
  have ending : boundary src period s = revolutionBoundary src r s := by simp [boundary, rev]
  obtain ⟨u, v, ends, now, settings, timing, speed⟩ := revolutionBoundary_timing src r s
  refine ⟨u, ending.trans ends, now, settings, ?_⟩
  rw [timing, speed begun, if_neg (by omega)]

/-- R8, R15: with no switch to the preferred source the next revolution begins. -/
theorem boundary_ending_stays {s : State} (src : Source) (period : Nat) {r : Revolution} (rev : s.timing.rev = some r)
    (begun : r.start < s.now) (recent : s.now ≤ r.start + 3000000)
    (stays : ¬(s.timing.sel = some (otherSource s.settings.inForce.reference.preferred) ∧
      qualified s.timing s.settings.inForce.reference.preferred = true)) :
    (boundary src period s).timing.counter = s.timing.counter + 1 ∧
      (boundary src period s).timing.speed = 60000000 / (s.now - r.start) ∧
      (boundary src period s).timing.measured = true ∧ (boundary src period s).timing.sel = s.timing.sel ∧
      RevBegun s.now (boundary src period s).timing := by
  obtain ⟨u, ends, now, settings, timing⟩ := boundary_ending src period rev begun recent
  have same : ¬(u.timing.sel = some (otherSource u.settings.inForce.reference.preferred) ∧
      qualified u.timing u.settings.inForce.reference.preferred = true) := by
    rw [settings, timing]
    unfold qualified at *
    cases preferred : s.settings.inForce.reference.preferred <;> simpa [preferred, sourceRec] using stays
  rw [ends, switchPreferred_stays same, ← now]
  refine ⟨?_, ?_, ?_, ?_, beginRev_begun u⟩
  all_goals rw [beginRev_timing, timing]
  all_goals simp [now]

/-- R8: a QUALIFIED preferred source takes over at the boundary of the other. -/
theorem boundary_ending_switches {s : State} (src : Source) (period : Nat) {r : Revolution} (rev : s.timing.rev = some r)
    (begun : r.start < s.now) (recent : s.now ≤ r.start + 3000000)
    (switches : s.timing.sel = some (otherSource s.settings.inForce.reference.preferred) ∧
      qualified s.timing s.settings.inForce.reference.preferred = true) :
    (boundary src period s).timing = { s.timing with
      counter := s.timing.counter + 1, measured := true, speed := 60000000 / (s.now - r.start),
      sel := some s.settings.inForce.reference.preferred, rev := none } := by
  obtain ⟨u, ends, now, settings, timing⟩ := boundary_ending src period rev begun recent
  have same : u.timing.sel = some (otherSource u.settings.inForce.reference.preferred) ∧
      qualified u.timing u.settings.inForce.reference.preferred = true := by
    rw [settings, timing]
    unfold qualified at *
    cases preferred : s.settings.inForce.reference.preferred <;> simpa [preferred, sourceRec] using switches
  rw [ends, switchPreferred_timing same, timing, settings]

theorem boundary_measured (src : Source) (period : Nat) (s : State) : (boundary src period s).timing.measured = true := by
  unfold boundary
  split
  · unfold openingBoundary
    dsimp only
    rw [beginRev_timing]
    simp [measure_eq]
  · rename_i r _
    obtain ⟨u, v, ends, -, -, timing, -⟩ := revolutionBoundary_timing src r s
    rw [ends]
    unfold switchPreferred
    dsimp only
    split
    · simp [timing]
    · rw [beginRev_timing]
      simp [timing]

/-! ### A pulse of the selected source -/

theorem SourceRec.accepts_of_late {r : SourceRec} {now l i : Nat} (qualified : r.state = .qualified) (last : r.lastPulse = some l)
    (interval : r.interval = some i) (late : i ≤ 2 * (now - l)) : r.rejects now = false := by
  simp [rejects, qualified, last, interval, late]

@[simp] theorem indexGrid_kept (s : State) : (indexGrid s).now = s.now ∧ (indexGrid s).settings = s.settings := by
  unfold indexGrid indexTaken
  split <;> simp

/-- R8: an INDEX pulse leaves the selected source selected where it is QUALIFIED. -/
theorem indexAccepted_selected {s : State} (index : s.timing.index.state = .qualified) (sel : s.timing.sel = some .index) :
    indexAccepted s = boundary .index ((s.timing.index.accept 1 s.now).interval.getD 0) (indexGrid s) ∧
      (indexGrid s).timing = (indexTaken s).timing := by
  have taken : (indexTaken s).timing.index = s.timing.index.accept 1 s.now ∧ (indexTaken s).timing.sel = some .index := by
    rw [indexTaken_timing]
    split <;> exact ⟨rfl, sel⟩
  have grid : (indexGrid s).timing = (indexTaken s).timing := by
    rw [indexGrid_timing]
    simp [sel]
  refine ⟨?_, grid⟩
  have was : qualified s.timing .index = true := by simp [qualified, sourceRec, index]
  rw [indexAccepted_eq]
  simp [was, grid, taken, sourceRec]

/-- R13, R16: the state before the boundary of an accepted pulse of a QUALIFIED and selected COMM. -/
def commReady (s : State) : State := commProgress (followAngle s (commTaken s))

theorem commReady_timing (s : State) :
    (commReady s).timing = { (commTaken s).timing with rev := (commReady s).timing.rev } := by
  unfold commReady
  rw [commProgress_timing]
  simp

/-- R16: the progress goes on in the revolution that is in progress. -/
theorem commProgress_rev (s : State) : (s.timing.rev = none → (commProgress s).timing.rev = none) ∧
    ∀ r, s.timing.rev = some r → ∃ u, (commProgress s).timing.rev = some u ∧ u.start = r.start ∧ u.pulses = r.pulses + 1 ∧
      r.nextSample ≤ u.nextSample := by
  refine ⟨fun absent => by simp [commProgress, absent], fun r present => ?_⟩
  obtain ⟨u, due, start, pulses, later⟩ := dueSamples_some 32
    (s := s.setTiming { s.timing with rev := some { r with pulses := r.pulses + 1 } }) rfl
  exact ⟨u, by simpa [commProgress, present] using due, start, pulses, later⟩

@[simp] theorem commTaken_rev (s : State) : (commTaken s).timing.rev = s.timing.rev := by
  unfold commTaken commAdvance
  dsimp only
  (repeat' split) <;> rfl

theorem commReady_rev (s : State) : (s.timing.rev = none → (commReady s).timing.rev = none) ∧
    ∀ r, s.timing.rev = some r → ∃ u, (commReady s).timing.rev = some u ∧ u.start = r.start ∧ u.pulses = r.pulses + 1 ∧
      r.nextSample ≤ u.nextSample := by
  simpa [commReady] using commProgress_rev (followAngle s (commTaken s))

@[simp] theorem commReady_kept (s : State) : (commReady s).now = s.now ∧ (commReady s).settings = s.settings := by
  simp [commReady, commTaken]

theorem commAccepted_selected {s : State} {l : Nat} (comm : s.timing.comm.state = .qualified) (sel : s.timing.sel = some .comm)
    (last : s.timing.comm.lastPulse = some l) : commAccepted s =
      if (s.timing.c + 1) % s.settings.inForce.reference.p = 0 then
        boundary .comm (s.settings.inForce.reference.p * (s.now - l)) (commReady s)
      else handSpeed (commReady s) (measure (s.settings.inForce.reference.p * (s.now - l)) (commReady s)) := by
  obtain ⟨-, -, interval, -⟩ := SourceRec.accept_qualified s.settings.inForce.reference.p s.now comm last
  have taken := commTaken_timing comm
  have was : qualified s.timing .comm = true := by simp [qualified, sourceRec, comm]
  have selected : (commTaken s).timing.sel = some .comm := by rw [taken]; exact sel
  have count : (commReady s).timing.c = s.timing.c + 1 := by rw [commReady_timing, taken]
  have period : (commTaken s).timing.comm.interval.getD 0 = s.now - l := by
    rw [taken]
    simp [takePulse_comm_timing, interval]
  have settings : (commTaken s).settings = s.settings := by simp [commTaken]
  rw [commAccepted_eq]
  simp only [was, Bool.not_true, Bool.and_false, Bool.false_eq_true, if_false, followAngle_frame, selected, if_true, settings,
    period]
  rw [← commReady, count]

/-- R8, R9, R14: an accepted pulse of a preferred and selected INDEX ends the revolution in progress, and the next one begins. -/
theorem indexPulse_ends {dt l i : Nat} {r : Revolution} {s : State} (index : s.timing.index.state = .qualified)
    (sel : s.timing.sel = some .index) (preferred : s.settings.inForce.reference.preferred = .index)
    (last : s.timing.index.lastPulse = some l) (interval : s.timing.index.interval = some i) (late : i ≤ 2 * (s.now + dt - l))
    (rev : s.timing.rev = some r) (begun : r.start < s.now + dt) (recent : s.now + dt ≤ r.start + 3000000) :
    let t := (event indexPulse dt s).timing
    t.counter = s.timing.counter + 1 ∧ t.speed = 60000000 / (s.now + dt - r.start) ∧ t.measured = true ∧
      t.sel = some .index ∧ t.index = s.timing.index.accept 1 (s.now + dt) ∧ RevBegun (s.now + dt) t := by
  have accepts := SourceRec.accepts_of_late index last interval late
  obtain ⟨reaches, grid⟩ := indexAccepted_selected (s := advance dt s) index sel
  obtain ⟨now, settings⟩ := indexGrid_kept (advance dt s)
  have pulse : (event indexPulse dt s).timing = (boundary .index
      ((s.timing.index.accept 1 (s.now + dt)).interval.getD 0) (indexGrid (advance dt s))).timing := by
    rw [event_timing, indexPulse, if_neg (by simpa using accepts), reaches]
    rfl
  obtain ⟨counter', sel', rev', index'⟩ : (indexGrid (advance dt s)).timing.counter = s.timing.counter ∧
      (indexGrid (advance dt s)).timing.sel = some .index ∧ (indexGrid (advance dt s)).timing.rev = some r ∧
      (indexGrid (advance dt s)).timing.index = s.timing.index.accept 1 (s.now + dt) := by
    rw [grid, indexTaken_timing]
    split <;> exact ⟨rfl, sel, rev, rfl⟩
  obtain ⟨counter, speed, measured, selected, next⟩ := boundary_ending_stays .index
    ((s.timing.index.accept 1 (s.now + dt)).interval.getD 0) rev' (by rw [now]; exact begun) (by rw [now]; exact recent)
    (by rw [settings, sel']; simp [preferred, otherSource])
  obtain ⟨record, -⟩ := boundary_pulses .index ((s.timing.index.accept 1 (s.now + dt)).interval.getD 0)
    (indexGrid (advance dt s))
  dsimp only
  rw [pulse, counter, speed, measured, selected, record, counter', sel', index', now]
  exact ⟨rfl, rfl, rfl, rfl, rfl, by rw [now] at next; exact next⟩

/-- R13: what an accepted pulse of a QUALIFIED and selected COMM leaves in every case. -/
theorem commPulse_pulses {dt : Nat} {s : State} (comm : s.timing.comm.state = .qualified)
    (accepts : s.timing.comm.rejects (s.now + dt) = false) :
    let t := (event commPulse dt s).timing
    t.c = s.timing.c + 1 ∧ t.align = s.timing.align ∧
      t.comm = s.timing.comm.accept s.settings.inForce.reference.p (s.now + dt) := by
  obtain ⟨-, record, count, align, -⟩ := commAccepted_pulses (advance dt s)
  have pulse : (event commPulse dt s).timing = (commAccepted (advance dt s)).timing := by
    rw [event_timing, commPulse, if_neg (by simpa using accepts)]
  dsimp only
  rw [pulse, record, count, align, commTaken_timing (by simpa using comm)]
  exact ⟨rfl, rfl, rfl⟩

/-- R10: an accepted INDEX pulse aligns a QUALIFIED COMM; with COMM selected the revolution is discarded where the grid moves. -/
theorem indexPulse_aligns {dt : Nat} {s : State} (accepts : s.timing.index.rejects (s.now + dt) = false)
    (comm : s.timing.comm.state = .qualified) :
    let t := (event indexPulse dt s).timing
    t.c = 0 ∧ t.align = (if s.timing.align = .unaligned ∨ s.timing.c = s.settings.inForce.reference.p then .aligned
        else .misaligned) ∧
      (s.timing.sel = some .comm → t.sel = some .comm ∧ t.counter = s.timing.counter ∧ t.speed = s.timing.speed ∧
        t.rev = if s.timing.c % s.settings.inForce.reference.p = 0 then s.timing.rev else none) := by
  have pulse : (event indexPulse dt s).timing = (indexAccepted (advance dt s)).timing := by
    rw [event_timing, indexPulse, if_neg (by simpa using accepts)]
  have taken := indexTaken_timing (advance dt s)
  rw [if_pos (by simpa using comm)] at taken
  obtain ⟨-, -, count, align, -⟩ := indexAccepted_pulses (advance dt s)
  dsimp only
  rw [pulse, count, align]
  refine ⟨by rw [taken], by rw [taken]; rfl, fun sel => ?_⟩
  have grid := indexGrid_timing (advance dt s)
  have selected : (indexGrid (advance dt s)).timing.sel = some .comm := by rw [grid, taken]; exact sel
  have qualifies : qualified (indexGrid (advance dt s)).timing .comm = true := by
    rw [grid, taken]
    simpa [qualified, sourceRec, takePulse_index_timing] using comm
  have stays : indexAccepted (advance dt s) = indexGrid (advance dt s) := by
    rw [indexAccepted_eq, reselect_stays (.inl (by rw [selected]; exact qualifies))]
    simp [selected]
  have moves : gridMoves (advance dt s) = (s.timing.c % s.settings.inForce.reference.p != 0) := by
    simp [gridMoves, qualified, sourceRec, comm, sel]
  rw [stays, selected, grid, taken]
  refine ⟨rfl, rfl, rfl, ?_⟩
  by_cases whole : s.timing.c % s.settings.inForce.reference.p = 0 <;> simp [moves, sel, whole, takePulse_index_timing]

/-- Settles O18. -/
theorem boundaryEndsRevolution : Obligations.BoundaryEndsRevolution := by
  refine ⟨fun dt l i r s index sel preferred last interval late rev begun recent => ?_,
    fun dt l i s comm sel last interval late positive later => ?_, fun dt s accepts comm => ?_⟩
  · obtain ⟨counter, speed, measured, selected, record, u, rev', start, sample, pulses, requests⟩ :=
      indexPulse_ends index sel preferred last interval late rev begun recent
    obtain ⟨state, lastPulse, interval', deadline⟩ := SourceRec.accept_qualified 1 (s.now + dt) index last
    refine ⟨event indexPulse dt s, u, rfl, counter, speed, measured, selected, ?_, ?_, ?_, ?_, rev', start, sample, pulses,
      requests⟩
    all_goals rw [record]; assumption
  · have accepts := SourceRec.accepts_of_late comm last interval late
    obtain ⟨count, align, record⟩ := commPulse_pulses comm accepts
    obtain ⟨state, lastPulse, interval', deadline⟩ :=
      SourceRec.accept_qualified s.settings.inForce.reference.p (s.now + dt) comm last
    have period : 0 < s.settings.inForce.reference.p * (s.now + dt - l) := Nat.mul_pos positive (by omega)
    obtain ⟨now, settings⟩ := commReady_kept (advance dt s)
    obtain ⟨absent, present⟩ := commReady_rev (advance dt s)
    have pulse : (event commPulse dt s).timing =
        (if (s.timing.c + 1) % s.settings.inForce.reference.p = 0 then
          boundary .comm (s.settings.inForce.reference.p * (s.now + dt - l)) (commReady (advance dt s))
        else handSpeed (commReady (advance dt s))
          (measure (s.settings.inForce.reference.p * (s.now + dt - l)) (commReady (advance dt s)))).timing := by
      rw [event_timing, commPulse, if_neg (by simpa using accepts), commAccepted_selected (s := advance dt s) comm sel last]
      rfl
    obtain ⟨counter', sel', index'⟩ : (commReady (advance dt s)).timing.counter = s.timing.counter ∧
        (commReady (advance dt s)).timing.sel = some .comm ∧
        (commReady (advance dt s)).timing.index = { s.timing.index with witnessed := true } := by
      rw [commReady_timing, commTaken_timing (by simpa using comm)]
      exact ⟨rfl, sel, rfl⟩
    refine ⟨event commPulse dt s, rfl, count, align, by rw [record]; exact state, by rw [record]; exact lastPulse,
      by rw [record]; exact interval', by rw [record]; exact deadline, ?_, fun part => ?_, fun whole none => ?_,
      fun r whole rev begun recent => ?_⟩
    · rw [pulse]
      split
      · exact boundary_measured _ _ _
      · simp [measure_eq]
    · have spoken : (event commPulse dt s).timing = { (commReady (advance dt s)).timing with
          speed := if 3000000 < s.settings.inForce.reference.p * (s.now + dt - l) then 0
            else 60000000 / (s.settings.inForce.reference.p * (s.now + dt - l)), measured := true } := by
        rw [pulse, if_neg part, handSpeed_timing, measure_timing _ period]
      rw [spoken]
      exact ⟨counter', sel', rfl, absent, present⟩
    · obtain ⟨counter, -, speed, selected, next⟩ := boundary_opening .comm (absent none) period
      rw [if_pos whole] at pulse
      have begun : (event commPulse dt s).timing.sel = some .comm ∧ RevBegun (s.now + dt) (event commPulse dt s).timing := by
        rw [pulse, selected, sel']
        exact ⟨rfl, by rw [now] at next; exact next⟩
      rw [pulse, counter, speed, counter']
      exact ⟨rfl, rfl, begun⟩
    · obtain ⟨u, rev', start, -⟩ := present r rev
      have begun' : u.start < (commReady (advance dt s)).now := by rw [now, start]; exact begun
      have recent' : (commReady (advance dt s)).now ≤ u.start + 3000000 := by rw [now, start]; exact recent
      have length : (commReady (advance dt s)).now - u.start = s.now + dt - r.start := by rw [now, start]; rfl
      rw [if_pos whole] at pulse
      by_cases switches : s.settings.inForce.reference.preferred = .index ∧ s.timing.index.state = .qualified
      · obtain ⟨preferred, index⟩ := switches
        rw [pulse, boundary_ending_switches .comm _ rev' begun' recent' (by
          rw [settings, sel']
          simp [preferred, otherSource, qualified, sourceRec, index', index])]
        refine ⟨by rw [counter'], by rw [length], fun stays => ?_, fun _ _ => ⟨by rw [settings]; simp [preferred], rfl⟩⟩
        obtain comm | unqualified := stays
        · rw [preferred] at comm; cases comm
        · exact absurd index unqualified
      · obtain ⟨counter, speed, -, selected, next⟩ := boundary_ending_stays .comm
          (s.settings.inForce.reference.p * (s.now + dt - l)) rev' begun' recent' (by
            rw [settings, sel']
            rintro ⟨other, index⟩
            cases preferred : s.settings.inForce.reference.preferred with
            | index => exact switches ⟨preferred, by simpa [preferred, qualified, sourceRec, index'] using index⟩
            | comm => simp [preferred, otherSource] at other)
        have begun : (event commPulse dt s).timing.sel = some .comm ∧
            RevBegun (s.now + dt) (event commPulse dt s).timing := by
          rw [pulse, selected, sel']
          exact ⟨rfl, by rw [now] at next; exact next⟩
        rw [pulse, counter, speed, counter', length]
        exact ⟨rfl, rfl, fun _ => begun, fun preferred index => absurd ⟨preferred, index⟩ switches⟩
  · exact ⟨event indexPulse dt s, rfl, indexPulse_aligns accepts comm⟩

end Sys2Proof.Machine

/-! The steps of a plan: success, failure and the marks of a step in hand (R62 to R65, R69, R73, R79 to R81, R84). -/

namespace Sys2Proof.Machine

open Sys2Proof.Safety Sys2Proof.Statement

/-! ### What an operation of the dosing unit and the governor leaves of the runner -/

/-- The runner is as before but for the volume dosed: an accounted pass alone changes it then. -/
def RunnerKept (s t : State) : Prop :=
  t.runner.state = s.runner.state ∧ t.runner.stepIndex = s.runner.stepIndex ∧ t.runner.retries = s.runner.retries ∧
    t.runner.endReason = s.runner.endReason ∧ t.runner.plan = s.runner.plan

theorem RunnerKept.of_eq {s t : State} (h : t.runner = s.runner) : RunnerKept s t := by simp [RunnerKept, h]

theorem RunnerKept.trans {s t u : State} (h : RunnerKept s t) (k : RunnerKept t u) : RunnerKept s u := by
  simp_all [RunnerKept]

section
variable (s : State)

theorem accountPass_runner (p : PassRecord) (volume : Nat) : RunnerKept s (accountPass p volume s) := by
  unfold accountPass RunnerKept
  dsimp only
  (repeat' split) <;> simp

theorem closeProRata_runner : RunnerKept s (closeProRata s) := by
  unfold closeProRata
  split
  · rename_i p _
    exact ((RunnerKept.of_eq (by simp)).trans (accountPass_runner (askFill false s) p (proRata s p))).trans (.of_eq rfl)
  · exact .of_eq rfl

theorem passCheck_runner : RunnerKept s (passCheck s) := ite_keeps (.of_eq rfl) (closeProRata_runner s)

theorem cutQueue_runner (cause : CutCause) : RunnerKept s (cutQueue cause s) := by
  unfold cutQueue
  split
  · exact .of_eq rfl
  · exact (closeProRata_runner s).trans (.of_eq (by simp))

theorem lockFollows_runner (old new : GovState) : (lockFollows old new s).runner = s.runner := by
  unfold lockFollows
  (repeat' split) <;> simp

theorem enterState_runner (st : GovState) (mv : Move) (target : Nat) (band : Option (Fin 6)) :
    RunnerKept s (enterState st mv target band s) := by
  obtain ⟨g, entered, -⟩ := enterState_eq st mv target band s
  rw [entered]
  split
  · exact (RunnerKept.of_eq (by simp [lockFollows_runner])).trans (passCheck_runner _)
  · exact .of_eq rfl

theorem leaveStep_runner : RunnerKept s (leaveStep s) := by
  unfold leaveStep
  dsimp only
  split
  · exact (cutQueue_runner s .stepExit).trans (.of_eq (by simp))
  · exact .of_eq rfl

theorem enterStopping_runner : RunnerKept s (enterStopping s) :=
  (RunnerKept.of_eq (t := s.setGov { s.gov with startRunDown := false }) rfl).trans (enterState_runner _ _ _ _ _)

end

/-! ### The run-down -/

/-- R71: STOPPING with the target 0 and no step in hand. -/
def Stopped (s : State) : Prop := s.gov.state = .stopping ∧ s.gov.target = 0 ∧ s.gov.step = none

/-- R63, R71: a step is left for STOPPING. -/
theorem enterStopping_stopped (s : State) : Stopped (enterStopping (leaveStep s)) := by simp [Stopped, enterStopping]

/-- Nothing that follows an event ends or changes the run-down: the governor, and the runner with it, stay. -/
theorem Stopped.event {f : State → State} {dt : Nat} {s : State} (h : Stopped (f (advance dt s))) :
    Stopped (event f dt s) ∧ (event f dt s).runner = (f (advance dt s)).runner := by
  obtain ⟨state, target, step⟩ := h
  obtain ⟨state', step', target', -, runner, -⟩ := deliver_rest ⟨.inr (.inl state), step⟩
  refine ⟨?_, by simpa [Machine.event] using runner⟩
  simp only [Stopped, Machine.event, settle_frame, stamp_gov_fields]
  exact ⟨state'.trans state, target'.trans target, step'.trans step⟩

/-! ### Success -/

/-- R81: after the last step of the plan the governor enters STOPPING. -/
theorem nextStep_last {s : State} (last : s.runner.plan.stepCount ≤ s.runner.stepIndex + 1) :
    nextStep s = enterStopping (leaveStep s) := if_neg (Nat.not_lt.2 last)

theorem nextStep_last_runner {s : State} (last : s.runner.plan.stepCount ≤ s.runner.stepIndex + 1) :
    Stopped (nextStep s) ∧ RunnerKept s (nextStep s) := by
  rw [nextStep_last last]
  exact ⟨enterStopping_stopped s, (leaveStep_runner s).trans (enterStopping_runner _)⟩

theorem passCheck_of_none {s : State} (none : s.dosing.pass = none) : passCheck s = s := by
  obtain ⟨-, same⟩ | closed := passCheck_cases s
  · exact same
  · rw [closed, closeProRata_of_none none]

/-- R62 to R66: the entry to a governor state leaves the step in hand with its timer and its marks; with no pass in progress it leaves the
estimator, the dosing unit and the runner too. -/
theorem enterState_step (st : GovState) (mv : Move) (target : Nat) (band : Option (Fin 6)) (s : State) :
    (enterState st mv target band s).gov.markFallen = s.gov.markFallen ∧
      (enterState st mv target band s).gov.retreats = s.gov.retreats ∧
      (enterState st mv target band s).gov.firstArrival = s.gov.firstArrival ∧
      (enterState st mv target band s).gov.holdStart = s.gov.holdStart ∧
      (enterState st mv target band s).gov.waits = waitsNow s := by
  unfold enterState
  dsimp only
  (repeat' split) <;> simp [refreshRamp, withTarget]

theorem enterState_of_noPass (st : GovState) (mv : Move) (target : Nat) (band : Option (Fin 6)) {s : State}
    (none : s.dosing.pass = none) : (enterState st mv target band s).est = s.est ∧
      (enterState st mv target band s).dosing = s.dosing ∧ (enterState st mv target band s).runner = s.runner := by
  obtain ⟨g, entered, -⟩ := enterState_eq st mv target band s
  rw [entered]
  split
  · rw [passCheck_of_none (by simpa using none)]
    simp [lockFollows_runner]
  · exact ⟨rfl, rfl, rfl⟩

/-- R64: a climb is the entry to one of the states of a climb. -/
theorem climb_enters (s : State) : ∃ st mv target band, climb s = enterState st mv target band s := by
  unfold climb enterCross enterRetreat
  (repeat' split) <;> exact ⟨_, _, _, _, rfl⟩

/-- The step in hand with its marks as a step entry leaves them; the hold timer runs from the first arrival. -/
def StepFresh (s t : State) : Prop :=
  t.gov.step = s.gov.step ∧ t.gov.markFallen = s.gov.markFallen ∧ t.gov.retreats = s.gov.retreats ∧ t.gov.waits = waitsNow s ∧
    (t.gov.holdStart = s.gov.holdStart ∨ t.gov.holdStart = some s.now) ∧ t.est = s.est ∧ t.runner = s.runner

theorem StepFresh.enterState (st : GovState) (mv : Move) (target : Nat) (band : Option (Fin 6)) {s : State}
    (none : s.dosing.pass = none) : StepFresh s (enterState st mv target band s) := by
  obtain ⟨mark, retreats, -, hold, waits⟩ := enterState_step st mv target band s
  obtain ⟨est, -, runner⟩ := enterState_of_noPass st mv target band none
  exact ⟨(enterState_gov st mv target band s).2.2, mark, retreats, waits, .inl hold, est, runner⟩

theorem StepFresh.enterHold {s : State} (none : s.dosing.pass = none) : StepFresh s (enterHold s) := by
  unfold Machine.enterHold
  extract_lets st t held
  have entered : StepFresh s t := .enterState _ _ _ _ none
  split
  · exact entered
  · obtain ⟨step, mark, retreats, waits, -, est, runner⟩ := entered
    exact ⟨step, mark, retreats, waits, .inr (by simp [t]), est, runner⟩

theorem StepFresh.aimAtStep (p : PlanStep) {s : State} (none : s.dosing.pass = none) : StepFresh s (aimAtStep p s) := by
  unfold Machine.aimAtStep
  dsimp only
  split
  · exact StepFresh.enterHold none
  · split
    · obtain ⟨st, mv, target, band, climbs⟩ := climb_enters s
      rw [climbs]
      exact .enterState _ _ _ _ none
    · exact .enterState _ _ _ _ none

/-- R63: the state in which the speed is compared with e at the entry to step `i`. -/
def stepTaken (i : Nat) (p : PlanStep) (s : State) : State :=
  setCeiling ((s.setRunner { s.runner with stepIndex := i }).setGov { noStep s.gov with step := some p })

theorem waitsNow_stopped {s : State} (none : s.gov.waitSince = none) : waitsNow s = s.gov.waits := by
  unfold waitsNow
  rw [none]
  split <;> simp_all

/-- R63, R81: a step follows another one at once where no dose order is waiting to be cut. -/
theorem stepEntry_running {i : Nat} {p : PlanStep} {s : State} (plan : s.runner.plan.steps[i]? = some p)
    (busy : s.gov.state ≠ .idle) (queue : s.dosing.queue = []) : stepEntry i s = aimAtStep p (stepTaken i p s) := by
  have cut : (if s.gov.step.isSome = true then cutQueue .stepExit s else s) = s := by
    split
    · exact cutQueue_nil _ queue
    · rfl
  unfold stepEntry
  rw [plan]
  simp only [cut, busy, if_false]
  rfl

theorem stepEntry_fresh {i : Nat} {p : PlanStep} {s : State} (plan : s.runner.plan.steps[i]? = some p) (busy : s.gov.state ≠ .idle)
    (queue : s.dosing.queue = []) (none : s.dosing.pass = none) :
    (stepEntry i s).gov.step = some p ∧ (stepEntry i s).gov.markFallen = false ∧
      (stepEntry i s).gov.retreats = .replicate 6 0 ∧ (stepEntry i s).gov.waits = .replicate 6 0 ∧
      ((stepEntry i s).gov.holdStart = Option.none ∨ (stepEntry i s).gov.holdStart = some s.now) ∧
      (stepEntry i s).est = s.est ∧ (stepEntry i s).runner = { s.runner with stepIndex := i } := by
  rw [stepEntry_running plan busy queue]
  obtain ⟨step, mark, retreats, waits, hold, est, runner⟩ := StepFresh.aimAtStep p (s := stepTaken i p s) none
  exact ⟨step, mark, retreats, waits.trans (waitsNow_stopped rfl), hold, est, runner⟩

theorem heldFor_iff {s : State} {h seconds : Nat} (hold : s.gov.holdStart = some h) :
    heldFor s seconds = true ↔ seconds * 1000000 ≤ s.now - h := by
  rw [heldFor, hold, Option.any_some, decide_eq_true_eq, since]

/-- R79: what a step has to meet at its hold expiry. -/
def StepMeets (s : State) (h : Nat) (p : PlanStep) : Prop :=
  match p.kind with
  | .distribute => (s.est.est.state = .settled ∨ s.est.est.state = .held) ∧ s.est.est.cls ≤ p.accept
  | .spin => p.floor ≤ s.timing.speed
  | .coast => True
  | .balance => 5000000 ≤ s.now - h ∧ s.est.est.state = .settled ∧ s.est.est.cls ≤ p.accept

theorem settledWithin_iff {s : State} {c : Class} :
    settledWithin s c = true ↔ s.est.est.state = .settled ∧ s.est.est.cls ≤ c := by simp [settledWithin]

/-- R79: at the hold expiry a step that meets its kind's condition succeeds. -/
theorem holdExpiry_succeeds {s : State} {p : PlanStep} {h : Nat} (step : s.gov.step = some p) (hold : s.gov.holdStart = some h)
    (due : p.hold * 1000000 ≤ s.now - h) (meets : StepMeets s h p) : holdExpiry s = nextStep s := by
  have expired : holdDue s = true := by simpa [holdDue, step] using (heldFor_iff hold).2 due
  unfold StepMeets at meets
  rw [holdExpiry, if_pos expired, judgeStep, step]
  dsimp only
  cases kind : p.kind
  all_goals rw [kind] at meets
  case distribute => exact if_pos meets
  case spin => exact if_pos meets
  case balance => exact if_pos ⟨(heldFor_iff hold).2 meets.1, settledWithin_iff.2 meets.2⟩

/-- R79, R81: one that does not fails with a reason. -/
theorem holdExpiry_fails {s : State} {p : PlanStep} {h : Nat} (step : s.gov.step = some p) (hold : s.gov.holdStart = some h)
    (due : p.hold * 1000000 ≤ s.now - h) (misses : ¬StepMeets s h p) : ∃ why, holdExpiry s = stepFails why s := by
  have expired : holdDue s = true := by simpa [holdDue, step] using (heldFor_iff hold).2 due
  unfold StepMeets at misses
  rw [holdExpiry, if_pos expired, judgeStep, step]
  dsimp only
  cases kind : p.kind
  all_goals rw [kind] at misses
  case distribute => exact ⟨_, if_neg misses⟩
  case spin => exact ⟨_, if_neg misses⟩
  case coast => exact absurd trivial misses
  case balance =>
    exact ⟨_, if_neg fun meets => misses ⟨(heldFor_iff hold).1 meets.1, settledWithin_iff.1 meets.2⟩⟩

/-- Settles O27. -/
theorem holdExpirySuccessAdvancesPlan : Obligations.HoldExpirySuccessAdvancesPlan := by
  intro dt h p s owed step hold due meets
  have succeeds : holdExpiry (advance dt s) = nextStep (advance dt s) := by
    refine holdExpiry_succeeds (s := advance dt s) step hold due ?_
    unfold StepMeets
    cases kind : p.kind
    all_goals rw [kind] at meets; exact meets
  refine ⟨event holdExpiry dt s, rfl, fun last => ?_, fun q more plan queue none busy => ?_⟩
  · obtain ⟨stopped, state, index, -⟩ := nextStep_last_runner (s := advance dt s) last
    rw [← succeeds] at stopped state index
    obtain ⟨⟨stopping, target, left⟩, runner⟩ := stopped.event
    exact ⟨stopping, target, left, by rw [runner]; exact state, by rw [runner]; exact index⟩
  · have next : holdExpiry (advance dt s) = stepEntry (s.runner.stepIndex + 1) (advance dt s) :=
      succeeds.trans (if_pos more)
    obtain ⟨taken, mark, retreats, waits, start, est, runner⟩ := stepEntry_fresh (s := advance dt s) plan busy queue none
    rw [← next] at taken mark retreats waits start est runner
    have quiet : (holdExpiry (advance dt s)).est.owed = false := by rw [est]; exact owed
    have runner' : (event holdExpiry dt s).runner = { s.runner with stepIndex := s.runner.stepIndex + 1 } :=
      (event_machine quiet).2.1.trans runner
    rw [runner']
    simp only [event_of_not_owed quiet, settle_frame, stamp_gov_fields]
    exact ⟨taken, trivial, trivial, mark, retreats, waits, start⟩

/-! ### Failure -/

/-- R81, R84: a step that fails under ABORT, or without a retry left, ends the plan. -/
theorem stepFails_aborts {s : State} {p : PlanStep} (why : FailReason) (step : s.gov.step = some p)
    (action : p.action = .abort ∨ ((p.action = .retry ∨ p.action = .redistribute) ∧ s.runner.plan.maxRetries ≤ s.runner.retries)) :
    Stopped (stepFails why s) ∧ (stepFails why s).runner.state = .aborted ∧
      (stepFails why s).runner.endReason = .stepFailed := by
  have taken : actionTaken s p.action = .abort := by
    unfold actionTaken
    obtain abort | spent := action
    · simp [abort]
    · exact if_pos spent
  have failed : stepFails why s = enterStopping (leaveStep (abortPlan .stepFailed
      (askLog (.stepFailed s.runner.stepIndex why .abort) s))) := by
    unfold stepFails
    rw [step]
    simp only [taken]
  obtain ⟨state, -, -, reason, -⟩ := (leaveStep_runner (abortPlan .stepFailed
    (askLog (.stepFailed s.runner.stepIndex why .abort) s))).trans (enterStopping_runner _)
  obtain ⟨state', -, -, reason', -⟩ := cutQueue_runner (setRunnerState .aborted
    ((askLog (.stepFailed s.runner.stepIndex why .abort) s).setRunner
      { (askLog (.stepFailed s.runner.stepIndex why .abort) s).runner with endReason := .stepFailed })) .planEnd
  rw [failed]
  refine ⟨enterStopping_stopped _, state.trans ?_, reason.trans ?_⟩
  · simpa [abortPlan, setRunnerState] using state'
  · simpa [abortPlan, setRunnerState] using reason'

/-- R65: the wait time of the band in hand has reached its limit. -/
theorem bandWaitExpiry_fails {s : State} {k : Fin 6} {w : Nat} (state : s.gov.state = .waitBand) (band : s.gov.band = some k)
    (since' : s.gov.waitSince = some w) (spent : (govSet s).bandWait * 1000000 ≤ s.gov.waits[k] + (s.now - w)) :
    bandWaitExpiry s = stepFails (.bandRefused k) s := by
  have waited : (waitsNow s)[k] = s.gov.waits[k] + (s.now - w) := by simp [waitsNow, band, since', since]
  have refused : bandWaitOver s = some k := by
    unfold bandWaitOver
    rw [state, band]
    dsimp only
    rw [waited, if_pos spent]
  rw [bandWaitExpiry, refused]

/-- Settles O28. -/
theorem stepFailureAbortsPlan : Obligations.StepFailureAbortsPlan := by
  intro dt p s step action
  have aborts (f : State → State) (why : FailReason) (fails : f (advance dt s) = stepFails why (advance dt s)) :
      (event f dt s).runner.state = .aborted ∧ (event f dt s).runner.endReason = .stepFailed ∧ Stopped (event f dt s) := by
    obtain ⟨stopped, state, reason⟩ := stepFails_aborts (s := advance dt s) why step action
    rw [← fails] at stopped state reason
    obtain ⟨stopped', runner⟩ := stopped.event
    exact ⟨by rw [runner, state], by rw [runner, reason], stopped'⟩
  refine ⟨fun h hold due misses => ⟨event holdExpiry dt s, rfl, ?_⟩, fun k w state band since spent =>
    ⟨event bandWaitExpiry dt s, rfl, aborts bandWaitExpiry (.bandRefused k) (bandWaitExpiry_fails state band since spent)⟩⟩
  obtain ⟨why, fails⟩ := holdExpiry_fails (s := advance dt s) step hold due (by
    unfold StepMeets
    cases kind : p.kind
    all_goals rw [kind] at misses
    case distribute => exact misses
    case spin => exact Nat.not_le.2 misses
    case coast => exact misses.elim
    case balance => exact misses)
  exact aborts holdExpiry why fails

/-! ### The marks -/

/-- R60: a change that the live command does not show leaves the command number. -/
theorem stamp_of_live {old s : State} (h : liveChanged old.gov s.gov = false) : stamp old s = s := by simp [stamp, h]

/-- An event whose effect owes no update and changes nothing that the live command shows. -/
theorem event_of_live {f : State → State} {dt : Nat} {s : State} (owed : (f (advance dt s)).est.owed = false)
    (live : liveChanged s.gov (f (advance dt s)).gov = false) : event f dt s = settle (f (advance dt s)) := by
  rw [event_of_not_owed owed, stamp_of_live (by simpa using live)]

/-- R69, R80: the 5-second mark falls once. -/
theorem fiveSecondMark_due {s : State} {p : PlanStep} {h : Nat} (step : s.gov.step = some p) (kind : p.kind = .balance)
    (hold : s.gov.holdStart = some h) (due : 5000000 ≤ s.now - h) (first : s.gov.markFallen = false) :
    fiveSecondMark s =
      if s.est.est.state = .settled ∧ s.est.est.cls ≤ p.accept then nextStep (s.setGov { s.gov with markFallen := true })
      else s.setGov { s.gov with markFallen := true } := by
  have falls : markDue s = true := by simp [markDue, step, kind, (heldFor_iff (seconds := 5) hold).2 due, first]
  have held : heldFor (s.setGov { s.gov with markFallen := true }) 5 = true := (heldFor_iff (seconds := 5) hold).2 due
  have settled : settledWithin (s.setGov { s.gov with markFallen := true }) p.accept = true ↔
      s.est.est.state = .settled ∧ s.est.est.cls ≤ p.accept := settledWithin_iff
  have inHand : (s.setGov { s.gov with markFallen := true }).gov.step = some p := step
  rw [fiveSecondMark, if_pos falls, balanceTest, inHand]
  simp only [kind, held, settled, true_and]

/-- Settles O29. -/
theorem balanceMarkAndOverspeedHistory : Obligations.BalanceMarkAndOverspeedHistory := by
  refine ⟨fun dt h p s owed step kind hold due first => ?_, fun dt s owed => ?_⟩
  · have mark := fiveSecondMark_due (s := advance dt s) step kind hold due first
    refine ⟨event fiveSecondMark dt s, rfl, fun settled last => ?_, fun unsettled => ?_⟩
    · have succeeds : fiveSecondMark (advance dt s) =
          nextStep ((advance dt s).setGov { (advance dt s).gov with markFallen := true }) := mark.trans (if_pos settled)
      obtain ⟨stopped, -⟩ := nextStep_last_runner
        (s := (advance dt s).setGov { (advance dt s).gov with markFallen := true }) last
      rw [← succeeds] at stopped
      exact stopped.event.1
    · have falls : fiveSecondMark (advance dt s) = (advance dt s).setGov { (advance dt s).gov with markFallen := true } :=
        mark.trans (if_neg unsettled)
      have quiet := event_of_live (f := fiveSecondMark) (dt := dt) (s := s) (by rw [falls]; exact owed)
        (by rw [falls]; simp [liveChanged, modeOf])
      rw [quiet, falls]
      simp
  · have quiet := event_of_live (f := trimHistory) (dt := dt) (s := s) (by simpa using owed)
      (by simp [trimHistory, liveChanged, modeOf])
    refine ⟨event trimHistory dt s, rfl, ?_⟩
    rw [quiet]
    simp [trimHistory, since, govSet]

end Sys2Proof.Machine

/-! The effective target of a ceiling lies in no band (R52). -/

namespace Sys2Proof.Machine

open Sys2Proof.Safety Sys2Proof.Statement

theorem Band.enabled_iff {b : Band} : b.enabled = true ↔ b.low ≤ b.high := decide_eq_true_iff

theorem Band.holds_iff {b : Band} {v : Nat} : b.holds v = true ↔ b.low ≤ b.high ∧ b.low ≤ v ∧ v ≤ b.high := by
  simp only [holds, enabled, Bool.and_eq_true, decide_eq_true_eq, and_assoc]

theorem bandAt_none {g : GovernorSettings} {v : Nat} : bandAt g v = none ↔ ∀ k : Fin 6, g.bands[k].holds v = false := by
  simp [bandAt]

theorem bandAt_holds {g : GovernorSettings} {v : Nat} {k : Fin 6} (h : bandAt g v = some k) : g.bands[k].holds v = true :=
  List.find?_some (p := fun k : Fin 6 => g.bands[k].holds v) h

/-- R45: an enabled band of a valid list begins at 40 rpm or more. -/
theorem low_of_check12 {g : GovernorSettings} (valid : check12 g = true) {k : Fin 6} (enabled : g.bands[k].enabled = true) :
    40 ≤ g.bands[k].low := by
  simp only [check12, Bool.and_eq_true, List.all_eq_true, decide_eq_true_eq] at valid
  obtain ⟨⟨-, ranges⟩, -⟩ := valid
  exact (ranges g.bands[k] (List.mem_filter.2 ⟨by simp, enabled⟩)).1

/-- Fewer elements meet a stronger test that one of the others fails. -/
theorem countP_lt_of_imp {α : Type} {p q : α → Bool} {l : List α} {x : α} (stronger : ∀ y ∈ l, p y = true → q y = true) (mem : x ∈ l)
    (passes : q x = true) (fails : p x = false) : l.countP p < l.countP q := by
  induction l with
  | nil => cases mem
  | cons y l ih =>
    have later : ∀ z ∈ l, p z = true → q z = true := fun z hz => stronger z (List.mem_cons_of_mem y hz)
    obtain here | there := List.mem_cons.1 mem
    · subst here
      rw [List.countP_cons_of_neg (by rw [fails]; exact Bool.false_ne_true), List.countP_cons_of_pos passes]
      exact Nat.lt_succ_of_le (List.countP_mono_left later)
    · have fewer := ih later there
      have head : p y = true → q y = true := stronger y List.mem_cons_self
      rw [List.countP_cons, List.countP_cons]
      cases hp : p y with
      | false => exact Nat.lt_of_lt_of_le fewer (Nat.le_add_right _ _)
      | true =>
        rw [head hp]
        exact Nat.add_lt_add_right fewer _

/-- A band that is enabled and begins at or below a speed. -/
def Band.below (v : Nat) (b : Band) : Bool := b.enabled && decide (b.low ≤ v)

theorem Band.below_iff {b : Band} {v : Nat} : b.below v = true ↔ b.enabled = true ∧ b.low ≤ v := by
  simp only [below, Bool.and_eq_true, decide_eq_true_eq]

/-- How many bands are enabled and begin at or below a speed. -/
def bandsBelow (g : GovernorSettings) (v : Nat) : Nat := (List.finRange 6).countP fun k => g.bands[k].below v

theorem bandsBelow_le (g : GovernorSettings) (v : Nat) : bandsBelow g v ≤ 6 :=
  Nat.le_trans List.countP_le_length (Nat.le_of_eq List.length_finRange)

/-- R44, R52: a replacement goes below its band, and so below one band more. -/
theorem bandsBelow_holdPoint {g : GovernorSettings} (valid : check12 g = true) {v : Nat} {k : Fin 6}
    (holds : g.bands[k].holds v = true) : bandsBelow g g.bands[k].holdPoint < bandsBelow g v := by
  obtain ⟨enabled, low, -⟩ := Band.holds_iff.1 holds
  have on := Band.enabled_iff.2 enabled
  have start := low_of_check12 valid on
  have point : g.bands[k].holdPoint = g.bands[k].low - 10 := rfl
  refine countP_lt_of_imp (fun j _ hj => ?_) (List.mem_finRange k) (Band.below_iff.2 ⟨on, low⟩) (Bool.eq_false_iff.2 fun itself => ?_)
  · obtain ⟨on', below⟩ := Band.below_iff.1 hj
    exact Band.below_iff.2 ⟨on', by omega⟩
  · obtain ⟨-, below⟩ := Band.below_iff.1 itself
    omega

/-- R52: as many replacements as there are bands below bring a speed out of every band. -/
theorem outsideBands_free {g : GovernorSettings} (valid : check12 g = true) (n : Nat) {v : Nat}
    (few : bandsBelow g v ≤ n) (k : Fin 6) : g.bands[k].holds (outsideBands g n v) = false := by
  induction n generalizing v with
  | zero =>
    refine Bool.eq_false_iff.2 fun holds => ?_
    have fewer := bandsBelow_holdPoint valid (v := v) holds
    omega
  | succ n ih =>
    unfold outsideBands
    split
    · exact bandAt_none.1 ‹_› k
    · rename_i j inside
      have fewer := bandsBelow_holdPoint valid (bandAt_holds inside)
      exact ih (by omega)

theorem outsideBands_le (g : GovernorSettings) (n v : Nat) : outsideBands g n v ≤ v := by
  induction n generalizing v with
  | zero => exact Nat.le_refl _
  | succ n ih =>
    unfold outsideBands
    split
    · exact Nat.le_refl _
    · rename_i j inside
      obtain ⟨-, low, -⟩ := Band.holds_iff.1 (bandAt_holds inside)
      exact Nat.le_trans (ih _) (Nat.le_trans (Nat.sub_le _ _) low)

/-- Settles O30. -/
theorem effectiveTargetAvoidsBands : Obligations.EffectiveTargetAvoidsBands := by
  intro g v valid
  have outside (w : Nat) (k : Fin 6) (free : g.bands[k].holds w = false) (enabled : g.bands[k].low ≤ g.bands[k].high) :
      w < g.bands[k].low ∨ g.bands[k].high < w := by
    rw [Bool.eq_false_iff, ne_eq, Band.holds_iff] at free
    omega
  refine ⟨outsideBands_le g 6 v, fun k enabled => outside _ k ?_ enabled, fun free => ?_⟩
  · exact outsideBands_free valid 6 (bandsBelow_le g v) k
  · have none : bandAt g v = none := bandAt_none.2 fun k => by
      rw [Bool.eq_false_iff, ne_eq, Band.holds_iff]
      rintro ⟨enabled, low, high⟩
      have := free k enabled
      omega
    rw [effectiveTarget, outsideBands, none]

end Sys2Proof.Machine

/-! What an estimate update that is handed on leaves: the governor, the runner and the planner act on the lines and on the dosing unit
through a few operations only (R36, R93 to R95). -/

namespace Sys2Proof.Machine

open Sys2Proof.Safety Sys2Proof.Statement

/-- R189, R203: the period timer runs on, the log's ring is in its state, a report write that was asked for still is, one under way goes on,
and what asks for another stays. -/
def ReportUnit.AsksOn (r q : ReportUnit) : Prop :=
  q.periodStart = r.periodStart ∧ q.ring = r.ring ∧ (r.write ≠ .idle → q.write ≠ .idle) ∧
    (∀ image g, r.write = .writing image g → q.write = .writing image g) ∧ (r.again = true → q.again = true)

/-- A change that leaves the lines, the dosing unit, the runner's dose used and plan copy and the estimator's stale mark, and takes no
fault latch and no trigger of the report back. -/
def Light (s t : State) : Prop :=
  t.lines = s.lines ∧ t.dosing = s.dosing ∧ t.runner.doseUsed = s.runner.doseUsed ∧ t.runner.plan = s.runner.plan ∧
    t.est.staleMark = s.est.staleMark ∧ (∀ k, isLatched s k = true → isLatched t k = true) ∧ s.report.AsksOn t.report

/-- What a predicate has to meet for the updates handed on to keep it. -/
structure KeepsUpdates (P : State → Prop) : Prop where
  light : ∀ {s t : State}, Light s t → P s → P t
  askLock : ∀ {s : State} (level : Bool), P s → P (askLock level s)
  passCheck : ∀ {s : State}, P s → P (passCheck s)
  cutQueue : ∀ {s : State} (cause : CutCause), P s → P (cutQueue cause s)
  addOrder : ∀ {s : State} (origin : Origin) (c : Fin 4) (volume : Nat) (capLimited : Bool), P s → P (addOrder origin c volume capLimited s)

section
variable (s : State)

theorem isLatched_congr {t : State} (h : t.report.latches = s.report.latches) (k : FaultKind) : isLatched t k = isLatched s k := by
  unfold isLatched
  rw [h]

theorem FaultKind.mask_number (k : FaultKind) : k.mask.getLsbD k.number = true := by cases k <;> decide

/-- R191: a raised fault is latched, and the latches before it stay. -/
theorem isLatched_raiseFault (k : FaultKind) : isLatched (raiseFault k s) k = true := by
  unfold raiseFault
  split
  · assumption
  · rw [isLatched_congr _ (trigger_latches _)]
    simp [isLatched, FaultKind.mask_number]

theorem isLatched_raiseFault_of (f : FaultKind) {k : FaultKind} (h : isLatched s k = true) : isLatched (raiseFault f s) k = true := by
  unfold raiseFault
  split
  · exact h
  · rw [isLatched_congr _ (trigger_latches _)]
    simp only [isLatched] at h
    simp [isLatched, h]

@[simp] theorem ReportUnit.AsksOn.refl (r : ReportUnit) : r.AsksOn r := ⟨rfl, rfl, id, fun _ _ => id, id⟩

theorem ReportUnit.AsksOn.trans {r q p : ReportUnit} (h : r.AsksOn q) (k : q.AsksOn p) : r.AsksOn p := by
  obtain ⟨period, ring, asked, writing, again⟩ := h
  obtain ⟨period', ring', asked', writing', again'⟩ := k
  exact ⟨period'.trans period, ring'.trans ring, asked' ∘ asked, fun image g => writing' image g ∘ writing image g, again' ∘ again⟩

theorem trigger_asksOn : s.report.AsksOn (trigger s).report := by
  unfold trigger
  split
  · rename_i write
    exact ⟨rfl, rfl, nofun, fun _ _ writing => absurd (write.symm.trans writing) nofun, id⟩
  · exact .refl _
  · exact ⟨rfl, rfl, id, fun _ _ => id, fun _ => rfl⟩

theorem askLog_asksOn (d : LogDetail) : s.report.AsksOn (askLog d s).report := by
  unfold askLog dropEntry
  split
  · exact ⟨rfl, rfl, id, fun _ _ => id, id⟩
  · exact ⟨rfl, rfl, id, fun _ _ => id, id⟩

/-- R35: a new estimate is a trigger at most. -/
@[simp] theorem setEstimate_asksOn (x : Estimate) : s.report.AsksOn (setEstimate x s).report := by
  unfold setEstimate
  dsimp only
  split <;> simp [trigger_asksOn]

@[simp] theorem takeStaleMark_asksOn (mark : Word32) : s.report.AsksOn (takeStaleMark mark s).report := by
  unfold takeStaleMark recompute
  dsimp only
  (repeat' split) <;> exact .trans (.refl _) (setEstimate_asksOn _ _)

theorem accountPass_asksOn (p : PassRecord) (volume : Nat) : s.report.AsksOn (accountPass p volume s).report := by
  unfold accountPass
  dsimp only
  split
  · split
    · exact .trans (.refl _) (takeStaleMark_asksOn _ _)
    · exact .refl _
  · exact .refl _

theorem closeProRata_asksOn : s.report.AsksOn (closeProRata s).report := by
  unfold closeProRata
  split
  · exact .trans (by simp) (accountPass_asksOn (askFill false s) _ _)
  · exact .refl _

theorem passCheck_asksOn : s.report.AsksOn (passCheck s).report := by
  unfold passCheck
  split
  · exact .refl _
  · exact closeProRata_asksOn s

theorem cutQueue_asksOn (cause : CutCause) : s.report.AsksOn (cutQueue cause s).report := by
  unfold cutQueue
  split
  · exact .refl _
  · exact (closeProRata_asksOn s).trans (.trans (by simp) (askLog_asksOn _ _))

/-- R190: the report unit may begin a write that was asked for. -/
theorem freezeReport_asksOn : s.report.AsksOn (freezeReport s).report := by
  unfold freezeReport
  split
  · rename_i write _
    exact ⟨rfl, rfl, fun _ => nofun, fun _ _ writing => absurd (write.symm.trans writing) nofun, id⟩
  · exact .refl _

theorem raiseJobs_asksOn : s.report.AsksOn (raiseJobs s).report := by
  unfold raiseJobs nextChoice
  dsimp only
  (repeat' split) <;> simp [freezeReport_asksOn]

theorem settle_asksOn : s.report.AsksOn (settle s).report := by
  have raised := raiseJobs_asksOn (leaveDrainWait (releasePort .d (releasePort .c s)))
  have granted := arbitrate_report (raiseJobs (leaveDrainWait (releasePort .d (releasePort .c s))))
  obtain ⟨-, -, -, -, -, again, period, -, ring, -, write, -⟩ := granted
  refine .trans (by simpa using raised) (q := (raiseJobs (leaveDrainWait (releasePort .d (releasePort .c s)))).report) ?_
  exact ⟨period, ring, by rw [settle, write]; exact id, by rw [settle, write]; exact fun _ _ => id, by rw [settle, again]; exact id⟩

/-- R60, R189: what follows an event takes no trigger back. -/
theorem event_asksOn {old : State} : s.report.AsksOn (settle (stamp old s)).report := by
  have stamped : (stamp old s).report = s.report := by simp
  rw [← stamped]
  exact settle_asksOn _

theorem raiseFault_asksOn (k : FaultKind) : s.report.AsksOn (raiseFault k s).report := by
  unfold raiseFault
  split
  · exact .refl _
  · exact .trans ⟨rfl, rfl, id, fun _ _ => id, id⟩ (trigger_asksOn _)

@[simp] theorem setGov_light (v : Governor) : Light s (s.setGov v) := by simp [Light, isLatched]

@[simp] theorem nextChoice_light : Light s (nextChoice s) := by simp [Light, isLatched]

@[simp] theorem setOwed_light (b : Bool) : Light s (s.setEst { s.est with owed := b }) := by simp [Light, isLatched]

theorem setRunner_light {v : Runner} (dose : v.doseUsed = s.runner.doseUsed) (plan : v.plan = s.runner.plan) :
    Light s (s.setRunner v) := by simp [Light, isLatched, dose, plan]

@[simp] theorem trigger_light : Light s (trigger s) := by simp [Light, isLatched, trigger_asksOn]

@[simp] theorem raiseFault_light (k : FaultKind) : Light s (raiseFault k s) :=
  ⟨by simp, by simp, by simp, by simp, by simp, fun _ => isLatched_raiseFault_of s k, raiseFault_asksOn s k⟩

@[simp] theorem askLog_light (d : LogDetail) : Light s (askLog d s) := by simp [Light, isLatched, askLog_asksOn]

@[simp] theorem setRunnerState_light (st : RunnerState) : Light s (setRunnerState st s) := by
  refine ⟨by simp [setRunnerState], by simp [setRunnerState], by simp [setRunnerState], by simp [setRunnerState],
    by simp [setRunnerState], by simp [setRunnerState, isLatched], trigger_asksOn _⟩

theorem Light.trans {s t u : State} (h : Light s t) (h' : Light t u) : Light s u := by
  obtain ⟨lines, dosing, dose, plan, mark, latched, asks⟩ := h
  obtain ⟨lines', dosing', dose', plan', mark', latched', asks'⟩ := h'
  exact ⟨lines'.trans lines, dosing'.trans dosing, dose'.trans dose, plan'.trans plan, mark'.trans mark,
    fun k => latched' k ∘ latched k, asks.trans asks'⟩

end

namespace KeepsUpdates

variable {P : State → Prop} (k : KeepsUpdates P) {s : State}
include k

/-! ### The governor's moves -/

theorem gov {v : Governor} (h : P s) : P (s.setGov v) := k.light (setGov_light s v) h

theorem enterState (st : GovState) (mv : Move) (target : Nat) (band : Option (Fin 6)) (h : P s) :
    P (Machine.enterState st mv target band s) := by
  obtain ⟨g, entered, -⟩ := enterState_eq st mv target band s
  have triggered : P (trigger (s.setGov g)) := k.light (trigger_light _) (k.gov h)
  rw [entered]
  split
  · refine k.passCheck ?_
    unfold lockFollows
    exact ite_keeps (k.askLock _ triggered) (ite_keeps (k.askLock _ triggered) triggered)
  · exact k.gov h

theorem enterHold (h : P s) : P (Machine.enterHold s) := by
  unfold Machine.enterHold
  extract_lets st t
  have entered : P t := k.enterState _ _ _ _ h
  exact ite_keeps entered (k.gov entered)

theorem climb (h : P s) : P (climb s) := by
  unfold Machine.climb
  split
  · exact k.enterState _ _ _ _ h
  · exact ite_keeps (k.enterState _ _ _ _ h) (ite_keeps (k.enterState _ _ _ _ h) (k.enterState _ _ _ _ h))

theorem stateLogic (dropped : Bool) (h : P s) : P (Machine.stateLogic dropped s) := by
  have enters st mv target band : P (Machine.enterState st mv target band s) := k.enterState st mv target band h
  unfold Machine.stateLogic
  dsimp only
  repeat' split
  all_goals first
    | exact h
    | exact k.climb h
    | exact enters _ _ _ _

theorem recomputeCeiling (h : P s) : P (Machine.recomputeCeiling s) := by
  have ceiling : P (setCeiling s) := k.gov h
  unfold Machine.recomputeCeiling
  exact ite_keeps ceiling (k.stateLogic _ ceiling)

/-! ### Trips, steps and the end of a plan -/

theorem leaveStep (h : P s) : P (Machine.leaveStep s) := by
  unfold Machine.leaveStep
  exact ite_keeps (k.gov (k.gov (k.cutQueue _ h))) h

theorem enterStopping (h : P s) : P (Machine.enterStopping s) := k.enterState _ _ _ _ (k.gov h)

theorem abortPlan (why : EndReason) (h : P s) : P (Machine.abortPlan why s) :=
  k.light (askLog_light _ _) (k.cutQueue _ (k.light (.trans (setRunner_light s rfl rfl) (setRunnerState_light _ _)) h))

theorem detect (f : FaultKind) (h : P s) : P (Machine.detect f s) := by
  have raised (u : State) (step : Option Nat) (hu : P u) : P (logTrip f step (raiseFault f u)) :=
    k.light (askLog_light _ _) (k.light (raiseFault_light _ _) hu)
  unfold Machine.detect
  split
  · exact k.light (raiseFault_light _ _) h
  · exact raised _ _ h
  · have ends (u : State) (hu : P u) : P (if planUnderWay u then Machine.abortPlan .tripped u else u) :=
      ite_keeps (k.abortPlan _ hu) hu
    exact ends _ (k.leaveStep (k.cutQueue _ (raised _ _ (k.enterState _ _ _ _ (k.gov h)))))

theorem runBeginTests (h : P s) : P (Machine.runBeginTests s) := by
  unfold Machine.runBeginTests
  extract_lets stale drive
  have tested : P stale := ite_keeps h (k.detect _ h)
  have tested' : P drive := ite_keeps (k.detect _ tested) tested
  exact ite_keeps (k.detect _ tested') tested'

theorem aimAtStep (p : PlanStep) (h : P s) : P (Machine.aimAtStep p s) := by
  unfold Machine.aimAtStep
  exact ite_keeps (k.gov (k.enterHold h)) (ite_keeps (k.climb h) (k.enterState _ _ _ _ h))

theorem stepEntry (i : Nat) (h : P s) : P (Machine.stepEntry i s) := by
  unfold Machine.stepEntry
  split
  · exact h
  · rename_i p step
    have takes (u : State) (hu : P u) : P ((u.setRunner { u.runner with stepIndex := i }).setGov
        { noStep (u.setRunner { u.runner with stepIndex := i }).gov with step := some p }) :=
      k.gov (k.light (setRunner_light u rfl rfl) hu)
    have begins (u : State) (hu : P u) : P (Machine.aimAtStep p (setCeiling (if s.gov.state = .idle then beginRun u else u))) :=
      k.aimAtStep _ (k.gov (ite_keeps (k.gov hu) hu))
    have tests (u : State) (hu : P u) : P (if s.gov.state = .idle then Machine.runBeginTests u else u) :=
      ite_keeps (k.runBeginTests hu) hu
    exact tests _ (begins _ (takes _ (ite_keeps (k.cutQueue _ h) h)))

theorem nextStep (h : P s) : P (Machine.nextStep s) := by
  unfold Machine.nextStep
  exact ite_keeps (k.stepEntry _ h) (k.enterStopping (k.leaveStep h))

theorem stepFails (why : FailReason) (h : P s) : P (Machine.stepFails why s) := by
  have logged (a : FailAction) : P (askLog (.stepFailed s.runner.stepIndex why a) s) := k.light (askLog_light _ _) h
  unfold Machine.stepFails
  split
  · exact h
  · dsimp only
    split
    · exact k.nextStep (logged _)
    · exact k.stepEntry _ (k.light (setRunner_light _ rfl rfl) (logged _))
    · exact k.enterStopping (k.leaveStep (k.light (.trans (setRunner_light _ rfl rfl) (setRunnerState_light _ _)) (logged _)))
    · exact k.enterStopping (k.leaveStep (k.abortPlan _ (logged _)))

theorem balanceTest (h : P s) : P (Machine.balanceTest s) := by
  unfold Machine.balanceTest
  split
  · exact ite_keeps (k.nextStep h) h
  · exact h

/-! ### The estimate updates -/

theorem guardTest (h : P s) : P (Machine.guardTest s) := by
  unfold Machine.guardTest
  split
  · refine ite_keeps ?_ h
    unfold guardFails
    exact ite_keeps (k.enterState _ _ _ _ (k.gov h)) (k.stepFails _ (k.gov h))
  · exact h

theorem recomputeClass (h : P s) : P (Machine.recomputeClass s) := by
  unfold Machine.recomputeClass
  exact ite_keeps h (k.gov (k.recomputeCeiling (k.guardTest (k.gov h))))

theorem waitTest (h : P s) : P (Machine.waitTest s) := by
  unfold Machine.waitTest
  split
  · exact ite_keeps (k.enterState _ _ _ _ h) h
  · exact h

theorem governorEstimate (h : P s) : P (Machine.governorEstimate s) := by
  unfold Machine.governorEstimate
  exact k.balanceTest (k.waitTest (k.recomputeClass (ite_keeps (k.gov h) h)))

theorem addPlanned (c : Fin 4) (volume : Nat) (capLimited : Bool) (h : P s) : P (Machine.addPlanned c volume capLimited s) := by
  unfold Machine.addPlanned
  exact ite_keeps h (k.addOrder _ _ _ _ h)

theorem runPlanner (h : P s) : P (Machine.runPlanner s).1 := by
  obtain nothing | ⟨a, b, va, vb, fa, fb, two⟩ := runPlanner_cases s
  · rwa [nothing]
  · rw [two]
    exact k.addPlanned _ _ _ (k.addPlanned _ _ _ h)

theorem plannerUpdate (h : P s) : P (Machine.plannerUpdate s) := by
  unfold Machine.plannerUpdate
  split
  · split
    · exact k.runPlanner h
    · exact k.stepFails _ (k.runPlanner h)
  · exact h

theorem deliverTimes (n : Nat) (h : P s) : P (Machine.deliverTimes n s) := by
  induction n generalizing s with
  | zero => exact k.light (setOwed_light s false) h
  | succ n ih =>
    unfold Machine.deliverTimes
    exact ite_keeps (ih (unordered_keeps (fun u => k.light (nextChoice_light u)) (fun _ => k.governorEstimate)
      (fun _ => k.plannerUpdate) (k.light (setOwed_light s false) h))) h

theorem deliver (h : P s) : P (Machine.deliver s) := k.deliverTimes 4 h

/-- An event whose own effect brings about a predicate that updates keep, and that nothing else after an event touches. -/
theorem event {f : State → State} {dt : Nat} (h : P (f (advance dt s))) : P (Machine.event f dt s) :=
  k.light (s := Machine.deliver (f (advance dt s))) (by simp [Light, isLatched, Machine.event, event_asksOn]) (k.deliver h)

/-! ### Flags of the interlock tests at the governor (R50, R75) -/

theorem spinPermitChanged (h : P s) : P (Machine.spinPermitChanged s) := by
  unfold Machine.spinPermitChanged
  exact k.recomputeCeiling (ite_keeps (k.light (askLog_light _ _) h) h)

theorem knockRaised (h : P s) : P (Machine.knockRaised s) := by
  unfold Machine.knockRaised
  exact ite_keeps h (k.detect _ h)

theorem governorFlags (old : Lines) (h : P s) : P (Machine.governorFlags old s) := by
  unfold Machine.governorFlags
  refine unordered_keeps (fun u => k.light (nextChoice_light u)) (fun u hu => ?_) (fun u hu => ?_) h
  · exact ite_keeps hu (k.deliver (k.spinPermitChanged hu))
  · exact ite_keeps (k.deliver (k.knockRaised hu)) hu

end KeepsUpdates

/-- R191: no update takes a fault latch back. -/
theorem isLatched_keepsUpdates (k : FaultKind) : KeepsUpdates fun s => isLatched s k = true where
  light same h := same.2.2.2.2.2.1 k h
  askLock level h := (isLatched_congr _ (by simp) k).trans h
  passCheck h := (isLatched_congr _ (by simp) k).trans h
  cutQueue cause h := (isLatched_congr _ (by simp) k).trans h
  addOrder origin c volume capLimited h := (isLatched_congr _ (by simp) k).trans h

/-- R189: nor does one take a trigger of the report back. -/
theorem asksOn_keepsUpdates (r : ReportUnit) : KeepsUpdates fun s => r.AsksOn s.report where
  light same h := h.trans same.2.2.2.2.2.2
  askLock level h := by simpa using h
  passCheck h := h.trans (passCheck_asksOn _)
  cutQueue cause h := h.trans (cutQueue_asksOn _ cause)
  addOrder origin c volume capLimited h := by simpa using h

/-- R152: nor does one change the plan copy. -/
theorem plan_keepsUpdates (x : Plan) : KeepsUpdates fun s => s.runner.plan = x where
  light same h := same.2.2.2.1.trans h
  askLock level h := by simpa using h
  passCheck h := (passCheck_runner _).2.2.2.2.trans h
  cutQueue cause h := (cutQueue_runner _ cause).2.2.2.2.trans h
  addOrder origin c volume capLimited h := by simpa using h

end Sys2Proof.Machine

/-! The path of the drum angle, the pass start, the nominal open angle and the pass close (R98 to R102). -/

namespace Sys2Proof.Machine

open Sys2Proof.Safety Sys2Proof.Statement

/-! ### What a step of the drum angle reaches (log 14) -/

theorem forward_self (a : Nat) : forward a a = 0 := by
  unfold forward Config.fullTurn
  omega

theorem AnglePath.reached_iff {p : AnglePath} {cur x : Nat} :
    p.reached cur x = true ↔ (∃ arc ∈ p.passed, arc.has x = true) ∨ (p.lastArc cur).has x = true := by
  simp [reached, arcs]

/-- A forward step lays one arc from the angle after its start. -/
theorem AnglePath.jump_lastArc (p : AnglePath) (now a b : Nat) :
    ((p.jump now a b).lastArc b) =
      { start := (p.jump now a b).start, len := if forward a b ≤ 46080 then forward a b else 0 } := by
  unfold lastArc jump
  rw [forward_self b]
  rfl

theorem AnglePath.jump_start (p : AnglePath) (now : Nat) {a b : Nat} (half : forward a b ≤ 46080) :
    (p.jump now a b).start = (b + 92161 - forward a b) % 92160 :=
  congrArg (fun steps => (b + 92161 - steps) % 92160) (if_pos half)

theorem AnglePath.jump_reached_forward (p : AnglePath) (now : Nat) {a b x : Nat} (hb : b < 92160)
    (hx : x < 92160) (half : forward a b ≤ 46080) (past : 0 < forward a x) (within : forward a x ≤ forward a b) :
    (p.jump now a b).reached b x = true := by
  refine reached_iff.2 (.inr ?_)
  rw [jump_lastArc p now a b, if_pos half, Arc.has, decide_eq_true_eq, jump_start p now half]
  dsimp only
  unfold forward Config.fullTurn at *
  omega

/-- A backward step of the moment reaches nothing, and leaves what the moment has reached. -/
theorem AnglePath.jump_reached_backward {p : AnglePath} {now a b x : Nat} (back : 46080 < forward a b)
    (moment : p.since = now) : (p.jump now a b).reached b x = p.reached a x := by
  have last : (((p.jump now a b).lastArc b)).has x = false := by
    rw [jump_lastArc p now a b, if_neg (by omega), Arc.has]
    simp
  have passed : (p.jump now a b).passed = p.arcs a := if_pos moment
  rw [reached, arcs, List.any_append, passed]
  simp [last, reached]

/-- What a step has reached stays reached at the next step of the moment. -/
theorem AnglePath.jump_reached_again {p : AnglePath} {now a b c x : Nat} (h : (p.jump now a b).reached b x = true) :
    ((p.jump now a b).jump now b c).reached c x = true := by
  have passed : ((p.jump now a b).jump now b c).passed = (p.jump now a b).arcs b := if_pos rfl
  rw [reached, arcs, List.any_append, passed]
  exact Bool.or_eq_true_iff.2 (.inl h)

/-! ### The pass start and the nominal open angle -/

/-- R110: an output L0 takes the level that is asked for, once start-up has ended. -/
theorem askFill_latch {s : State} (level : Bool) (started : started s = true) (output : s.lines.line[0].output = true) :
    (askFill level s).lines.line[0].latch = level := by
  have drive : (askFill level s).lines.line[0] = s.lines.line[0].withLatch s.now level := by simp [askFill, started, setLine]
  rw [drive, (withLatch_fields _ _ _).2.2.2, if_pos output]

@[simp] theorem askFill_recorded (level : Bool) (s : State) : (askFill level s).lines.askFill = some level := by
  unfold askFill
  dsimp only
  split <;> rfl

theorem startingOrder_of {s : State} {o : DoseOrder} {rest : List DoseOrder} (queue : s.dosing.queue = o :: rest)
    (state : o.state = .injecting) (pass : s.dosing.pass = none) (reached : angleReached s (openingAngle s o.chamber) = true) :
    startingOrder s = some o := by
  simp [startingOrder, queue, pass, state, reached]

/-- R98 to R100: what a pass record says from its start on. -/
theorem passRecordFor_fields (s : State) (o : DoseOrder) :
    (passRecordFor s o).chamber = o.chamber ∧
      (passRecordFor s o).volume = min (passVolume s.settings.inForce.dosing s.timing.speed) (o.ordered - o.injected) ∧
      (passRecordFor s o).opening = openingAngle s o.chamber ∧
      (passRecordFor s o).nominal = nominalOpenAngle s.settings.inForce.dosing o.chamber ∧
      (passRecordFor s o).startAt = s.now ∧ (passRecordFor s o).nominalAt = none := by
  unfold passRecordFor
  extract_lets d v opening nominal r full lag
  split
  · rename_i fits
    exact ⟨rfl, (Nat.min_eq_left fits).symm, rfl, rfl, rfl, rfl⟩
  · rename_i final
    exact ⟨rfl, (Nat.min_eq_right (Nat.le_of_not_le final)).symm, rfl, rfl, rfl, rfl⟩

theorem passStart_of_conditions {s : State} {o : DoseOrder} (order : startingOrder s = some o) (fit : passConditions s = true) :
    (passStart s).dosing.pass = some (passRecordFor s o) ∧
      (started s = true → s.lines.line[0].output = true → (passStart s).lines.line[0].latch = true) := by
  unfold passStart
  rw [order]
  dsimp only
  rw [if_pos fit]
  exact ⟨by simp, fun running output => askFill_latch true running output⟩

theorem passStart_waits {s : State} {o : DoseOrder} (order : startingOrder s = some o) (unfit : passConditions s = false) :
    passStart s = takeAngle (openingAngle s o.chamber) s := by
  unfold passStart
  rw [order]
  dsimp only
  rw [if_neg (by simp [unfit])]

@[simp] theorem passStart_accounts (s : State) : (passStart s).dosing.accounts = s.dosing.accounts := by
  unfold passStart
  (repeat' split) <;> simp [keepAngle, takeAngle]

@[simp] theorem nominalOpen_accounts (s : State) : (nominalOpen s).dosing.accounts = s.dosing.accounts := by
  unfold nominalOpen
  (repeat' split) <;> simp [keepAngle]

/-- Settles O31. -/
theorem passStartAndNominalOpen : Obligations.PassStartAndNominalOpen := by
  refine ⟨fun path now a b c x _ hb hx => ⟨fun half past within => ?_, fun back moment => ?_, fun reached => ?_⟩,
    fun dt o rest s owed started output queue state pass reached => ?_, fun dt p s owed pass open' reached => ?_⟩
  · exact path.jump_reached_forward now hb hx half past within
  · exact AnglePath.jump_reached_backward back moment
  · exact AnglePath.jump_reached_again reached
  · have order : startingOrder (advance dt s) = some o := startingOrder_of queue state pass reached
    have quiet : (passStart (advance dt s)).est.owed = false := by simp [owed]
    refine ⟨event passStart dt s, rfl, by simp [owed], by simp [owed], fun fit => ?_, fun unfit => ?_⟩
    · obtain ⟨made, driven⟩ := passStart_of_conditions order fit
      obtain ⟨chamber, volume, opening, nominal, startAt, nominalAt⟩ := passRecordFor_fields (advance dt s) o
      refine ⟨_, by rw [(event_machine quiet).2.2.1, made], chamber, volume, opening, nominal, startAt, nominalAt, ?_⟩
      rw [(event_machine quiet).2.2.2]
      exact driven started output
    · have waits := passStart_waits order unfit
      rw [(event_machine quiet).2.2.1, (event_machine quiet).2.2.2, waits]
      exact ⟨pass, rfl⟩
  · have quiet : (nominalOpen (advance dt s)).est.owed = false := by simp [owed]
    refine ⟨event nominalOpen dt s, rfl, ?_, by simp [owed], by simp [owed]⟩
    rw [(event_machine quiet).2.2.1]
    simp [nominalOpen, pass, open', reached]

/-! ### The pass close -/

theorem closeDue_iff {s : State} {p : PassRecord} :
    closeDue s p = true ↔ if p.minClose then 1000 ≤ s.now - p.startAt else angleReached s p.closing = true := by
  unfold closeDue since
  split
  · exact decide_eq_true_iff
  · rfl

@[simp] theorem setEstimate_mark (x : Estimate) (s : State) : (setEstimate x s).est.staleMark = s.est.staleMark := by
  unfold setEstimate
  dsimp only
  split <;> simp

@[simp] theorem recompute_mark (joined : Option Record) (s : State) :
    (recompute joined s).est.staleMark = s.est.staleMark := by
  unfold recompute
  dsimp only
  (repeat' split) <;> simp

@[simp] theorem takeStaleMark_mark (mark : Word32) (s : State) : (takeStaleMark mark s).est.staleMark = some mark :=
  recompute_mark _ _

/-- R102: what the accounting of a pass changes, the head order apart. -/
theorem accountPass_volumes {s : State} {o : DoseOrder} {rest : List DoseOrder} (p : PassRecord) (volume : Nat)
    (queue : s.dosing.queue = o :: rest) :
    (accountPass p volume s).dosing.accounts = s.dosing.accounts.set p.chamber (s.dosing.accounts[p.chamber] + volume) ∧
      (accountPass p volume s).runner.doseUsed = s.runner.doseUsed + volume ∧ (accountPass p volume s).lines = s.lines ∧
      (o.injected + volume ≠ o.ordered → (accountPass p volume s).est = s.est) ∧
      (o.injected + volume = o.ordered → (accountPass p volume s).est.staleMark = some (s.timing.counter + 1)) := by
  unfold accountPass
  rw [queue]
  dsimp only
  split
  · rename_i full
    refine ⟨by simp, by simp, by simp, fun short => absurd full short, fun _ => ?_⟩
    exact takeStaleMark_mark _ _
  · rename_i short
    exact ⟨by simp, by simp, by simp, fun _ => by simp, fun full => absurd full short⟩

theorem passClose_of_due {s : State} {p : PassRecord} (pass : s.dosing.pass = some p) (due : closeDue s p = true) :
    passClose s = accountPass p p.volume (askFill false (takeAngle p.closing s)) := by
  simp [passClose, pass, due]

@[simp] theorem addOrder_accounts (origin : Origin) (c : Fin 4) (volume : Nat) (capLimited : Bool) (s : State) :
    (addOrder origin c volume capLimited s).dosing.accounts = s.dosing.accounts := by
  unfold addOrder promote
  (repeat' split) <;> simp

/-- A pass has been accounted: it is over, FILL is asked low, and the accounts, the runner's dose used and the stale mark are as given. -/
def PassOver (accounts : Vector Nat 4) (used : Nat) (mark : Option Word32) (s : State) : Prop :=
  s.dosing.pass = none ∧ s.lines.askFill = some false ∧ s.dosing.accounts = accounts ∧ s.runner.doseUsed = used ∧
    s.est.staleMark = mark

@[simp] theorem askLock_askFill (level : Bool) (s : State) : (askLock level s).lines.askFill = s.lines.askFill := by
  unfold askLock
  dsimp only
  split <;> rfl

/-- R104: a cut with no pass in progress asks FILL low and accounts nothing. -/
theorem PassOver.cutQueue {accounts : Vector Nat 4} {used : Nat} {mark : Option Word32} {s : State} (cause : CutCause)
    (h : PassOver accounts used mark s) : PassOver accounts used mark (cutQueue cause s) := by
  obtain ⟨pass, fill, account, dose, stale⟩ := h
  unfold Machine.cutQueue
  split
  · exact ⟨pass, fill, account, dose, stale⟩
  · rw [closeProRata_of_none pass]
    simp [PassOver, account, dose, stale]

theorem passOver_keepsUpdates (accounts : Vector Nat 4) (used : Nat) (mark : Option Word32) :
    KeepsUpdates (PassOver accounts used mark) where
  light same h := by
    obtain ⟨lines, dosing, dose, -, stale, -⟩ := same
    unfold PassOver
    rwa [lines, dosing, dose, stale]
  askLock level h := by simpa [PassOver] using h
  passCheck h := by rwa [passCheck_of_none h.1]
  cutQueue cause h := h.cutQueue cause
  addOrder origin c volume capLimited h := by simpa [PassOver] using h

/-- Settles O32. -/
theorem passCloseAccountsVolume : Obligations.PassCloseAccountsVolume := by
  intro dt p o rest s owed pass queue due
  have closes := passClose_of_due (s := advance dt s) pass (closeDue_iff.2 due)
  have head : (askFill false (takeAngle p.closing (advance dt s))).dosing.queue = o :: rest := by simp [takeAngle, queue]
  obtain ⟨accounts, dose, lines, est, mark⟩ := accountPass_volumes p p.volume head
  obtain ⟨ended, orders⟩ := accountPass_dosing (askFill false (takeAngle p.closing (advance dt s))) p p.volume
  rw [← closes] at accounts dose lines est mark ended orders
  have done : PassOver (s.dosing.accounts.set p.chamber (s.dosing.accounts[p.chamber] + p.volume)) (s.runner.doseUsed + p.volume)
      (passClose (advance dt s)).est.staleMark (event passClose dt s) :=
    (passOver_keepsUpdates _ _ _).event
      ⟨ended, by rw [lines]; simp, by rw [accounts]; simp [takeAngle], by rw [dose]; simp [takeAngle], rfl⟩
  obtain ⟨finished, fill, accounted, used, stale⟩ := done
  refine ⟨event passClose dt s, rfl, finished, fill, ?_, fun k other => ?_, used, fun short => ?_, fun full => ?_⟩
  · rw [accounted]
    simp
  · rw [accounted]
    simp [Fin.val_inj, other.symm]
  · have quiet : (passClose (advance dt s)).est.owed = false := by
      rw [est short]
      simpa [takeAngle] using owed
    rw [(event_machine quiet).2.2.1, orders, head]
    simp [DoseOrder.accounted, short]
  · rw [stale, mark full]
    simp [takeAngle]

end Sys2Proof.Machine

/-! The accepted change of a line: the three tests read the new values, and what the change sets off leaves what they read (R111, R118). -/

namespace Sys2Proof.Machine

open Sys2Proof.Safety Sys2Proof.Statement

/-- What the tests read of a line, with an input's debounce record. -/
def LineRec.judged (l : LineRec) : Bool × Bool × Option Debounce := (l.output, l.accepted, if l.output then none else l.debounce)

/-- What the tests read of the line unit, with its inputs' debounce records and the tests' flags. -/
def Lines.judged (ls : Lines) : Vector (Bool × Bool × Option Debounce) 8 × TestFlags × TestFlags × TestFlags :=
  (ls.line.map LineRec.judged, ls.spinPermit, ls.dosePermit, ls.knock)

/-- R109, R110: a latch change touches nothing that the tests read. -/
@[simp] theorem LineRec.judged_withLatch (l : LineRec) (now : Nat) (level : Bool) : (l.withLatch now level).judged = l.judged := by
  unfold judged
  cases output : l.output
  · simp [withLatch, output]
  · simp [output]

theorem map_judged_set (v : Vector LineRec 8) (n : Fin 8) (now : Nat) (level : Bool) :
    (v.set n (v[n].withLatch now level)).map LineRec.judged = v.map LineRec.judged := by
  refine Vector.ext fun i hi => ?_
  by_cases here : n.val = i
  · subst here; simp
  · simp [here]

@[simp] theorem askFill_judged (level : Bool) (s : State) : (askFill level s).lines.judged = s.lines.judged := by
  unfold askFill Lines.judged
  dsimp only
  split
  · exact congrArg (·, _) (map_judged_set s.lines.line 0 s.now level)
  · rfl

@[simp] theorem askLock_judged (level : Bool) (s : State) : (askLock level s).lines.judged = s.lines.judged := by
  unfold askLock Lines.judged
  dsimp only
  split
  · exact congrArg (·, _) (map_judged_set s.lines.line 1 s.now level)
  · rfl

@[simp] theorem accountPass_lines (p : PassRecord) (volume : Nat) (s : State) : (accountPass p volume s).lines = s.lines := by
  unfold accountPass
  dsimp only
  (repeat' split) <;> simp

@[simp] theorem closeProRata_judged (s : State) : (closeProRata s).lines.judged = s.lines.judged := by
  unfold closeProRata
  split <;> simp

@[simp] theorem passCheck_judged (s : State) : (passCheck s).lines.judged = s.lines.judged := by
  unfold passCheck
  split <;> simp

@[simp] theorem cutQueue_judged (cause : CutCause) (s : State) : (cutQueue cause s).lines.judged = s.lines.judged := by
  unfold cutQueue
  split <;> simp

theorem judged_keepsUpdates (x : Vector (Bool × Bool × Option Debounce) 8 × TestFlags × TestFlags × TestFlags) :
    KeepsUpdates fun s => s.lines.judged = x where
  light same h := by rwa [same.1]
  askLock level h := by simpa using h
  passCheck h := by simpa using h
  cutQueue cause h := by simpa using h
  addOrder origin c volume capLimited h := by simpa using h

/-- The line unit with the tests evaluated, before the flags are handed on. -/
def withFlags (set : LineSettings) (ls : Lines) : Lines :=
  { ls with
    spinPermit := testFlags ls set.spinPermit, dosePermit := testFlags ls set.dosePermit, knock := testFlags ls set.knock }

theorem evaluateTests_judged (s : State) : (evaluateTests s).lines.judged = (withFlags s.settings.inForce.lines s.lines).judged := by
  have keeps := judged_keepsUpdates (withFlags s.settings.inForce.lines s.lines).judged
  unfold evaluateTests
  exact unordered_keeps (P := fun t => t.lines.judged = (withFlags s.settings.inForce.lines s.lines).judged)
    (fun u hu => by simpa using hu) (fun u hu => keeps.governorFlags _ hu)
    (fun u hu => ite_keeps (P := fun t => t.lines.judged = _) hu (keeps.deliver (keeps.passCheck hu))) rfl

/-! ### What the tests read decides their flags -/

theorem judged_line {a b : Lines} (h : a.judged = b.judged) (n : Fin 8) : a.line[n].judged = b.line[n].judged := by
  have lines : a.line.map LineRec.judged = b.line.map LineRec.judged := congrArg Prod.fst h
  simpa using congrArg (fun v => v[n]) lines

theorem testFlags_of_judged {a b : Lines} (x : TestSetting) (h : a.judged = b.judged) : testFlags a x = testFlags b x := by
  have output (n : Fin 8) : a.line[n].output = b.line[n].output := congrArg Prod.fst (judged_line h n)
  have accepted (n : Fin 8) : a.line[n].accepted = b.line[n].accepted := congrArg (·.2.1) (judged_line h n)
  have tested : testedLines a x = testedLines b x := by
    unfold testedLines
    exact List.filter_congr fun n _ => by rw [output n]
  have matching : lineMatches a x = lineMatches b x := funext fun n => by unfold lineMatches; rw [accepted n]
  unfold testFlags
  rw [tested, matching]

/-- R111: a line whose candidate has become its accepted value. -/
def LineRec.takes (l : LineRec) (d : Debounce) : LineRec := { l with accepted := d.candidate, debounce := none }

/-- The line unit with the candidate of a line accepted. -/
def acceptedLines (s : State) (n : Fin 8) (d : Debounce) : Lines :=
  { s.lines with line := s.lines.line.set n (s.lines.line[n].takes d) }

@[simp] theorem acceptedLines_line (s : State) (n : Fin 8) (d : Debounce) :
    (acceptedLines s n d).line[n] = s.lines.line[n].takes d := by simp [acceptedLines]

theorem acceptChange_of_due {n : Fin 8} {d : Debounce} {s : State} (debounce : s.lines.line[n].debounce = some d)
    (due : s.settings.inForce.lines.debounce * 1000 ≤ s.now - d.start) :
    acceptChange n s =
      if s.lines.line[n].output then s.setLines (acceptedLines s n d) else evaluateTests (s.setLines (acceptedLines s n d)) := by
  unfold acceptChange
  rw [debounce]
  exact if_pos due

/-- Settles O34. -/
theorem acceptedChangeReachesTests : Obligations.AcceptedChangeReachesTests := by
  intro dt n d s debounce due
  have accepts := acceptChange_of_due (s := advance dt s) debounce due
  refine ⟨event (acceptChange n) dt s, rfl, ?_⟩
  cases output : s.lines.line[n].output with
  | true =>
    have here : (advance dt s).lines.line[n].output = true := output
    have kept : (event (acceptChange n) dt s).lines.judged = (acceptedLines s n d).judged :=
      (judged_keepsUpdates _).event (by rw [accepts, if_pos here]; rfl)
    have same := judged_line kept n
    rw [acceptedLines_line] at same
    exact ⟨congrArg (·.2.1) same, fun input => absurd input (by simp)⟩
  | false =>
    have here : (advance dt s).lines.line[n].output = false := output
    have kept : (event (acceptChange n) dt s).lines.judged =
        (withFlags s.settings.inForce.lines (acceptedLines s n d)).judged :=
      (judged_keepsUpdates _).event (by rw [accepts, if_neg (Bool.eq_false_iff.1 here), evaluateTests_judged]; rfl)
    have flags (x : TestSetting) : testFlags (event (acceptChange n) dt s).lines x = testFlags (acceptedLines s n d) x :=
      (testFlags_of_judged x kept).trans rfl
    have same : (event (acceptChange n) dt s).lines.line[n].judged = (s.lines.line[n].takes d).judged :=
      (judged_line kept n).trans (congrArg LineRec.judged (acceptedLines_line s n d))
    have input : (event (acceptChange n) dt s).lines.line[n].output = false := (congrArg Prod.fst same).trans output
    refine ⟨congrArg (·.2.1) same, fun _ => ⟨?_, ?_, ?_, ?_⟩⟩
    · have debounced := congrArg (·.2.2) same
      simp only [LineRec.judged, LineRec.takes] at debounced
      rw [if_neg (Bool.eq_false_iff.1 input)] at debounced
      exact debounced.trans (if_neg (Bool.eq_false_iff.1 output))
    · rw [flags]; exact congrArg (·.2.1) kept
    · rw [flags]; exact congrArg (·.2.2.1) kept
    · rw [flags]; exact congrArg (·.2.2.2) kept

end Sys2Proof.Machine

/-! Start conditions on a port (R176, R177, R200). -/

namespace Sys2Proof.Machine

open Sys2Proof.Safety Sys2Proof.Statement

/-! ### A port after a whole event -/

/-- A port whose stretched byte, where there is one, still waits is after an event as the event's own effect leaves it. -/
theorem portOf_event_settled {f : State → State} {dt : Nat} {s : State} {p : Port}
    (start : (portOf (f (advance dt s)) p).heldStart = none)
    (waits : ∀ x, (portOf (f (advance dt s)) p).stretch = some x → stillWaits (f (advance dt s)) (portOf (f (advance dt s)) p) x) :
    portOf (event f dt s) p = portOf (f (advance dt s)) p := by
  cases stretch : (portOf (f (advance dt s)) p).stretch with
  | none => exact portOf_event stretch start
  | some x => exact portOf_event_waits stretch start (waits x stretch)

theorem waitsForQuiet_congr {s t : State} (settings : t.settings = s.settings) (gov : t.gov = s.gov) (runner : t.runner = s.runner)
    (pages : t.pages.swap = s.pages.swap) : waitsForQuiet t = waitsForQuiet s := by
  unfold waitsForQuiet started planUnderWay swapBusy
  rw [settings, gov, runner, pages]

theorem releasePort_held {s : State} {p : Port} {read : Bool} (stretch : (portOf s p).stretch = none)
    (start : (portOf s p).heldStart = some read) (quiet : waitsForQuiet s = true) : releasePort p s = s := by
  have edit : releaseEdit p s = s := by unfold releaseEdit; rw [stretch]; split <;> rfl
  have post : releasePost p s = s := by unfold releasePost; rw [stretch]
  unfold releasePort releaseStart
  rw [edit, post, start]
  exact if_pos quiet

/-- R200: a device address that is held while the settings unit waits for quiet stays held. -/
theorem portOf_settle_held {s : State} {p : Port} {read : Bool} (stretch : (portOf s p).stretch = none)
    (start : (portOf s p).heldStart = some read) (quiet : waitsForQuiet s = true) : portOf (settle s) p = portOf s p := by
  unfold settle
  rw [portOf_rest]
  cases p with
  | c => rw [portOf_releasePort_other (by decide), releasePort_held stretch start quiet]
  | d =>
    have other : portOf (releasePort .c s) .d = portOf s .d := portOf_releasePort_other (by decide) s
    have still : waitsForQuiet (releasePort .c s) = true :=
      (waitsForQuiet_congr (by simp) (by simp) (by simp) (by simp)).trans quiet
    rw [releasePort_held (by rw [other]; exact stretch) (by rw [other]; exact start) still, other]

/-! ### A start condition -/

theorem upstreamStart_idle {s : State} {p : Port} (addr : BitVec 7) (read : Bool) (start : (portOf s p).heldStart = none)
    (idle : (portOf s p).txn = .idle) : upstreamStart p addr read s = startOn p addr read s := by
  simp [upstreamStart, start, idle]

theorem upstreamStart_repeated {s : State} {p : Port} (addr : BitVec 7) (read : Bool) (start : (portOf s p).heldStart = none)
    (busy : (portOf s p).txn ≠ .idle) : upstreamStart p addr read s = restartTxn p addr read s := by
  simp [upstreamStart, start, busy]

/-- R176: the record of a port in which a transaction begins. -/
def PortState.begun (q : PortState) (read : Bool) : PortState :=
  { q with
    txn := if read then .reading else .addressing, addrHigh := none, touch := .empty, snapshot := none, viewPage := none,
    reported := [], editRefused := false, nacked := false, sending := none, heldStart := none, reply := .ack }

/-- R177: the record of a port at a repeated start. -/
def PortState.restarted (q : PortState) (read : Bool) : PortState :=
  { q with
    stretch := none, txn := if read then .reading else .addressing, addrHigh := none, nacked := false, sending := none, reply := .ack }

/-- R177: the record of a port after a transaction. -/
def PortState.ended (q : PortState) : PortState :=
  { q with
    stretch := none, txn := .idle, addrHigh := none, touch := .empty, snapshot := none, viewPage := none, reported := [],
    editRefused := false, nacked := false, sending := none, reply := .none }

section
variable {s : State} {p : Port} {addr : BitVec 7} {read : Bool} {dt : Nat}

theorem portOf_startOn_held (up : started s = true) (own : addr = deviceAddress s) (quiet : waitsForQuiet s = true) :
    portOf (startOn p addr read s) p = { portOf s p with heldStart := some read, reply := .none } := by
  simp [startOn, up, own, quiet]

theorem portOf_startOn_begun (up : started s = true) (own : addr = deviceAddress s) (busy : waitsForQuiet s = false) :
    portOf (startOn p addr read s) p = (portOf s p).begun read := by
  simp [startOn, up, own, busy, beginTxn, PortState.begun]

theorem portOf_startOn_foreign (other : started s = false ∨ addr ≠ deviceAddress s) :
    portOf (startOn p addr read s) p = { portOf s p with reply := .nack } := by
  have foreign : ¬(started s = true ∧ addr = deviceAddress s) := by
    rintro ⟨up, own⟩
    obtain down | differs := other
    · rw [up] at down; cases down
    · exact differs own
  rw [startOn, if_neg foreign]
  simp [answer]

theorem portOf_restartTxn_own (own : addr = deviceAddress s) :
    portOf (restartTxn p addr read s) p = (portOf s p).restarted read := by
  simp [restartTxn, own, PortState.restarted]

theorem portOf_restartTxn_foreign (busy : (portOf s p).txn ≠ .idle) (foreign : addr ≠ deviceAddress s) :
    portOf (restartTxn p addr read s) p = { (portOf s p).ended with reply := .nack } := by
  simp [restartTxn, foreign, answer, portOf_endTxn p s busy, PortState.ended]

/-- R200: a start that has to wait for quiet is held through the whole event. -/
theorem portOf_event_held (owed : s.est.owed = false) (up : started s = true) (own : addr = deviceAddress s)
    (quiet : waitsForQuiet s = true) (start : (portOf s p).heldStart = none) (idle : (portOf s p).txn = .idle)
    (stretch : (portOf s p).stretch = none) :
    portOf (event (upstreamStart p addr read) dt s) p = { portOf s p with heldStart := some read, reply := .none } := by
  have effect : upstreamStart p addr read (advance dt s) = startOn p addr read (advance dt s) :=
    upstreamStart_idle addr read (by simpa using start) (by simpa using idle)
  have held : portOf (upstreamStart p addr read (advance dt s)) p = { portOf s p with heldStart := some read, reply := .none } := by
    rw [effect, portOf_startOn_held (s := advance dt s) up own quiet, portOf_advance]
  rw [event_quiet (by simpa using owed) (by simp)]
  refine (portOf_settle_held (read := read) ?_ ?_ ?_).trans held
  · rw [held]; exact stretch
  · rw [held]
  · exact (waitsForQuiet_congr (s := s) (by simp) (by simp) (by simp) (by simp)).trans quiet

/-- After a start that need not wait the port stands as the start itself leaves it. -/
theorem portOf_event_start {q : PortState} (effect : portOf (upstreamStart p addr read (advance dt s)) p = q)
    (start : q.heldStart = none) (stretch : q.stretch = none) : portOf (event (upstreamStart p addr read) dt s) p = q := by
  subst effect
  exact portOf_event stretch start

end

/-- Settles O38. -/
theorem startBeginsTransaction : Obligations.StartBeginsTransaction := by
  intro dt p addr read s c owed which start unstretched
  have run : exec c s = .next (event (upstreamStart p addr read) dt s) := by
    obtain rfl | rfl := which <;> rfl
  have start' : (portOf (advance dt s) p).heldStart = none := by simpa using start
  refine ⟨event (upstreamStart p addr read) dt s, run, ?_⟩
  by_cases idle : (portOf s p).txn = .idle
  · have stretch := unstretched idle
    have effect : upstreamStart p addr read (advance dt s) = startOn p addr read (advance dt s) :=
      upstreamStart_idle addr read start' (by simpa using idle)
    by_cases other : started s = false ∨ addr ≠ deviceAddress s
    · have left : portOf (event (upstreamStart p addr read) dt s) p = { portOf s p with reply := .nack } :=
        portOf_event_start (by rw [effect, portOf_startOn_foreign (s := advance dt s) other, portOf_advance]) start stretch
      rw [left]
      refine ⟨rfl, rfl, fun _ => ⟨fun up own => ?_, fun _ => ⟨idle, rfl⟩⟩, fun busy => absurd idle busy⟩
      obtain down | differs := other
      · rw [up] at down; cases down
      · exact absurd own differs
    · obtain ⟨up, own⟩ : started s = true ∧ addr = deviceAddress s := by simpa using other
      by_cases quiet : waitsForQuiet s = true
      · rw [portOf_event_held owed up own quiet start idle stretch]
        refine ⟨rfl, rfl, fun _ => ⟨fun _ _ => ?_, fun foreign => absurd foreign other⟩, fun busy => absurd idle busy⟩
        rw [if_pos quiet]
        exact ⟨rfl, idle, rfl⟩
      · have left : portOf (event (upstreamStart p addr read) dt s) p = (portOf s p).begun read :=
          portOf_event_start
            (by rw [effect, portOf_startOn_begun (s := advance dt s) up own (Bool.eq_false_iff.2 quiet), portOf_advance])
            rfl stretch
        rw [left]
        refine ⟨rfl, rfl, fun _ => ⟨fun _ _ => ?_, fun foreign => absurd foreign other⟩, fun busy => absurd idle busy⟩
        rw [if_neg quiet]
        exact ⟨rfl, rfl, rfl, rfl, rfl, rfl⟩
  · have effect : upstreamStart p addr read (advance dt s) = restartTxn p addr read (advance dt s) :=
      upstreamStart_repeated addr read start' (by simpa using idle)
    by_cases own : addr = deviceAddress s
    · have left : portOf (event (upstreamStart p addr read) dt s) p = (portOf s p).restarted read :=
        portOf_event_start (by rw [effect, portOf_restartTxn_own (s := advance dt s) own, portOf_advance]) start rfl
      rw [left]
      exact ⟨rfl, rfl, fun h => absurd h idle, fun _ => ⟨fun _ => ⟨rfl, rfl, rfl, rfl, rfl, rfl, rfl⟩, fun other => absurd own other⟩⟩
    · have left : portOf (event (upstreamStart p addr read) dt s) p = { (portOf s p).ended with reply := .nack } :=
        portOf_event_start
          (by rw [effect, portOf_restartTxn_foreign (s := advance dt s) (by simpa using idle) own, portOf_advance]) start rfl
      rw [left]
      exact ⟨rfl, rfl, fun h => absurd h idle, fun _ => ⟨fun same => absurd same own, fun _ => ⟨rfl, rfl, rfl⟩⟩⟩

end Sys2Proof.Machine

/-! A write byte on its port, by its decode (R127, R136, R139, R146, R179, R180). -/

namespace Sys2Proof.Machine

open Sys2Proof.Safety Sys2Proof.Statement

/-- R127: the pointer after a byte. -/
def PortState.stepped (q : PortState) : PortState :=
  { q with pointer := if q.pointer = 0xFFFF then 0xFFFF else q.pointer + 1 }

theorem portOf_stepped (p : Port) (s : State) : portOf (stepPointer p s) p = (portOf s p).stepped := portOf_stepPointer p s

/-- R137: the kinds reported in a transaction after a fault of a kind. -/
def reportedWith (k : AccessKind) (l : List AccessKind) : List AccessKind := if k ∈ l then l else l ++ [k]

theorem portOf_accessFault_reports (p : Port) (k : AccessKind) (a : Nat) (s : State) :
    portOf (accessFault p k a s) p = { portOf s p with reported := reportedWith k (portOf s p).reported } :=
  portOf_accessFault p k a s

/-- R137, R192: the first fault of a kind in a transaction is the last access fault; a further one of the kind is not handed over. -/
theorem accessFault_lastAccess {p : Port} {k : AccessKind} {s : State} (first : k ∉ (portOf s p).reported) (a : Nat) :
    (accessFault p k a s).report.lastAccess = some { port := p, kind := k, addr := a } := by
  simp [accessFault, first, recordAccess, ReportUnit.record]

theorem accessFault_repeated {p : Port} {k : AccessKind} {s : State} (again : k ∈ (portOf s p).reported) (a : Nat) :
    accessFault p k a s = s := by simp [accessFault, again]

@[simp] theorem closeOwn_report (p : Port) (s : State) : (closeOwn p s).report = s.report := by
  unfold closeOwn; split <;> simp

/-! ### The port after a write byte -/

section
variable {p : Port} {v : Byte} {s : State} {a : Nat} (writing : (portOf s p).txn = .writing)
  (free : (portOf s p).stretch = none) (here : (portOf s p).pointer.toNat = a)
include writing free here

theorem takeWriteByte_discardHeld {k : AccessKind}
    (decoded : decode s.settings.inForce.traffic p true a = .discard k .held) :
    takeWriteByte p v s = refuseWrite p (closeOwn p (accessFault p k a (stepPointer p s))) := by
  subst here
  simp only [takeWriteByte, writing, free, and_self, if_true, writeByte, decoded]

theorem takeWriteByte_discardPosted {k : AccessKind}
    (decoded : decode s.settings.inForce.traffic p true a = .discard k .posted) :
    takeWriteByte p v s = answer p .ack (closeOwn p (accessFault p k a (stepPointer p s))) := by
  subst here
  simp only [takeWriteByte, writing, free, and_self, if_true, writeByte, decoded]

theorem takeWriteByte_memory {x : Option SnoopPoint}
    (decoded : decode s.settings.inForce.traffic p true a = .memory .held x) :
    takeWriteByte p v s = holdWrite p a v a s.now (snoopAt p x v (stepPointer p s)) := by
  subst here
  exact takeWriteByte_held decoded writing free

theorem takeWriteByte_edit {o : Nat} (decoded : decode s.settings.inForce.traffic p true a = .edit o) :
    takeWriteByte p v s =
      if swapBusy s then stretchByte p (.editWrite o v) a s.now (closeOwn p (stepPointer p s))
      else editWriteOn p o v a s.now (stepPointer p s) := by
  subst here
  simp only [takeWriteByte, writing, free, and_self, if_true, writeByte, decoded]

/-- A POSTED byte that is taken, before the buffer is asked for room. -/
theorem takeWriteByte_posted {x : Option SnoopPoint}
    (decoded : decode s.settings.inForce.traffic p true a = .memory .posted x) :
    takeWriteByte p v s =
      if (portOf s p).post.length < 32 then joinPost p a v (closeOwn p (snoopAt p x v (stepPointer p s)))
      else stretchByte p (.post a v) a s.now (closeOwn p (snoopAt p x v (stepPointer p s))) := by
  subst here
  have room : (portOf (closeOwn p (snoopAt p x v (stepPointer p s))) p).post = (portOf s p).post := by
    simp [portOf_snoopAt]
  simp only [takeWriteByte, writing, free, and_self, if_true, writeByte, decoded, room, Config.postRoom]

/-- A byte of the PLAN_VIEW window has no write right. -/
theorem takeWriteByte_view {o : Nat} (decoded : decode s.settings.inForce.traffic p true a = .view o) :
    takeWriteByte p v s = stepPointer p s := by
  subst here
  simp only [takeWriteByte, writing, free, and_self, if_true, writeByte, decoded]

end

/-- The touch set after a byte with or without a snoop point. -/
def touchAt (x : Option SnoopPoint) (t : Touch) : Touch :=
  match x with
  | some y => y.touch t
  | none => t

section
variable {p : Port} {v : Byte} {s : State} {a : Nat}

theorem portOf_refusedWrite (k : AccessKind) :
    portOf (refuseWrite p (closeOwn p (accessFault p k a (stepPointer p s)))) p =
      { (portOf s p).stepped with
        reported := reportedWith k (portOf s p).reported, txn := .ignoring, reply := .nack, stretch := none } := by
  simp [refuseWrite, portOf_accessFault_reports, PortState.stepped]

theorem portOf_acknowledgedDiscard (k : AccessKind) :
    portOf (answer p .ack (closeOwn p (accessFault p k a (stepPointer p s)))) p =
      { (portOf s p).stepped with reported := reportedWith k (portOf s p).reported, reply := .ack } := by
  simp [answer, portOf_accessFault_reports, PortState.stepped]

theorem portOf_snooped (x : Option SnoopPoint) :
    portOf (snoopAt p x v (stepPointer p s)) p = { (portOf s p).stepped with touch := touchAt x (portOf s p).touch } := by
  rw [portOf_snoopAt, portOf_stepped]
  cases x <;> rfl

theorem portOf_heldWrite (target start : Nat) (x : Option SnoopPoint) :
    portOf (holdWrite p target v a start (snoopAt p x v (stepPointer p s))) p =
      { (portOf s p).stepped with
        touch := touchAt x (portOf s p).touch, stretch := some { what := .held target v, addr := a, since := start },
        reply := .none } := by
  rw [portOf_holdWrite, portOf_snooped]

theorem portOf_stretched (w : Waiting) (start : Nat) (u : State) :
    portOf (stretchByte p w a start u) p =
      { portOf u p with stretch := some { what := w, addr := a, since := start }, reply := .none } := by simp [stretchByte]

theorem portOf_joined (x : Option SnoopPoint) :
    portOf (joinPost p a v (closeOwn p (snoopAt p x v (stepPointer p s)))) p =
      { (portOf s p).stepped with
        touch := touchAt x (portOf s p).touch, post := (portOf s p).post ++ [(a, v)], reply := .ack, stretch := none } := by
  rw [joinPost, portOf_setPort_same, portOf_closeOwn, portOf_snooped]
  rfl

end

@[simp] theorem stepped_fields (q : PortState) :
    q.stepped.heldStart = q.heldStart ∧ q.stepped.stretch = q.stretch ∧ q.stepped.post = q.post ∧ q.stepped.txn = q.txn ∧
      q.stepped.touch = q.touch ∧ q.stepped.reported = q.reported ∧ q.stepped.nacked = q.nacked ∧
      q.stepped.snapshot = q.snapshot ∧ q.stepped.viewPage = q.viewPage ∧ q.stepped.sending = q.sending ∧
      q.stepped.editRefused = q.editRefused := by
  simp [PortState.stepped]

@[simp] theorem stepped_pointer (q : PortState) : q.stepped.pointer = if q.pointer = 0xFFFF then 0xFFFF else q.pointer + 1 := rfl

end Sys2Proof.Machine

/-! The event of a write byte (R127, R136, R139, R146, R179, R180). -/

namespace Sys2Proof.Machine

open Sys2Proof.Safety Sys2Proof.Statement

/-! ### The commit code after an event -/

/-- R146: nothing but a PLAN_EDIT write byte that goes on touches the pages when what has waited on a port goes on. -/
theorem releasePort_pages {s : State} {p : Port} (noEdit : ∀ x, (portOf s p).stretch = some x → ∀ o v, x.what ≠ .editWrite o v) :
    (releasePort p s).pages = s.pages := by
  have edit : (releaseEdit p s).pages = s.pages := by
    unfold releaseEdit
    split
    · rfl
    · split
      · rename_i x stretch
        split
        · rename_i o v what
          exact absurd what (noEdit x stretch o v)
        · simp
        · rfl
      · rfl
  have post (u : State) : (releasePost p u).pages = u.pages := by simp
  have start (u : State) : (releaseStart p u).pages = u.pages := by simp
  rw [releasePort, start, post, edit]

theorem settle_pages_of_noEdit {s : State} (noEdit : ∀ p x, (portOf s p).stretch = some x → ∀ o v, x.what ≠ .editWrite o v) :
    (settle s).pages = s.pages := by
  have other : portOf (releasePort .c s) .d = portOf s .d := portOf_releasePort_other (by decide) s
  unfold settle
  simp only [arbitrate_frame, raiseJobs_frame, leaveDrainWait_frame]
  rw [releasePort_pages (by rw [other]; exact noEdit .d), releasePort_pages (noEdit .c)]

theorem portOf_editWriteOn_other {p q : Port} (other : q ≠ p) (o : Nat) (v : Byte) (a start : Nat) (s : State) :
    portOf (editWriteOn p o v a start s) q = portOf s q := by
  have snooped : portOf (snoopAt p (editSnoop o) v s) q = portOf s q := by
    unfold editSnoop
    split
    · simp [snoopAt, snoop, portOf_setPort_other _ _ other]
    · rfl
  unfold editWriteOn holdWrite stretchByte
  rw [portOf_setPort_other _ _ other]
  split
  · rw [portOf_setTransfer, snooped]
  · rw [portOf_closeOwn, snooped]

/-! ### The event by the decode -/

section
variable {dt : Nat} {p : Port} {v : Byte} {s : State} {a : Nat}

theorem event_discard {f : State → State} {k : AccessKind}
    (report : (f (advance dt s)).report = (accessFault p k a (stepPointer p (advance dt s))).report) :
    (k ∉ (portOf s p).reported → (event f dt s).report.lastAccess = some { port := p, kind := k, addr := a }) ∧
      (k ∈ (portOf s p).reported → AccessKept s (event f dt s)) := by
  constructor
  · intro first
    rw [(event_access f dt s).2, report]
    exact accessFault_lastAccess (by rw [portOf_stepped, portOf_advance]; simpa using first) a
  · intro again
    rw [accessFault_repeated (by rw [portOf_stepped, portOf_advance]; simpa using again)] at report
    unfold AccessKept
    rw [(event_access f dt s).1, (event_access f dt s).2, report]
    simp

variable (writing : (portOf s p).txn = .writing) (free : (portOf s p).stretch = none) (start : (portOf s p).heldStart = none)
  (here : (portOf s p).pointer.toNat = a)
include writing free start here

theorem portOf_event_discard {k : AccessKind} {h : Handling}
    (decoded : decode s.settings.inForce.traffic p true a = .discard k h) :
    portOf (event (takeWriteByte p v) dt s) p =
      { (portOf s p).stepped with
        reported := reportedWith k (portOf s p).reported,
        txn := match h with
          | .held => .ignoring
          | .posted => .writing,
        reply := match h with
          | .held => .nack
          | .posted => .ack } ∧
    (takeWriteByte p v (advance dt s)).report = (accessFault p k a (stepPointer p (advance dt s))).report := by
  have writing' : (portOf (advance dt s) p).txn = .writing := by rw [portOf_advance]; exact writing
  have free' : (portOf (advance dt s) p).stretch = none := by rw [portOf_advance]; exact free
  have here' : (portOf (advance dt s) p).pointer.toNat = a := by rw [portOf_advance]; exact here
  cases h with
  | held =>
    have effect := takeWriteByte_discardHeld (v := v) writing' free' here' decoded
    have port := portOf_refusedWrite (p := p) (s := advance dt s) (a := a) k
    rw [← effect, portOf_advance] at port
    refine ⟨?_, by rw [effect]; simp⟩
    rw [portOf_event (by rw [port]) (by rw [port]; simpa using start), port]
    simp [PortState.stepped, free]
  | posted =>
    have effect := takeWriteByte_discardPosted (v := v) writing' free' here' decoded
    have port := portOf_acknowledgedDiscard (p := p) (s := advance dt s) (a := a) k
    rw [← effect, portOf_advance] at port
    refine ⟨?_, by rw [effect]; simp⟩
    rw [portOf_event (by rw [port]; simpa using free) (by rw [port]; simpa using start), port]
    simp [PortState.stepped, writing]

/-- A byte that goes to memory at its own address, by its handling and the room in the post buffer. -/
theorem portOf_event_memory {h : Handling} {x : Option SnoopPoint}
    (decoded : decode s.settings.inForce.traffic p true a = .memory h x) :
    portOf (event (takeWriteByte p v) dt s) p =
      { (portOf s p).stepped with
        touch := touchAt x (portOf s p).touch,
        post := if h = .posted ∧ (portOf s p).post.length < 32 then (portOf s p).post ++ [(a, v)] else (portOf s p).post,
        stretch := if h = .posted ∧ (portOf s p).post.length < 32 then none
          else some { what := if h = .held then .held a v else .post a v, addr := a, since := s.now + dt },
        reply := if h = .posted ∧ (portOf s p).post.length < 32 then .ack else .none } := by
  have writing' : (portOf (advance dt s) p).txn = .writing := by rw [portOf_advance]; exact writing
  have free' : (portOf (advance dt s) p).stretch = none := by rw [portOf_advance]; exact free
  have here' : (portOf (advance dt s) p).pointer.toNat = a := by rw [portOf_advance]; exact here
  cases h with
  | held =>
    have effect := takeWriteByte_memory (v := v) writing' free' here' decoded
    have port := portOf_heldWrite (p := p) (v := v) (s := advance dt s) (a := a) a (advance dt s).now x
    rw [← effect, portOf_advance] at port
    rw [portOf_event_waits (x := ⟨.held a v, a, s.now + dt⟩) (by rw [port]; rfl) (by rw [port]; simpa using start) trivial, port]
    simp [PortState.stepped]
  | posted =>
    have effect := takeWriteByte_posted (v := v) writing' free' here' decoded
    rw [portOf_advance] at effect
    by_cases room : (portOf s p).post.length < 32
    · rw [if_pos room] at effect
      have port := portOf_joined (p := p) (v := v) (s := advance dt s) (a := a) x
      rw [← effect, portOf_advance] at port
      rw [portOf_event (by rw [port]) (by rw [port]; simpa using start), port]
      simp [room]
    · rw [if_neg room] at effect
      have port := portOf_stretched (p := p) (a := a) (.post a v) (advance dt s).now
        (closeOwn p (snoopAt p x v (stepPointer p (advance dt s))))
      rw [← effect, portOf_closeOwn, portOf_snooped, portOf_advance] at port
      rw [portOf_event_waits (x := ⟨.post a v, a, s.now + dt⟩) (by rw [port]; rfl) (by rw [port]; simpa using start)
        (by rw [port]; exact Nat.le_of_not_lt room), port]
      simp [room, PortState.stepped]

omit start in
/-- Snooped or not, a byte that goes to memory changes the command and the telemetry record as its snoop point says. -/
theorem event_memory_records {h : Handling} {x : Option SnoopPoint}
    (decoded : decode s.settings.inForce.traffic p true a = .memory h x) :
    (event (takeWriteByte p v) dt s).cmd = (snoopAt p x v (stepPointer p (advance dt s))).cmd ∧
      (event (takeWriteByte p v) dt s).tel = (snoopAt p x v (stepPointer p (advance dt s))).tel := by
  have writing' : (portOf (advance dt s) p).txn = .writing := by rw [portOf_advance]; exact writing
  have free' : (portOf (advance dt s) p).stretch = none := by rw [portOf_advance]; exact free
  have here' : (portOf (advance dt s) p).pointer.toNat = a := by rw [portOf_advance]; exact here
  rw [event_cmd, event_tel]
  cases h with
  | held => rw [takeWriteByte_memory (v := v) writing' free' here' decoded]; simp
  | posted =>
    rw [takeWriteByte_posted (v := v) writing' free' here' decoded]
    split <;> simp

/-- A PLAN_EDIT byte with no swap in flight. -/
theorem portOf_event_edit {o : Nat} (decoded : decode s.settings.inForce.traffic p true a = .edit o) (noSwap : swapBusy s = false) :
    portOf (event (takeWriteByte p v) dt s) p =
      { (portOf s p).stepped with
        touch := touchAt (editSnoop o) (portOf s p).touch,
        stretch := some { what := .held (stagingBase s + o) v, addr := a, since := s.now + dt }, reply := .none } ∧
    takeWriteByte p v (advance dt s) = editWriteOn p o v a (s.now + dt) (stepPointer p (advance dt s)) := by
  have effect := takeWriteByte_edit (s := advance dt s) (v := v) (by rw [portOf_advance]; exact writing)
    (by rw [portOf_advance]; exact free) (by rw [portOf_advance]; exact here) decoded
  have noSwap' : ¬swapBusy (advance dt s) = true := Bool.eq_false_iff.1 noSwap
  rw [if_neg noSwap'] at effect
  have port := portOf_heldWrite (p := p) (v := v) (s := advance dt s) (a := a) (stagingBase s + o) (s.now + dt) (editSnoop o)
  have base : stagingBase (stepPointer p (advance dt s)) = stagingBase s := by simp [stagingBase, pageBase]
  have held : takeWriteByte p v (advance dt s) =
      holdWrite p (stagingBase s + o) v a (s.now + dt) (snoopAt p (editSnoop o) v (stepPointer p (advance dt s))) := by
    rw [effect, editWriteOn, base]
    rfl
  rw [← held, portOf_advance] at port
  refine ⟨?_, effect⟩
  rw [portOf_event_waits (x := ⟨.held (stagingBase s + o) v, a, s.now + dt⟩) (by rw [port]) (by rw [port]; simpa using start)
    trivial, port]

/-- R146: a PLAN_EDIT byte during a swap waits for the swap's end. -/
theorem portOf_event_editBusy {o : Nat} (decoded : decode s.settings.inForce.traffic p true a = .edit o)
    (busy : swapBusy s = true) :
    portOf (event (takeWriteByte p v) dt s) p =
      { (portOf s p).stepped with
        stretch := some { what := .editWrite o v, addr := a, since := s.now + dt }, reply := .none } := by
  have effect := takeWriteByte_edit (s := advance dt s) (v := v) (by rw [portOf_advance]; exact writing)
    (by rw [portOf_advance]; exact free) (by rw [portOf_advance]; exact here) decoded
  rw [if_pos (show swapBusy (advance dt s) = true from busy)] at effect
  have port := portOf_stretched (p := p) (a := a) (.editWrite o v) (s.now + dt) (closeOwn p (stepPointer p (advance dt s)))
  rw [show stretchByte p (.editWrite o v) a (s.now + dt) (closeOwn p (stepPointer p (advance dt s))) =
    takeWriteByte p v (advance dt s) from effect.symm, portOf_closeOwn, portOf_stepped, portOf_advance] at port
  have still : swapBusy (takeWriteByte p v (advance dt s)) = true := by
    rw [effect]
    simpa [swapBusy] using busy
  rw [portOf_event_waits (x := ⟨.editWrite o v, a, s.now + dt⟩) (by rw [port]) (by rw [port]; simpa using start) still, port]

end

end Sys2Proof.Machine

/-! Write bytes follow their decode: the settling of O40. -/

namespace Sys2Proof.Machine

open Sys2Proof.Safety Sys2Proof.Statement

/-- The commit code after a PLAN_EDIT byte at its place, where no other port's byte waits (R139). -/
theorem event_edit_commit {dt : Nat} {p : Port} {v : Byte} {s : State} {a : Nat} (owed : s.est.owed = false)
    (effect : takeWriteByte p v (advance dt s) = editWriteOn p 0xF0 v a (s.now + dt) (stepPointer p (advance dt s)))
    (alone : ∀ q, (portOf s q).stretch = none) : (event (takeWriteByte p v) dt s).pages.commitCode = v := by
  have noEdit : ∀ q x, (portOf (takeWriteByte p v (advance dt s)) q).stretch = some x → ∀ o w, x.what ≠ .editWrite o w := by
    intro q x stretch o w
    by_cases same : q = p
    · subst same
      rw [effect, editWriteOn, portOf_holdWrite] at stretch
      obtain rfl := Option.some.inj stretch
      simp
    · rw [effect, portOf_editWriteOn_other same, stepPointer, portOf_setPort_other _ _ same, portOf_advance, alone q] at stretch
      cases stretch
  rw [event_quiet (by simpa using owed) (by simp), settle_pages_of_noEdit noEdit, effect]
  simp [editWriteOn, editSnoop, snoopAt, snoop]

/-- Settles O40. -/
theorem writeByteFollowsDecode : Obligations.WriteByteFollowsDecode := by
  intro dt p v s writing free start owed
  generalize here : (portOf s p).pointer.toNat = a
  dsimp only
  generalize decoded : decode s.settings.inForce.traffic p true a = d
  refine ⟨event (takeWriteByte p v) dt s, rfl, ?_⟩
  cases d with
  | discard k h =>
    obtain ⟨port, report⟩ := portOf_event_discard (v := v) (dt := dt) writing free start here decoded
    obtain ⟨first, again⟩ := event_discard report
    refine ⟨by rw [port]; rfl, fun k' same => ?_, fun k' same => ?_, fun k' h' same => ?_, nofun, nofun, nofun, nofun, nofun,
      nofun, nofun, nofun⟩
    · cases same
      rw [port]
      exact ⟨rfl, rfl⟩
    · cases same
      rw [port]
      exact ⟨rfl, rfl⟩
    · cases same
      refine ⟨by rw [port]; rfl, by rw [port]; exact free, fun fresh => ⟨first fresh, ?_⟩, again⟩
      rw [port]
      exact if_neg fresh
  | edit o =>
    by_cases busy : swapBusy s = true
    · have port := portOf_event_editBusy (v := v) (dt := dt) writing free start here decoded busy
      refine ⟨by rw [port]; rfl, nofun, nofun, nofun, nofun, nofun, nofun, fun o' same noSwap => ?_, fun o' same _ => ?_, nofun,
        nofun, nofun⟩
      · rw [busy] at noSwap
        cases noSwap
      · cases same
        rw [port]
    · obtain ⟨port, effect⟩ :=
        portOf_event_edit (v := v) (dt := dt) writing free start here decoded (Bool.eq_false_iff.2 busy)
      refine ⟨by rw [port]; rfl, nofun, nofun, nofun, nofun, nofun, nofun, fun o' same _ => ?_,
        fun o' same swap => absurd swap busy, nofun, nofun, nofun⟩
      cases same
      refine ⟨by rw [port], fun code => ?_⟩
      subst code
      exact ⟨by rw [port]; rfl, event_edit_commit owed effect⟩
  | view o =>
    have effect := takeWriteByte_view (s := advance dt s) (v := v) (by rw [portOf_advance]; exact writing)
      (by rw [portOf_advance]; exact free) (by rw [portOf_advance]; exact here) decoded
    refine ⟨?_, nofun, nofun, nofun, nofun, nofun, nofun, nofun, nofun, nofun, nofun, nofun⟩
    have port : portOf (takeWriteByte p v (advance dt s)) p = (portOf s p).stepped := by
      rw [effect, portOf_stepped, portOf_advance]
    rw [portOf_event (by rw [port]; simpa using free) (by rw [port]; simpa using start), port]
    rfl
  | memory h x =>
    have port := portOf_event_memory (v := v) (dt := dt) writing free start here decoded
    obtain ⟨cmd, tel⟩ := event_memory_records (v := v) (dt := dt) writing free here decoded
    refine ⟨by rw [port]; rfl, nofun, nofun, nofun, fun x' same room => ?_, fun x' same full => ?_, fun x' same => ?_, nofun, nofun,
      fun h' o same => ?_, fun h' o same => ?_, fun h' same => ?_⟩
    · cases same
      rw [port]
      simp [room]
    · cases same
      rw [port]
      simp [Nat.not_lt.2 full]
    · cases same
      rw [port]
      simp
    · cases same
      rw [port, cmd]
      exact ⟨rfl, by simp [snoopAt, snoop], by simp [snoopAt, snoop]⟩
    · cases same
      rw [port, tel]
      exact ⟨rfl, by simp [snoopAt, snoop], by simp [snoopAt, snoop]⟩
    · cases same
      rw [port]
      rfl

end Sys2Proof.Machine

/-! A read byte on its port, by its decode (R127, R133 to R135, R146, R173, R182). -/

namespace Sys2Proof.Machine

open Sys2Proof.Safety Sys2Proof.Statement

/-- R127, log 68: the record of a port that has begun a read byte. -/
def PortState.sends (q : PortState) : PortState := { q.stepped with sending := some q.pointer }

@[simp] theorem sends_fields (q : PortState) :
    q.sends.heldStart = q.heldStart ∧ q.sends.stretch = q.stretch ∧ q.sends.post = q.post ∧ q.sends.txn = q.txn ∧
      q.sends.touch = q.touch ∧ q.sends.reported = q.reported ∧ q.sends.nacked = q.nacked ∧ q.sends.snapshot = q.snapshot ∧
      q.sends.viewPage = q.viewPage ∧ q.sends.editRefused = q.editRefused ∧ q.sends.sending = some q.pointer ∧
      q.sends.pointer = if q.pointer = 0xFFFF then 0xFFFF else q.pointer + 1 := by
  simp [PortState.sends]

theorem portOf_sends (p : Port) (s : State) : portOf (stepPointer p (noteSending p s)) p = (portOf s p).sends := by
  rw [portOf_stepped, portOf_noteSending]
  rfl

theorem portOf_readFault_reports (p : Port) (k : AccessKind) (a : Nat) (s : State) :
    portOf (readFault p k a s) p = { portOf s p with reported := reportedWith k (portOf s p).reported } := by
  unfold readFault
  split
  · rename_i again
    rw [reportedWith, if_pos again]
  · rw [portOf_setReport, portOf_accessFault_reports]

/-! ### The byte by its decode -/

section
variable {p : Port} {s : State} {a : Nat} (reading : (portOf s p).txn = .reading) (free : (portOf s p).stretch = none)
  (more : (portOf s p).nacked = false) (here : (portOf s p).pointer.toNat = a)
include reading free more here

theorem takeReadByte_discard {k : AccessKind} {h : Handling}
    (decoded : decode s.settings.inForce.traffic p false a = .discard k h) :
    takeReadByte p s = refuseRead p (closeOwn p (readFault p k a (stepPointer p (noteSending p s)))) := by
  subst here
  simp only [takeReadByte, reading, free, more, Bool.not_false, and_self, if_true, readByteOn, decoded]

theorem takeReadByte_asks {h : Handling} {x : Option SnoopPoint}
    (decoded : decode s.settings.inForce.traffic p false a = .memory h x) :
    takeReadByte p s = askRead p a a s.now (stepPointer p (noteSending p s)) := by
  subst here
  exact takeReadByte_memory decoded reading free more

theorem takeReadByte_edit {o : Nat} (decoded : decode s.settings.inForce.traffic p false a = .edit o) :
    takeReadByte p s =
      if swapBusy s then
        if (portOf s p).editRefused then refuseRead p (closeOwn p (stepPointer p (noteSending p s)))
        else stretchByte p (.editRead o) a s.now (closeOwn p (stepPointer p (noteSending p s)))
      else askRead p (stagingBase s + o) a s.now (stepPointer p (noteSending p s)) := by
  subst here
  simp only [takeReadByte, reading, free, more, Bool.not_false, and_self, if_true, readByteOn, decoded]

theorem takeReadByte_overlay {o : Nat} (decoded : decode s.settings.inForce.traffic p false a = .view o)
    (overlay : 0xE0 ≤ o ∧ o ≤ 0xEF) :
    takeReadByte p s = overlayByte p o (closeOwn p (noteView p (stepPointer p (noteSending p s)))) := by
  subst here
  simp only [takeReadByte, reading, free, more, Bool.not_false, and_self, if_true, readByteOn, decoded, if_pos overlay]

theorem takeReadByte_view {o : Nat} (decoded : decode s.settings.inForce.traffic p false a = .view o)
    (page : ¬(0xE0 ≤ o ∧ o ≤ 0xEF)) :
    takeReadByte p s = askRead p (pageBase s ((portOf s p).viewPage.getD s.pages.active) + o) a s.now
      (noteView p (stepPointer p (noteSending p s))) := by
  have noted : ((portOf (noteView p (stepPointer p (noteSending p s))) p).viewPage.getD s.pages.active) =
      (portOf s p).viewPage.getD s.pages.active := by
    rw [noteView, portOf_setPort_same, portOf_sends]
    simp
  subst here
  simp only [takeReadByte, reading, free, more, Bool.not_false, and_self, if_true, readByteOn, decoded, if_neg page, noted]

end

/-! ### The event -/

section
variable {dt : Nat} {p : Port} {s : State} {a : Nat} (reading : (portOf s p).txn = .reading)
  (free : (portOf s p).stretch = none) (start : (portOf s p).heldStart = none) (more : (portOf s p).nacked = false)
  (here : (portOf s p).pointer.toNat = a)
include reading free start more here

/-- A discarded byte is sent as 0xFF, and its fault is the last access fault where it is the first of its kind. -/
theorem event_readDiscard {k : AccessKind} {h : Handling}
    (decoded : decode s.settings.inForce.traffic p false a = .discard k h) :
    portOf (event (takeReadByte p) dt s) p =
      { (portOf s p).sends with
        reported := reportedWith k (portOf s p).reported, reply := .byte 0xFF, stretch := none } ∧
    (k ∉ (portOf s p).reported →
      (event (takeReadByte p) dt s).report.lastAccess = some { port := p, kind := k, addr := a }) := by
  have effect := takeReadByte_discard (s := advance dt s) (by rw [portOf_advance]; exact reading)
    (by rw [portOf_advance]; exact free) (by rw [portOf_advance]; exact more) (by rw [portOf_advance]; exact here) decoded
  have port : portOf (takeReadByte p (advance dt s)) p =
      { (portOf s p).sends with reported := reportedWith k (portOf s p).reported, reply := .byte 0xFF, stretch := none } := by
    rw [effect, refuseRead, portOf_setPort_same, portOf_closeOwn, portOf_readFault_reports, portOf_sends, portOf_advance]
    simp
  refine ⟨?_, fun first => ?_⟩
  · rw [portOf_event (by rw [port]) (by rw [port]; simpa using start), port]
  · have fresh : k ∉ (portOf (stepPointer p (noteSending p (advance dt s))) p).reported := by
      rw [portOf_sends, portOf_advance]
      simpa using first
    have fault := readFault_report fresh a
    rw [(event_access (takeReadByte p) dt s).2, effect]
    simp [refuseRead, fault, ReportUnit.begin, ReportUnit.record]

omit reading free more here in
/-- A byte that waits for the memory at a target. -/
theorem portOf_event_asks {target : Nat} {u : State} {q : PortState}
    (effect : takeReadByte p (advance dt s) = askRead p target a (s.now + dt) u) (port : portOf u p = q)
    (kept : q.heldStart = (portOf s p).heldStart) :
    portOf (event (takeReadByte p) dt s) p =
      { q with stretch := some { what := .read target, addr := a, since := s.now + dt }, reply := .none } := by
  subst port
  exact portOf_event_askRead effect (kept.trans start)

/-- R146: a PLAN_EDIT byte during a swap waits for its end, or is sent as 0xFF once one has been refused. -/
theorem portOf_event_readBusy {o : Nat} (decoded : decode s.settings.inForce.traffic p false a = .edit o)
    (busy : swapBusy s = true) :
    portOf (event (takeReadByte p) dt s) p =
      { (portOf s p).sends with
        stretch := if (portOf s p).editRefused then none else some { what := .editRead o, addr := a, since := s.now + dt },
        reply := if (portOf s p).editRefused then .byte 0xFF else .none } := by
  have effect := takeReadByte_edit (s := advance dt s) (by rw [portOf_advance]; exact reading)
    (by rw [portOf_advance]; exact free) (by rw [portOf_advance]; exact more) (by rw [portOf_advance]; exact here) decoded
  rw [if_pos (show swapBusy (advance dt s) = true from busy), portOf_advance] at effect
  by_cases refused : (portOf s p).editRefused = true
  · rw [if_pos refused] at effect
    have port : portOf (takeReadByte p (advance dt s)) p = { (portOf s p).sends with reply := .byte 0xFF, stretch := none } := by
      rw [effect, refuseRead, portOf_setPort_same, portOf_closeOwn, portOf_sends, portOf_advance]
    rw [portOf_event (by rw [port]) (by rw [port]; simpa using start), port]
    simp [refused]
  · rw [if_neg refused] at effect
    have port : portOf (takeReadByte p (advance dt s)) p =
        { (portOf s p).sends with
          stretch := some { what := .editRead o, addr := a, since := s.now + dt }, reply := .none } := by
      rw [effect, portOf_stretched, portOf_closeOwn, portOf_sends, portOf_advance]
      rfl
    have still : swapBusy (takeReadByte p (advance dt s)) = true := by
      rw [effect]
      simpa [swapBusy] using busy
    rw [portOf_event_waits (x := ⟨.editRead o, a, s.now + dt⟩) (by rw [port]) (by rw [port]; simpa using start) still, port]
    simp [refused]

/-- R134, R173: an overlay byte. -/
theorem portOf_event_overlay {o : Nat} (decoded : decode s.settings.inForce.traffic p false a = .view o)
    (overlay : 0xE0 ≤ o ∧ o ≤ 0xEF) :
    portOf (event (takeReadByte p) dt s) p =
      { (portOf s p).sends with
        viewPage := some ((portOf s p).viewPage.getD s.pages.active),
        snapshot := some ((portOf s p).snapshot.getD (liveCommand s.gov)),
        reply := .byte ((liveBytes ((portOf s p).snapshot.getD (liveCommand s.gov))).getD (o - 0xE0) 0) } := by
  have effect := takeReadByte_overlay (s := advance dt s) (by rw [portOf_advance]; exact reading)
    (by rw [portOf_advance]; exact free) (by rw [portOf_advance]; exact more) (by rw [portOf_advance]; exact here) decoded overlay
  have port : portOf (takeReadByte p (advance dt s)) p =
      { (portOf s p).sends with
        viewPage := some ((portOf s p).viewPage.getD s.pages.active),
        snapshot := some ((portOf s p).snapshot.getD (liveCommand s.gov)),
        reply := .byte ((liveBytes ((portOf s p).snapshot.getD (liveCommand s.gov))).getD (o - 0xE0) 0) } := by
    rw [effect, overlayByte, portOf_setPort_same, portOf_closeOwn, noteView, portOf_setPort_same, portOf_sends, portOf_advance]
    simp
  rw [portOf_event (by rw [port]; simpa using free) (by rw [port]; simpa using start), port]

/-- R133: a byte of the active page, as the transaction's first one found it. -/
theorem portOf_event_view {o : Nat} (decoded : decode s.settings.inForce.traffic p false a = .view o)
    (page : ¬(0xE0 ≤ o ∧ o ≤ 0xEF)) :
    portOf (event (takeReadByte p) dt s) p =
      { (portOf s p).sends with
        viewPage := some ((portOf s p).viewPage.getD s.pages.active),
        stretch := some
          { what := .read (pageBase s ((portOf s p).viewPage.getD s.pages.active) + o), addr := a, since := s.now + dt },
        reply := .none } := by
  have effect := takeReadByte_view (s := advance dt s) (by rw [portOf_advance]; exact reading)
    (by rw [portOf_advance]; exact free) (by rw [portOf_advance]; exact more) (by rw [portOf_advance]; exact here) decoded page
  rw [portOf_advance] at effect
  refine portOf_event_asks (q := { (portOf s p).sends with viewPage := some ((portOf s p).viewPage.getD s.pages.active) })
    start effect ?_ (by simp)
  rw [noteView, portOf_setPort_same, portOf_sends, portOf_advance]
  simp

end

/-- Settles O41. -/
theorem readByteFollowsDecode : Obligations.ReadByteFollowsDecode := by
  intro dt p s reading free start more owed
  generalize here : (portOf s p).pointer.toNat = a
  dsimp only
  generalize decoded : decode s.settings.inForce.traffic p false a = d
  refine ⟨event (takeReadByte p) dt s, rfl, ?_⟩
  have reading' : (portOf (advance dt s) p).txn = .reading := by rw [portOf_advance]; exact reading
  have free' : (portOf (advance dt s) p).stretch = none := by rw [portOf_advance]; exact free
  have more' : (portOf (advance dt s) p).nacked = false := by rw [portOf_advance]; exact more
  have here' : (portOf (advance dt s) p).pointer.toNat = a := by rw [portOf_advance]; exact here
  have sends : portOf (stepPointer p (noteSending p (advance dt s))) p = (portOf s p).sends := by
    rw [portOf_sends, portOf_advance]
  cases d with
  | discard k h =>
    obtain ⟨port, first⟩ := event_readDiscard (dt := dt) reading free start more here decoded
    refine ⟨by rw [port]; simpa using reading, by rw [port]; simp, by rw [port]; simp, fun k' h' same => ?_, nofun, nofun, nofun,
      nofun, nofun⟩
    cases same
    exact ⟨by rw [port], by rw [port], first⟩
  | edit o =>
    by_cases busy : swapBusy s = true
    · have port := portOf_event_readBusy (dt := dt) reading free start more here decoded busy
      refine ⟨by rw [port]; simpa using reading, by rw [port]; simp, by rw [port]; simp, nofun, nofun,
        fun o' same noSwap => ?_, fun o' same _ => ⟨fun taken => ?_, fun refused => ?_⟩, nofun, nofun⟩
      · rw [busy] at noSwap
        cases noSwap
      · cases same
        rw [port]
        simp [taken]
      · rw [port]
        simp [refused]
    · have effect := takeReadByte_edit reading' free' more' here' decoded
      rw [if_neg (show ¬swapBusy (advance dt s) = true from busy)] at effect
      have port := portOf_event_asks start effect sends (by simp)
      refine ⟨by rw [port]; simpa using reading, by rw [port]; simp, by rw [port]; simp, nofun, nofun,
        fun o' same _ => ?_, fun o' same swap => absurd swap busy, nofun, nofun⟩
      cases same
      rw [port]
      rfl
  | view o =>
    by_cases overlay : 0xE0 ≤ o ∧ o ≤ 0xEF
    · have port := portOf_event_overlay (dt := dt) reading free start more here decoded overlay
      refine ⟨by rw [port]; simpa using reading, by rw [port]; simp, by rw [port]; simp, nofun, nofun, nofun, nofun,
        fun o' same low high => ?_, fun o' same outside => ?_⟩
      · cases same
        refine ⟨(portOf s p).snapshot.getD (liveCommand s.gov), by rw [port], fun none => by rw [none]; rfl,
          fun m noted => by rw [noted]; rfl, by rw [port], by rw [port]; simpa using free⟩
      · cases same
        omega
    · have port := portOf_event_view (dt := dt) reading free start more here decoded overlay
      refine ⟨by rw [port]; simpa using reading, by rw [port]; simp, by rw [port]; simp, nofun, nofun, nofun, nofun,
        fun o' same low high => ?_, fun o' same outside => ?_⟩
      · cases same
        exact absurd ⟨low, high⟩ overlay
      · cases same
        exact ⟨(portOf s p).viewPage.getD s.pages.active, by rw [port], fun none => by rw [none]; rfl,
          fun g noted => by rw [noted]; rfl, by rw [port]⟩
  | memory h x =>
    have effect := takeReadByte_asks reading' free' more' here' decoded
    have port := portOf_event_asks start effect sends (by simp)
    refine ⟨by rw [port]; simpa using reading, by rw [port]; simp, by rw [port]; simp, nofun, fun h' x' same => ?_, nofun, nofun,
      nofun, nofun⟩
    rw [port]

end Sys2Proof.Machine

/-! The controller's NACK, the stop condition and the partial byte (R140, R177, log 68). -/

namespace Sys2Proof.Machine

open Sys2Proof.Safety Sys2Proof.Statement

/-! ### The end of a transaction -/

theorem busEnd_endTxn {p : Port} {s : State} (start : (portOf s p).heldStart = none) : busEnd p s = endTxn p s := by
  simp [busEnd, start]

/-- What a stop condition, or one in the middle of a byte, does before the transaction ends. -/
def cutByte (p : Port) (begun : Bool) (s : State) : State := if begun then dropPartial p s else s

@[simp] theorem cutByte_fields (p : Port) (begun : Bool) (s : State) :
    (portOf (cutByte p begun s) p).txn = (portOf s p).txn ∧ (portOf (cutByte p begun s) p).touch = (portOf s p).touch ∧
      (portOf (cutByte p begun s) p).post = (portOf s p).post ∧
      (portOf (cutByte p begun s) p).heldStart = (portOf s p).heldStart := by
  cases begun <;> simp [cutByte]

@[simp] theorem cutByte_frame (p : Port) (begun : Bool) (s : State) :
    (cutByte p begun s).hand = s.hand ∧ (cutByte p begun s).cmd = s.cmd ∧ (cutByte p begun s).pages = s.pages := by
  cases begun <;> simp [cutByte]

/-- A byte that is not being sent is not taken back. -/
theorem cutByte_none {p : Port} {begun : Bool} {s : State}
    (h : begun = false ∨ (portOf s p).stretch ≠ none ∨ (portOf s p).sending = none) : cutByte p begun s = s := by
  obtain rfl | unsent := h
  · rfl
  · rw [cutByte, dropPartial_none unsent, ite_self]

@[simp] theorem handOver_hand (touch : Touch) (s : State) :
    (handOver touch s).hand =
      { command := s.hand.command || (touch.command && s.cmd.written[0] && s.cmd.lastSeq != some s.cmd.image[0])
        telemetry := s.hand.telemetry || touch.telemetry
        commit := s.hand.commit || (touch.commit && s.pages.commitCode == 0x01)
        settings := s.hand.settings || touch.settings } := rfl

theorem endTxn_hand {p : Port} {s : State} (busy : (portOf s p).txn ≠ .idle) :
    (endTxn p s).hand = (handOver (portOf s p).touch s).hand := by
  unfold endTxn
  rw [if_neg busy]
  simp

@[simp] theorem endTxn_report (p : Port) (s : State) : (endTxn p s).report = s.report := by
  unfold endTxn
  split
  · rfl
  · simp [handOver]

section
variable {dt : Nat} {p : Port} {begun : Bool} {s : State} (start : (portOf s p).heldStart = none) (busy : (portOf s p).txn ≠ .idle)
  {f : State → State} (effect : f (advance dt s) = busEnd p (cutByte p begun (advance dt s)))
include start busy effect

omit busy in
theorem cut_eq_endTxn : f (advance dt s) = endTxn p (cutByte p begun (advance dt s)) := by
  rw [effect, busEnd_endTxn]
  simpa using start

theorem portOf_event_cut : portOf (event f dt s) p = (portOf (cutByte p begun (advance dt s)) p).ended := by
  have port : portOf (f (advance dt s)) p = (portOf (cutByte p begun (advance dt s)) p).ended := by
    rw [cut_eq_endTxn start effect, portOf_endTxn _ _ (by simpa using busy)]
    rfl
  rw [portOf_event (by rw [port]; rfl) (by rw [port]; simpa [PortState.ended] using start), port]

theorem event_cut_hand : (event f dt s).hand = (handOver (portOf s p).touch s).hand := by
  rw [event_hand_eq, cut_eq_endTxn start effect, endTxn_hand (by simpa using busy)]
  simp

omit busy in
theorem event_cut_access :
    (event f dt s).report.accessCount = (cutByte p begun (advance dt s)).report.accessCount ∧
      (event f dt s).report.lastAccess = (cutByte p begun (advance dt s)).report.lastAccess := by
  rw [(event_access f dt s).1, (event_access f dt s).2, cut_eq_endTxn start effect, endTxn_report]
  exact ⟨rfl, rfl⟩

end

/-- The transaction ends at a stop condition and at a start or stop in the middle of a byte. -/
theorem ends_transaction {dt : Nat} {p : Port} {begun : Bool} {s : State} {c : Instr}
    (which : c = .stopCondition dt p ∧ begun = false ∨ c = .midByteCondition dt ⟨p, begun⟩) :
    ∃ f, exec c s = .next (event f dt s) ∧ f (advance dt s) = busEnd p (cutByte p begun (advance dt s)) := by
  obtain ⟨rfl, rfl⟩ | rfl := which
  · exact ⟨busEnd p, rfl, rfl⟩
  · exact ⟨midByte ⟨p, begun⟩, rfl, rfl⟩

/-! ### A read byte that proves partial -/

/-- Log 68: the report unit once a port's earlier faults stand. -/
def ReportUnit.stood (p : Port) (r : ReportUnit) : ReportUnit := { r with begun := faultStands p r.begun }

@[simp] theorem noteSending_stood (p : Port) (s : State) : (noteSending p s).report = s.report.stood p := by
  simp [noteSending, ReportUnit.stood]

/-- R137, log 68: at a read byte the port's earlier faults stand, and it may begin one of its own. -/
theorem takeReadByte_report {p : Port} {s : State} (reading : (portOf s p).txn = .reading) (free : (portOf s p).stretch = none)
    (more : (portOf s p).nacked = false) :
    (takeReadByte p s).report = s.report.stood p ∨
      ∃ k a b, (takeReadByte p s).report = (s.report.stood p).begin { port := p, kind := k, addr := a } b := by
  generalize here : (portOf s p).pointer.toNat = a
  cases decoded : decode s.settings.inForce.traffic p false a with
  | discard k h =>
    rw [takeReadByte_discard reading free more here decoded]
    by_cases again : k ∈ (portOf (stepPointer p (noteSending p s)) p).reported
    · refine .inl ?_
      rw [readFault, if_pos again]
      simp [refuseRead]
    · refine .inr ⟨k, a, countSelects (stepPointer p (noteSending p s)) k, ?_⟩
      simp [refuseRead, readFault_report again]
  | edit o =>
    rw [takeReadByte_edit reading free more here decoded]
    left
    split
    · split
      · simp [refuseRead]
      · simp [stretchByte]
    · simp
  | view o =>
    left
    by_cases overlay : 0xE0 ≤ o ∧ o ≤ 0xEF
    · rw [takeReadByte_overlay reading free more here decoded overlay]
      simp [overlayByte, noteView]
    · rw [takeReadByte_view reading free more here decoded overlay]
      simp [noteView]
  | memory h x =>
    rw [takeReadByte_asks reading free more here decoded]
    exact .inl (by simp)

/-- Taken back, the fault of the read byte leaves the faults as the byte found them. -/
theorem takeBack_takeReadByte {p : Port} {s : State} (reading : (portOf s p).txn = .reading) (free : (portOf s p).stretch = none)
    (more : (portOf s p).nacked = false) :
    ((takeReadByte p s).report.takeBack p).accessCount = s.report.accessCount ∧
      ((takeReadByte p s).report.takeBack p).lastAccess = s.report.lastAccess := by
  obtain stood | ⟨k, a, b, begins⟩ := takeReadByte_report reading free more
  · rw [stood, takeBack_none fun e he => faultStands_port he]
    exact ⟨rfl, rfl⟩
  · rw [begins]
    exact takeBack_begin_access (s.report.stood p) { port := p, kind := k, addr := a } b

/-- A read byte holds no start back. -/
theorem event_read_heldStart {dt : Nat} {p : Port} {s : State} (reading : (portOf s p).txn = .reading)
    (free : (portOf s p).stretch = none) (start : (portOf s p).heldStart = none) (more : (portOf s p).nacked = false) :
    (portOf (event (takeReadByte p) dt s) p).heldStart = none := by
  generalize here : (portOf s p).pointer.toNat = a
  have reading' : (portOf (advance dt s) p).txn = .reading := by rw [portOf_advance]; exact reading
  have free' : (portOf (advance dt s) p).stretch = none := by rw [portOf_advance]; exact free
  have more' : (portOf (advance dt s) p).nacked = false := by rw [portOf_advance]; exact more
  have here' : (portOf (advance dt s) p).pointer.toNat = a := by rw [portOf_advance]; exact here
  have sends : portOf (stepPointer p (noteSending p (advance dt s))) p = (portOf s p).sends := by
    rw [portOf_sends, portOf_advance]
  cases decoded : decode s.settings.inForce.traffic p false a with
  | discard k h =>
    rw [(event_readDiscard reading free start more here decoded).1]
    simpa using start
  | edit o =>
    by_cases busy : swapBusy s = true
    · rw [portOf_event_readBusy reading free start more here decoded busy]
      simpa using start
    · have effect := takeReadByte_edit reading' free' more' here' decoded
      rw [if_neg (show ¬swapBusy (advance dt s) = true from busy)] at effect
      rw [portOf_event_asks start effect sends (by simp)]
      simpa using start
  | view o =>
    by_cases overlay : 0xE0 ≤ o ∧ o ≤ 0xEF
    · rw [portOf_event_overlay reading free start more here decoded overlay]
      simpa using start
    · rw [portOf_event_view reading free start more here decoded overlay]
      simpa using start
  | memory h x =>
    rw [portOf_event_asks start (takeReadByte_asks reading' free' more' here' decoded) sends (by simp)]
    simpa using start

/-- What follows an event that owes no update keeps what a fault is taken back from. -/
theorem event_takeBack {f : State → State} {dt : Nat} {s : State} (owed : (f (advance dt s)).est.owed = false) (p : Port) :
    ((event f dt s).report.takeBack p).accessCount = ((f (advance dt s)).report.takeBack p).accessCount ∧
      ((event f dt s).report.takeBack p).lastAccess = ((f (advance dt s)).report.takeBack p).lastAccess := by
  rw [event_of_not_owed owed]
  refine takeBack_congr ?_ ?_ ?_ ?_ p <;> simp

/-- Settles O42. -/
theorem nackAndStopEndBytes : Obligations.NackAndStopEndBytes := by
  intro dt p s start
  refine ⟨fun reading free => ?_, fun c begun which busy => ?_, fun dt' t u reading free more owed run unstretched cut => ?_⟩
  · have port : portOf (nackRead p (advance dt s)) p = { portOf s p with nacked := true, sending := none, reply := .none } := by
      simp [nackRead, reading, free]
    refine ⟨event (nackRead p) dt s, rfl, ?_⟩
    rw [portOf_event (by rw [port]; exact free) (by rw [port]; exact start), port]
    exact ⟨rfl, rfl, reading⟩
  · obtain ⟨b, which', sameByte⟩ : ∃ b, (c = .stopCondition dt p ∧ b = false ∨ c = .midByteCondition dt ⟨p, b⟩) ∧
        (∀ g, c = .midByteCondition dt ⟨p, g⟩ → b = g) := by
      obtain rfl | rfl := which
      · exact ⟨false, .inl ⟨rfl, rfl⟩, nofun⟩
      · refine ⟨begun, .inr rfl, fun g same => ?_⟩
        cases same
        rfl
    obtain ⟨f, run, effect⟩ := ends_transaction which'
    have port := portOf_event_cut start busy effect
    have hand := event_cut_hand start busy effect
    refine ⟨event f dt s, run, by rw [port]; rfl, by rw [port]; rfl, by rw [port]; rfl, ?_, fun whole => ?_,
      fun partial' free a sending => ?_, ?_, ?_, ?_, ?_⟩
    · rw [port]
      simp [PortState.ended]
    · have same : cutByte p b (advance dt s) = advance dt s := by
        refine cutByte_none ?_
        rw [portOf_advance]
        obtain rfl | rfl | unsent := whole
        · obtain ⟨-, rfl⟩ | none := which'
          · exact .inl rfl
          · cases none
        · obtain ⟨-, rfl⟩ | rfl := which'
          · exact .inl rfl
          · obtain none | same := which
            · cases none
            · cases same
              exact .inl rfl
        · exact .inr unsent
      have access := event_cut_access start effect
      rw [same] at access port
      rw [port, portOf_advance]
      exact ⟨rfl, access⟩
    · obtain rfl := sameByte true partial'
      have dropped := dropPartial_sending (s := advance dt s) (p := p) (by rw [portOf_advance]; exact free)
        (by rw [portOf_advance]; exact sending)
      rw [port, cutByte, if_pos rfl, dropped]
      simp [PortState.ended]
    all_goals rw [hand, handOver_hand]
  · obtain rfl : event (takeReadByte p) dt s = u := Host.Outcome.next.inj run
    obtain rfl : event (midByte ⟨p, true⟩) dt' (event (takeReadByte p) dt s) = t := Host.Outcome.next.inj cut
    obtain ⟨u', run', reading', pointer, sending, -⟩ := readByteFollowsDecode dt p s reading free start more owed
    obtain rfl : event (takeReadByte p) dt s = u' := Host.Outcome.next.inj run'
    have start' := event_read_heldStart (dt := dt) reading free start more
    have busy' : (portOf (event (takeReadByte p) dt s) p).txn ≠ .idle := by rw [reading']; decide
    have effect : midByte ⟨p, true⟩ (advance dt' (event (takeReadByte p) dt s)) =
        busEnd p (cutByte p true (advance dt' (event (takeReadByte p) dt s))) := rfl
    have dropped := dropPartial_sending (s := advance dt' (event (takeReadByte p) dt s)) (p := p)
      (by rw [portOf_advance]; exact unstretched) (by rw [portOf_advance]; exact sending)
    have port := portOf_event_cut start' busy' effect
    rw [cutByte, if_pos rfl, dropped] at port
    refine ⟨by rw [port]; rfl, by rw [port]; simp [PortState.ended], ?_⟩
    obtain ⟨count, last⟩ := event_cut_access start' effect
    rw [cutByte, if_pos rfl, dropped] at count last
    obtain ⟨count', last'⟩ := event_takeBack (f := takeReadByte p) (dt := dt) (s := s) (by simpa using owed) p
    obtain ⟨count'', last''⟩ := takeBack_takeReadByte (s := advance dt s) (p := p) (by rw [portOf_advance]; exact reading)
      (by rw [portOf_advance]; exact free) (by rw [portOf_advance]; exact more)
    exact ⟨count.trans ((by simp : _ = _).trans (count'.trans count'')), last.trans ((by simp : _ = _).trans (last'.trans last''))⟩

end Sys2Proof.Machine

/-! The stretch limit (R146, R178). -/

namespace Sys2Proof.Machine

open Sys2Proof.Safety Sys2Proof.Statement

/-- The access fault of a byte that has reached the stretch limit. -/
def Waiting.lateKind : Waiting → AccessKind
  | .editWrite _ _ | .editRead _ => .editBusy
  | .post _ _ | .held _ _ | .read _ => .memoryTimeout

/-- R178: the record of a port whose stretched byte is refused. -/
def PortState.refused (q : PortState) (w : Waiting) : PortState :=
  match w with
  | .editWrite _ _ | .post _ _ | .held _ _ => { q with stretch := none, txn := .ignoring, reply := .nack }
  | .editRead _ => { q with stretch := none, reply := .byte 0xFF, editRefused := true }
  | .read _ => { q with stretch := none, reply := .byte 0xFF }

theorem stretchExpires_due {p : Port} {x : Stretch} {s : State} (stretch : (portOf s p).stretch = some x)
    (late : 20000 ≤ s.now - x.since) (off : onBus s p = false) :
    portOf (stretchExpires p s) p =
      { (portOf s p).refused x.what with reported := reportedWith x.what.lateKind (portOf s p).reported } ∧
    (stretchExpires p s).report = (accessFault p x.what.lateKind x.addr (dropStretch p s)).report := by
  have due : Config.stretchLimit ≤ since s x.since ∧ (!onBus s p) = true := ⟨late, by rw [off]; rfl⟩
  unfold stretchExpires
  rw [stretch]
  dsimp only
  rw [if_pos due]
  split
  all_goals
    rename_i what
    rw [what]
    simp [refuseWrite, refuseRead, portOf_accessFault_reports, Waiting.lateKind, PortState.refused]

/-- Settles O43. -/
theorem stretchLimitRefusesByte : Obligations.StretchLimitRefusesByte := by
  intro dt p x s stretch start late off
  obtain ⟨port, report⟩ := stretchExpires_due (s := advance dt s) (p := p) (x := x) (by rw [portOf_advance]; exact stretch) late off
  have refused : (portOf (stretchExpires p (advance dt s)) p).stretch = none := by
    rw [port]
    cases x.what <;> rfl
  have start' : (portOf (stretchExpires p (advance dt s)) p).heldStart = none := by
    rw [port, portOf_advance]
    cases x.what <;> exact start
  refine ⟨event (stretchExpires p) dt s, x.what.lateKind, rfl, ?_, ?_, fun first => ?_, ?_⟩
  · rw [portOf_event refused start', refused]
  · cases x.what <;> rfl
  · rw [(event_access _ dt s).2, report]
    exact accessFault_lastAccess (by rw [portOf_dropStretch, portOf_advance]; exact first) x.addr
  · rw [portOf_event refused start', port, portOf_advance]
    cases x.what <;> exact ⟨rfl, rfl⟩

end Sys2Proof.Machine

/-! How a transfer on the M-port goes on, ends and is repeated, and whom the arbiter grants (R179, R182, R184, R185). -/

namespace Sys2Proof.Machine

open Sys2Proof.Safety Sys2Proof.Statement

/-! ### The transfer on the M-port through what follows an event -/

/-- The transfer `z` is `y`, perhaps with a further byte of its port or with a stop to come. -/
def Transfer.GoesOnAs (y z : Transfer) : Prop :=
  z.who = y.who ∧ z.kind = y.kind ∧ z.count = y.count ∧ z.retries = y.retries ∧ z.since = y.since ∧
    (y.busy = true ∨ y.closing = true → z.busy = y.busy ∧ z.addr = y.addr) ∧ (y.closing = true → z.closing = true)

theorem Transfer.GoesOnAs.refl (y : Transfer) : y.GoesOnAs y := ⟨rfl, rfl, rfl, rfl, rfl, fun _ => ⟨rfl, rfl⟩, id⟩

theorem Transfer.GoesOnAs.trans {x y z : Transfer} (h : x.GoesOnAs y) (k : y.GoesOnAs z) : x.GoesOnAs z := by
  obtain ⟨who, kind, count, retries, since, same, closing⟩ := h
  obtain ⟨who', kind', count', retries', since', same', closing'⟩ := k
  refine ⟨who'.trans who, kind'.trans kind, count'.trans count, retries'.trans retries, since'.trans since, fun held => ?_,
    closing' ∘ closing⟩
  obtain ⟨busy, addr⟩ := same held
  obtain ⟨busy', addr'⟩ := same' (held.imp (fun b => busy.trans b) closing)
  exact ⟨busy'.trans busy, addr'.trans addr⟩

/-- A transfer on the M-port goes on, and a free M-port stays free. -/
def LinkGoesOn (s t : State) : Prop :=
  (s.link.transfer = none → t.link.transfer = none) ∧
    ∀ y, s.link.transfer = some y → ∃ z, t.link.transfer = some z ∧ y.GoesOnAs z

theorem LinkGoesOn.of_eq {s t : State} (h : t.link.transfer = s.link.transfer) : LinkGoesOn s t :=
  ⟨fun free => h.trans free, fun y bus => ⟨y, h.trans bus, .refl y⟩⟩

theorem LinkGoesOn.trans {s t u : State} (h : LinkGoesOn s t) (k : LinkGoesOn t u) : LinkGoesOn s u := by
  refine ⟨k.1 ∘ h.1, fun y bus => ?_⟩
  obtain ⟨z, bus', goes⟩ := h.2 y bus
  obtain ⟨w, bus'', goes'⟩ := k.2 z bus'
  exact ⟨w, bus'', goes.trans goes'⟩

section
variable {s : State} {p : Port}

/-- R179, R182: a port's own transfer. -/
theorem ownTransfer_of_bus {x : Transfer} (bus : s.link.transfer = some x) (who : x.who = requesterOf p)
    (kind : x.kind = .burst ∨ x.kind = .read) : ownTransfer s p = some x := by
  unfold ownTransfer
  rw [bus]
  obtain burst | read := kind
  · simp [burst, who]
  · simp [read, who]

theorem bus_of_ownTransfer {x : Transfer} (own : ownTransfer s p = some x) : s.link.transfer = some x := by
  unfold ownTransfer at own
  split at own
  · rename_i y bus
    split at own
    · split at own
      · exact bus.trans own
      · cases own
    · split at own
      · exact bus.trans own
      · cases own
    · cases own
  · cases own

theorem closeOwn_own {x : Transfer} (own : ownTransfer s p = some x) :
    (closeOwn p s).link.transfer = some { x with closing := true } := by
  simp [closeOwn, own, setTransfer]

theorem closeOwn_goesOn (p : Port) (s : State) : LinkGoesOn s (closeOwn p s) := by
  cases own : ownTransfer s p with
  | none => exact .of_eq (by simp [closeOwn, own])
  | some x =>
    have bus := bus_of_ownTransfer own
    refine ⟨fun free => ?_, fun y bus' => ?_⟩
    · rw [bus] at free
      cases free
    · obtain rfl : x = y := Option.some.inj (bus.symm.trans bus')
      exact ⟨_, closeOwn_own own, rfl, rfl, rfl, rfl, rfl, fun _ => ⟨rfl, rfl⟩, fun _ => rfl⟩

/-- R179, R182: an open transfer that a further byte continues is neither busy nor to close. -/
theorem continues_open {write : Bool} {target : Nat} (h : continues s p write target = true) :
    ∃ x, s.link.transfer = some x ∧ x.busy = false ∧ x.closing = false := by
  unfold continues at h
  split at h
  · rename_i x own
    simp only [Bool.and_eq_true, Bool.not_eq_true', decide_eq_true_eq] at h
    obtain ⟨⟨⟨⟨⟨-, busy⟩, closing⟩, -⟩, -⟩, -⟩ := h
    exact ⟨x, bus_of_ownTransfer own, busy, closing⟩
  · cases h

/-- A further byte of an open transfer. -/
theorem map_goesOn {f : Transfer → Transfer} (keeps : ∀ x, (f x).who = x.who ∧ (f x).kind = x.kind ∧ (f x).count = x.count ∧
    (f x).retries = x.retries ∧ (f x).since = x.since) {x : Transfer} (bus : s.link.transfer = some x)
    (busy : x.busy = false) (closing : x.closing = false) :
    LinkGoesOn s (setTransfer s (s.link.transfer.map f)) := by
  refine ⟨fun free => absurd (bus.symm.trans free) nofun, fun y bus' => ?_⟩
  obtain rfl : x = y := Option.some.inj (bus.symm.trans bus')
  obtain ⟨who, kind, count, retries, since⟩ := keeps x
  refine ⟨f x, by simp [setTransfer, bus], who, kind, count, retries, since, fun held => ?_, fun closes => ?_⟩
  · rw [busy, closing] at held
    simp at held
  · rw [closing] at closes
    cases closes

theorem holdWrite_goesOn (p : Port) (target : Nat) (v : Byte) (a start : Nat) (s : State) :
    LinkGoesOn s (holdWrite p target v a start s) := by
  unfold holdWrite stretchByte
  split
  · rename_i continued
    obtain ⟨x, bus, busy, closing⟩ := continues_open continued
    exact (map_goesOn (f := fun x => { x with addr := target, data := v, busy := true })
      (fun _ => ⟨rfl, rfl, rfl, rfl, rfl⟩) bus busy closing).trans (.of_eq (by simp))
  · exact (closeOwn_goesOn p s).trans (.of_eq (by simp))

theorem askRead_goesOn (p : Port) (target a start : Nat) (s : State) : LinkGoesOn s (askRead p target a start s) := by
  unfold askRead stretchByte
  split
  · rename_i continued
    obtain ⟨x, bus, busy, closing⟩ := continues_open continued
    exact (map_goesOn (f := fun x => { x with addr := target, busy := true })
      (fun _ => ⟨rfl, rfl, rfl, rfl, rfl⟩) bus busy closing).trans (.of_eq (by simp))
  · exact (closeOwn_goesOn p s).trans (.of_eq (by simp))

theorem releasePort_goesOn (p : Port) (s : State) : LinkGoesOn s (releasePort p s) := by
  have edit : LinkGoesOn s (releaseEdit p s) := by
    unfold releaseEdit
    split
    · exact .of_eq rfl
    · split
      · split
        · exact .trans (.of_eq (by simp)) (holdWrite_goesOn _ _ _ _ _ _)
        · exact askRead_goesOn _ _ _ _ _
        · exact .of_eq rfl
      · exact .of_eq rfl
  refine edit.trans (.of_eq ?_)
  rw [releasePort]
  simp

/-- What follows an event, until the arbiter. -/
theorem released_goesOn (s : State) :
    LinkGoesOn s (raiseJobs (leaveDrainWait (releasePort .d (releasePort .c s)))) :=
  ((releasePort_goesOn .c s).trans (releasePort_goesOn .d _)).trans (.of_eq (by simp))

/-- A transfer on the M-port after the own effect of an event goes on through the rest of it. -/
theorem event_goesOn {f : State → State} {dt : Nat} {s : State} {y : Transfer}
    (bus : (f (advance dt s)).link.transfer = some y) : ∃ z, (event f dt s).link.transfer = some z ∧ y.GoesOnAs z := by
  have stamped : (stamp (advance dt s) (deliver (f (advance dt s)))).link.transfer = some y := by simpa using bus
  obtain ⟨z, bus', goes⟩ := (released_goesOn _).2 y stamped
  rw [event_arbitrates, arbitrate_busy (by rw [bus']; simp)]
  exact ⟨z, bus', goes⟩

end

/-! ### Grants -/

/-- R185: a granted transfer is a new one. -/
def Transfer.Fresh (x : Transfer) (now : Nat) : Prop :=
  x.count = 0 ∧ x.closing = false ∧ x.busy = true ∧ x.retries = 0 ∧ x.since = now

theorem portRequest_fresh {s : State} {p : Port} {x : Transfer} (h : portRequest s p = some x) : x.Fresh s.now := by
  unfold portRequest at h
  (repeat' split at h) <;> simp_all <;> (subst h; exact ⟨rfl, rfl, rfl, rfl, rfl⟩)

theorem grantedTransfer_fresh {s : State} {r : Requester} {x : Transfer} (h : (grantedTransfer s r).2 = some x) :
    x.Fresh s.now := by
  cases r with
  | dport => exact portRequest_fresh (p := .d) h
  | cport => exact portRequest_fresh (p := .c) h
  | internal =>
    simp only [grantedTransfer, takeEntry] at h
    (repeat' split at h) <;> simp_all <;> (subst h; exact ⟨rfl, rfl, rfl, rfl, rfl⟩)

theorem arbitrate_fresh {s : State} {x : Transfer} (free : s.link.transfer = none) (h : (arbitrate s).link.transfer = some x) :
    x.Fresh s.now := by
  cases choice : chosen s with
  | none =>
    have idle : arbitrate s = s := by unfold arbitrate; rw [free, choice]
    rw [idle, free] at h
    cases h
  | some r =>
    rw [arbitrate_grants free choice, grant_transfer] at h
    exact grantedTransfer_fresh h

/-- The place of a requester in the fixed order. -/
def Requester.rank : Requester → Nat
  | .dport => 0
  | .internal => 1
  | .cport => 2

theorem Requester.rank_injective {r q : Requester} (h : r.rank = q.rank) : r = q := by
  cases r <;> cases q <;> simp_all [Requester.rank]

theorem waitingRequesters_ordered (s : State) : (waitingRequesters s).Pairwise fun r q => r.rank < q.rank := by
  unfold waitingRequesters
  (repeat' split) <;> simp [Requester.rank]

/-- The first of an ordered list that meets a test is the one of the least rank that does. -/
theorem find?_of_least {l : List Requester} (ordered : l.Pairwise fun r q => r.rank < q.rank) {r : Requester}
    {test : Requester → Bool} (mem : r ∈ l) (meets : test r = true)
    (least : ∀ q ∈ l, test q = true → r.rank ≤ q.rank) : l.find? test = some r := by
  induction l with
  | nil => cases mem
  | cons x l ih =>
    rw [List.pairwise_cons] at ordered
    obtain ⟨first, ordered⟩ := ordered
    obtain rfl | later := List.mem_cons.1 mem
    · exact List.find?_cons_of_pos meets
    · have unmet : ¬test x = true := fun met =>
        absurd (least x List.mem_cons_self met) (Nat.not_le.2 (first r later))
      rw [List.find?_cons_of_neg unmet]
      exact ih ordered later fun q hq => least q (List.mem_cons_of_mem x hq)

theorem head?_of_least {l : List Requester} (ordered : l.Pairwise fun r q => r.rank < q.rank) {r : Requester} (mem : r ∈ l)
    (least : ∀ q ∈ l, r.rank ≤ q.rank) : l.head? = some r := by
  cases l with
  | nil => cases mem
  | cons x l =>
    obtain rfl | later := List.mem_cons.1 mem
    · rfl
    · exact absurd (least x List.mem_cons_self) (Nat.not_le.2 ((List.pairwise_cons.1 ordered).1 r later))

/-- R185: the aged requester of the least rank, or of all when none is aged, is chosen. -/
theorem chosen_eq {s : State} {r : Requester} (waits : r ∈ waitingRequesters s)
    (first : (4 ≤ ageOf s.link r ∧ ∀ q ∈ waitingRequesters s, 4 ≤ ageOf s.link q → r.rank ≤ q.rank) ∨
      ∀ q ∈ waitingRequesters s, ageOf s.link q < 4 ∧ r.rank ≤ q.rank) : chosen s = some r := by
  have ordered := waitingRequesters_ordered s
  unfold chosen
  obtain ⟨aged, least⟩ | young := first
  · rw [find?_of_least ordered waits (decide_eq_true aged) fun q hq old => least q hq (of_decide_eq_true old)]
  · have noneAged : (waitingRequesters s).find? (fun q => decide (4 ≤ ageOf s.link q)) = none :=
      List.find?_eq_none.2 fun q hq => by simpa using (young q hq).1
    rw [noneAged]
    exact head?_of_least ordered waits fun q hq => (young q hq).2

@[simp] theorem takeEntry_link (s : State) : (takeEntry s).1.link = s.link := by
  unfold takeEntry
  split <;> simp

/-- R186: the internal work's grant takes the oldest job of its list. -/
theorem grantedTransfer_internal {s : State} {j : Job} {rest : List Job} (jobs : s.link.internal = j :: rest) :
    (grantedTransfer s .internal).1.link.internal = rest ∧
      (j ≠ .logNext → ∃ x, (grantedTransfer s .internal).2 = some x ∧ x.kind = .job j false) := by
  unfold grantedTransfer
  rw [jobs]
  cases j with
  | logNext => exact ⟨by simp, fun other => absurd rfl other⟩
  | _ => exact ⟨rfl, fun _ => ⟨_, rfl, rfl⟩⟩

end Sys2Proof.Machine

/-! Transfers end, are repeated and are granted: the settling of O44. -/

namespace Sys2Proof.Machine

open Sys2Proof.Safety Sys2Proof.Statement

/-! ### The end of an open transfer, and its repetition -/

section
variable {dt : Nat} {x : Transfer} {p : Port} {s : State} (bus : s.link.transfer = some x)
include bus

/-- R179, R182: a transfer of a port that has been idle for 200 µs is to close. -/
theorem event_idleClose {k : TransferKind} (who : x.who = requesterOf p) (idle : x.busy = false) (late : 200 ≤ s.now + dt - x.since)
    (kind : x.kind = k) (open' : k = .burst ∨ k = .read) :
    ∃ y, (event (idleClose p k) dt s).link.transfer = some y ∧ y.closing = true ∧ y.kind = k ∧ y.who = x.who ∧
      y.addr = x.addr := by
  have own : ownTransfer (advance dt s) p = some x := ownTransfer_of_bus bus who (by rw [kind]; exact open')
  have due : x.kind = k ∧ (!x.busy) = true ∧ Config.idleClose ≤ since (advance dt s) x.since :=
    ⟨kind, by rw [idle]; rfl, late⟩
  have effect : (idleClose p k (advance dt s)).link.transfer = some { x with closing := true } := by
    unfold idleClose
    rw [own]
    dsimp only
    rw [if_pos due]
    exact closeOwn_own own
  obtain ⟨y, bus', who', kind', -, -, -, same, closes⟩ := event_goesOn effect
  exact ⟨y, bus', closes rfl, kind'.trans kind, who', (same (.inr rfl)).2⟩

/-- R185: once a transfer that is to close has ended, what stands on the M-port is new. -/
theorem event_endTransfer (who : x.who = requesterOf p) (closing : x.closing = true) (idle : x.busy = false) {y : Transfer}
    (bus' : (event endTransfer dt s).link.transfer = some y) : y.Fresh (s.now + dt) := by
  have port : (portOfRequester x.who).isSome = true := by
    rw [who]
    cases p <;> rfl
  have effect : (endTransfer (advance dt s)).link.transfer = none := by
    have due : x.closing = true ∧ (!x.busy) = true ∧ (portOfRequester x.who).isSome = true := ⟨closing, by rw [idle]; rfl, port⟩
    unfold endTransfer
    rw [show (advance dt s).link.transfer = some x from bus]
    dsimp only
    rw [if_pos due]
    rfl
  have stamped : (stamp (advance dt s) (deliver (endTransfer (advance dt s)))).link.transfer = none := by simpa using effect
  rw [event_arbitrates] at bus'
  have fresh := arbitrate_fresh ((released_goesOn _).1 stamped) bus'
  simpa using fresh

/-- R184: the repetition of a transfer. -/
theorem event_retry (busy : x.busy = true) (first : x.count = 0) (few : x.retries < 3) (late : 100 ≤ s.now + dt - x.since) :
    ∃ y, (event retryAddress dt s).link.transfer = some y ∧ y.retries = x.retries + 1 ∧ y.since = s.now + dt ∧
      y.addr = x.addr ∧ y.kind = x.kind ∧ y.who = x.who ∧ y.busy = true := by
  have effect : (retryAddress (advance dt s)).link.transfer = some { x with retries := x.retries + 1, since := s.now + dt } := by
    have due : x.busy = true ∧ x.count = 0 ∧ x.retries < Config.retryMax ∧ Config.retryPause ≤ since (advance dt s) x.since :=
      ⟨busy, first, few, late⟩
    unfold retryAddress
    rw [show (advance dt s).link.transfer = some x from bus]
    dsimp only
    rw [if_pos due]
    rfl
  obtain ⟨y, bus', who, kind, -, retries, begun, same, -⟩ := event_goesOn effect
  obtain ⟨busy', addr⟩ := same (.inl busy)
  exact ⟨y, bus', retries, begun, addr, kind, who, busy'.trans busy⟩

/-- R184: three repetitions at most. -/
theorem event_retry_over (many : 3 ≤ x.retries) :
    ∃ y, (event retryAddress dt s).link.transfer = some y ∧ y.retries = x.retries ∧ y.since = x.since := by
  have effect : (retryAddress (advance dt s)).link.transfer = some x := by
    have ended : ¬(x.busy = true ∧ x.count = 0 ∧ x.retries < Config.retryMax ∧ Config.retryPause ≤ since (advance dt s) x.since) :=
      fun due => absurd due.2.2.1 (Nat.not_lt.2 many)
    unfold retryAddress
    rw [show (advance dt s).link.transfer = some x from bus]
    dsimp only
    rw [if_neg ended]
    exact bus
  obtain ⟨y, bus', -, -, -, retries, begun, -, -⟩ := event_goesOn effect
  exact ⟨y, bus', retries, begun⟩

end

/-! ### The arbiter -/

/-- R185: every event ends with the arbiter. -/
theorem exec_arbitrates (c : Instr) (s : State) : ∃ u, exec c s = .next (arbitrate u) := by
  rw [exec_eq, outcome]
  split
  · exact ⟨_, rfl⟩
  · exact ⟨_, rfl⟩

/-- R185: what a grant does. -/
theorem grant_does {s : State} (r : Requester) :
    ageOf (grant r s).link r = 0 ∧
      (∀ q, q ≠ r → q ∈ waitingRequesters s → ageOf (grant r s).link q = ageOf s.link q + 1) ∧
      (r ∈ waitingRequesters s → ∀ q, q ∉ waitingRequesters s → ageOf (grant r s).link q = ageOf s.link q) ∧
      (∀ x, (grant r s).link.transfer = some x → x.who = r) ∧
      (∀ p, r = requesterOf p → (grant r s).link.transfer = portRequest s p) := by
  refine ⟨?_, fun q other waits => ?_, fun waits q rests => ?_, fun x bus => ?_, fun p port => ?_⟩
  · rw [ageOf_grant, ageAfter, if_pos rfl]
  · rw [ageOf_grant, ageAfter, if_neg other, if_pos waits]
  · have other : q ≠ r := fun same => rests (same ▸ waits)
    rw [ageOf_grant, ageAfter, if_neg other, if_neg rests]
  · rw [grant_transfer] at bus
    exact grantedTransfer_who bus
  · subst port
    cases p <;> rfl

/-- Settles O44. -/
theorem transfersEndRetryAndAreGranted : Obligations.TransfersEndRetryAndAreGranted := by
  refine ⟨fun dt x p s bus => ⟨fun who idle late => ⟨fun kind => ?_, fun kind => ?_⟩, fun who closing idle => ?_,
    fun busy first few late => ?_, fun many => ?_⟩, exec_arbitrates, fun s => ?_⟩
  · obtain ⟨y, bus', rest⟩ := event_idleClose bus who idle late kind (.inl rfl)
    exact ⟨event (idleClose p .burst) dt s, y, rfl, bus', rest⟩
  · obtain ⟨y, bus', rest⟩ := event_idleClose bus who idle late kind (.inr rfl)
    exact ⟨event (idleClose p .read) dt s, y, rfl, bus', rest⟩
  · exact ⟨event endTransfer dt s, rfl, fun y bus' => event_endTransfer bus who closing idle bus'⟩
  · obtain ⟨y, again⟩ := event_retry bus busy first few late
    exact ⟨event retryAddress dt s, y, rfl, again⟩
  · obtain ⟨y, kept⟩ := event_retry_over (dt := dt) bus many
    exact ⟨event retryAddress dt s, y, rfl, kept⟩
  · intro waits rank
    have waiting : ∀ r, waits r ↔ r ∈ waitingRequesters s := by
      intro r
      cases r with
      | dport => exact (mem_waiting_dport s).symm
      | internal => exact (mem_waiting_internal s).symm
      | cport => exact (mem_waiting_cport s).symm
    have ranked : ∀ r, rank r = r.rank := by
      intro r
      cases r <;> rfl
    clear_value waits rank
    simp only [waiting, ranked]
    refine ⟨arbitrate_busy, fun nobody => arbitrate_nobody (List.eq_nil_iff_forall_not_mem.2 nobody),
      fun r free waits first => ?_⟩
    rw [arbitrate_grants free (chosen_eq waits first)]
    obtain ⟨zero, others, rests, own, port⟩ := grant_does (s := s) r
    refine ⟨zero, others, rests waits, own, port, fun j rest internal jobs => ?_⟩
    subst internal
    rw [grant_internal, grant_transfer]
    exact grantedTransfer_internal jobs

end Sys2Proof.Machine

/-! The memory's bytes complete a port's transfers (R179, R181, R182). -/

namespace Sys2Proof.Machine

open Sys2Proof.Safety Sys2Proof.Statement

@[simp] theorem portOfRequester_requesterOf (p : Port) : portOfRequester (requesterOf p) = some p := by cases p <;> rfl

/-! ### The acknowledgement of a byte on its port -/

section
variable {s : State} {x : Transfer} {p : Port} (bus : s.link.transfer = some x) (who : x.who = requesterOf p)
  (busy : x.busy = true)
include bus who busy

theorem dataAck_burst (kind : x.kind = .burst) : dataAck s = burstAck p x s := by
  unfold dataAck
  simp only [bus, kind, who, portOfRequester_requesterOf, busy, if_true]

theorem dataAck_drain {n : Nat} (kind : x.kind = .drain n) : dataAck s = drainAck p x s := by
  unfold dataAck
  simp only [bus, kind, who, portOfRequester_requesterOf, busy, if_true]

theorem portOf_readBack (kind : x.kind = .read) (waits : (portOf s p).stretch.isSome = true) (open' : x.closing = false) :
    portOf (readBack s) p = { portOf s p with stretch := none, reply := .byte (readByte s x.addr) } := by
  have carries : x.carries = true := by simp [Transfer.carries, busy, open']
  unfold readBack
  simp only [bus, kind, who, portOfRequester_requesterOf, busy, if_true, waits, carries, and_self]
  simp

end

section
variable {s : State} {x : Transfer} {p : Port}

theorem portOf_burstAck :
    portOf (burstAck p x s) p =
      if (portOf s p).stretch.isSome ∧ x.carries = true then { portOf s p with stretch := none, reply := .ack }
      else portOf s p := by
  unfold burstAck
  dsimp only
  split <;> simp

theorem portOf_drainAck : portOf (drainAck p x s) p = { portOf s p with post := (portOf s p).post.drop 1 } := by
  unfold drainAck
  dsimp only
  split <;> simp

/-- R179, R181: the acknowledged byte is stored. -/
theorem readByte_ack (wf : memoryForm s = true) (inside : x.addr < 0x8000) :
    readByte (burstAck p x s) x.addr = x.data ∧ readByte (drainAck p x s) x.addr = x.data := by
  have stored := readByte_storeByte_same (s := s) (a := x.addr) x.data wf inside
  constructor
  · refine (readByte_of_mem ?_ x.addr).trans stored
    unfold burstAck
    dsimp only
    split <;> simp
  · refine (readByte_of_mem ?_ x.addr).trans stored
    unfold drainAck
    dsimp only
    split <;> simp

end

theorem readByte_event (f : State → State) (dt : Nat) (s : State) (a : Nat) :
    readByte (event f dt s) a = readByte (f (advance dt s)) a := readByte_of_mem (event_mem_effect f dt s) a

/-! ### A POSTED byte that has waited for room -/

/-- R180: a POSTED byte goes on as soon as the buffer has room for it. -/
theorem releasePort_post {s : State} {p : Port} {y : Stretch} {a : Nat} {v : Byte} (stretch : (portOf s p).stretch = some y)
    (what : y.what = .post a v) (start : (portOf s p).heldStart = none) (room : (portOf s p).post.length < 32) :
    releasePort p s = joinPost p a v s := by
  have edit : releaseEdit p s = s := by
    unfold releaseEdit
    rw [stretch]
    dsimp only
    rw [what]
    exact ite_self _
  have post : releasePost p s = joinPost p a v s := by
    unfold releasePost
    rw [stretch]
    dsimp only
    rw [what]
    exact if_pos room
  have held : releaseStart p (joinPost p a v s) = joinPost p a v s := by
    unfold releaseStart joinPost
    rw [portOf_setPort_same, start]
  rw [releasePort, edit, post, held]

theorem portOf_joinPost (p : Port) (a : Nat) (v : Byte) (s : State) :
    portOf (joinPost p a v s) p =
      { portOf s p with post := (portOf s p).post ++ [(a, v)], reply := .ack, stretch := none } := by simp [joinPost]

theorem portOf_event_post {f : State → State} {dt : Nat} {s : State} {p : Port} {y : Stretch} {a : Nat} {v : Byte}
    (stretch : (portOf (f (advance dt s)) p).stretch = some y) (what : y.what = .post a v)
    (start : (portOf (f (advance dt s)) p).heldStart = none) (room : (portOf (f (advance dt s)) p).post.length < 32) :
    portOf (event f dt s) p =
      { portOf (f (advance dt s)) p with
        post := (portOf (f (advance dt s)) p).post ++ [(a, v)], reply := .ack, stretch := none } := by
  obtain ⟨u, released⟩ : ∃ u, u = stamp (advance dt s) (deliver (f (advance dt s))) := ⟨_, rfl⟩
  have port : portOf u p = portOf (f (advance dt s)) p := by rw [released]; simp
  have joins (w : State) (same : portOf w p = portOf u p) :
      portOf (releasePort p w) p =
        { portOf (f (advance dt s)) p with
          post := (portOf (f (advance dt s)) p).post ++ [(a, v)], reply := .ack, stretch := none } := by
    have here := same.trans port
    rw [releasePort_post (by rw [here]; exact stretch) what (by rw [here]; exact start) (by rw [here]; exact room),
      portOf_joinPost, here]
  rw [event, ← released, settle, portOf_rest]
  cases p with
  | c => rw [portOf_releasePort_other (by decide)]; exact joins u rfl
  | d => exact joins _ (portOf_releasePort_other (by decide) u)

/-- Settles O45. -/
theorem memoryBytesCompletePortTransfers : Obligations.MemoryBytesCompletePortTransfers := by
  intro dt x p s bus who busy start
  have bus' : (advance dt s).link.transfer = some x := bus
  refine ⟨fun kind wf inside => ?_, fun n kind wf inside => ?_, fun kind waits open' => ?_⟩
  · have effect := dataAck_burst bus' who busy kind
    have port : portOf (dataAck (advance dt s)) p = _ := effect ▸ portOf_burstAck (p := p) (x := x) (s := advance dt s)
    rw [portOf_advance] at port
    refine ⟨event dataAck dt s, rfl, ?_, fun waits open' => ?_, fun closing y a v stretch what => ?_⟩
    · rw [readByte_event, effect]
      exact (readByte_ack (s := advance dt s) wf inside).1
    · have carries : x.carries = true := by simp [Transfer.carries, busy, open']
      rw [if_pos ⟨waits, carries⟩] at port
      rw [portOf_event (by rw [port]) (by rw [port]; exact start), port]
      exact ⟨rfl, rfl⟩
    · have cutOff : ¬((portOf s p).stretch.isSome = true ∧ x.carries = true) := by simp [Transfer.carries, closing]
      rw [if_neg cutOff] at port
      have still : stillWaits (dataAck (advance dt s)) (portOf (dataAck (advance dt s)) p) y := by
        unfold stillWaits
        rw [what]
        trivial
      rw [portOf_event_waits (by rw [port]; exact stretch) (by rw [port]; exact start) still, port]
      exact stretch
  · have effect := dataAck_drain bus' who busy kind
    have port : portOf (dataAck (advance dt s)) p = _ := effect ▸ portOf_drainAck (p := p) (x := x) (s := advance dt s)
    rw [portOf_advance] at port
    refine ⟨event dataAck dt s, rfl, ?_, fun free => ?_, fun y stretch => ⟨fun a v what => ?_, fun a v what full filled => ?_⟩⟩
    · rw [readByte_event, effect]
      exact (readByte_ack (s := advance dt s) wf inside).2
    · rw [portOf_event (by rw [port]; exact free) (by rw [port]; exact start), port]
    · have still : stillWaits (dataAck (advance dt s)) (portOf (dataAck (advance dt s)) p) y := by
        unfold stillWaits
        obtain held | read := what
        · rw [held]; trivial
        · rw [read]; trivial
      rw [portOf_event_waits (by rw [port]; exact stretch) (by rw [port]; exact start) still, port]
      exact ⟨rfl, stretch⟩
    · have room : ((portOf s p).post.drop 1).length < 32 := by
        have holds : 0 < (portOf s p).post.length := List.length_pos_iff.2 filled
        rw [List.length_drop]
        omega
      rw [portOf_event_post (by rw [port]; exact stretch) what (by rw [port]; exact start) (by rw [port]; exact room), port]
      exact ⟨rfl, rfl, rfl⟩
  · have port := portOf_readBack (s := advance dt s) bus' who busy kind (by rw [portOf_advance]; exact waits) open'
    refine ⟨event readBack dt s, rfl, ?_⟩
    rw [portOf_event (by rw [port]) (by rw [port, portOf_advance]; exact start), port]
    exact ⟨rfl, rfl⟩

end Sys2Proof.Machine

/-! A failed transfer latches MEMORY_FAULT (R181, R184, R191). -/

namespace Sys2Proof.Machine

open Sys2Proof.Safety Sys2Proof.Statement

/-! ### The latches -/

/-- R191: a latch that an event's own effect sets, stays through the event. -/
theorem isLatched_event {f : State → State} {dt : Nat} {s : State} {k : FaultKind} (h : isLatched (f (advance dt s)) k = true) :
    isLatched (event f dt s) k = true := (isLatched_keepsUpdates k).event h

theorem drainFailed_latches (p : Port) (taken : Nat) (cause : FailCause) (s : State) :
    isLatched (drainFailed p taken cause s) .postedWriteLost = true ∧
      ∀ k, isLatched s k = true → isLatched (drainFailed p taken cause s) k = true :=
  ⟨isLatched_raiseFault _ _, fun k h => isLatched_raiseFault_of _ _ ((isLatched_congr s (by simp) k).trans h)⟩

@[simp] theorem byteFailed_report (p : Port) (s : State) : (byteFailed p s).report = s.report := by
  unfold byteFailed
  split
  · split <;> simp [refuseWrite, refuseRead]
  · rfl

theorem partialWrite_report (j : Job) (cause : FailCause) (s : State) : (partialWrite j cause s).report = s.report := by
  unfold partialWrite
  split <;> simp

theorem failTransfer_latches {x : Transfer} {cause : FailCause} {s : State} (bus : s.link.transfer = some x)
    (fits : causeFits x cause = true) : isLatched (failTransfer cause s) .memoryFault = true := by
  have raised := isLatched_raiseFault (setTransfer s none) .memoryFault
  unfold failTransfer
  rw [bus]
  dsimp only
  rw [if_pos fits]
  split
  · rename_i j orphan kind
    have written : isLatched (partialWrite j cause (raiseFault .memoryFault (setTransfer s none))) .memoryFault = true :=
      (isLatched_congr _ (by rw [partialWrite_report]) _).trans raised
    split
    · exact written
    · exact (isLatched_congr _ (by simp) _).trans written
  · exact (drainFailed_latches _ _ _ _).2 _ raised
  all_goals first
    | exact raised
    | split
      · exact (isLatched_congr _ (by simp) _).trans raised
      · exact raised

/-! ### The memory -/

/-- A stored byte within the memory reads back, whatever comes after it. -/
theorem readByte_storeBytes_inside (l : List Byte) {s : State} {a i : Nat} (wf : Memory.wf s.mem = true) (h : i < l.length)
    (inside : a + i < Config.memSize) : readByte (storeBytes s a l) (a + i) = l[i] := by
  induction l generalizing s a i with
  | nil => cases h
  | cons v rest ih =>
    cases i with
    | zero =>
      rw [storeBytes, readByte_storeBytes_other rest (storeByte_wf v wf) (.inl (by omega)), Nat.add_zero,
        readByte_storeByte_same v wf (by omega)]
      rfl
    | succ i =>
      rw [storeBytes, show a + (i + 1) = a + 1 + i by omega,
        ih (storeByte_wf v wf) (Nat.lt_of_succ_lt_succ h) (by omega)]
      rfl

/-- R184, R194: a write that fails at a data byte leaves the acknowledged bytes, but for a log entry. -/
theorem leftByFailure_eq {j : Job} (h : isLogWrite j = false) (acked : Nat) : leftByFailure j acked = (jobData j).take acked := by
  cases j with
  | logWrite a l => cases h
  | _ => rfl

theorem readByte_failTransfer {x : Transfer} {j : Job} {o : Bool} {acked i : Nat} {s : State} (bus : s.link.transfer = some x)
    (fits : causeFits x (.dataByte acked) = true) (kind : x.kind = .job j o) (other : isLogWrite j = false)
    (wf : memoryForm s = true) (h : i < (jobData j).length) (before : i < acked) (inside : jobAddr j + i < 0x8000) :
    readByte (failTransfer (.dataByte acked) s) (jobAddr j + i) = (jobData j)[i] := by
  have short : i < ((jobData j).take acked).length := by
    rw [List.length_take]
    omega
  rw [readByte_of_mem (failTransfer_job_mem bus kind fits), partialWrite, leftByFailure_eq other,
    readByte_storeBytes_inside _ wf short inside, List.getElem_take]

/-! ### The port whose transfer has failed -/

section
variable {x : Transfer} {cause : FailCause} {p : Port} {s : State} (bus : s.link.transfer = some x)
  (fits : causeFits x cause = true) (who : x.who = requesterOf p)
include bus fits who

theorem failTransfer_byte (kind : x.kind = .burst ∨ x.kind = .read) (open' : x.closing = false) :
    failTransfer cause s = byteFailed p (raiseFault .memoryFault (setTransfer s none)) := by
  have busy : x.busy = true := by
    unfold causeFits at fits
    exact (Bool.and_eq_true_iff.1 fits).1
  have carries : x.carries = true := by simp [Transfer.carries, busy, open']
  unfold failTransfer
  obtain burst | read := kind
  · simp only [bus, fits, if_true, burst, who, portOfRequester_requesterOf, carries]
  · simp only [bus, fits, if_true, read, who, portOfRequester_requesterOf, carries]

theorem failTransfer_drain {n : Nat} (kind : x.kind = .drain n) :
    failTransfer cause s = drainFailed p n cause (raiseFault .memoryFault (setTransfer s none)) := by
  unfold failTransfer
  simp only [bus, fits, if_true, kind, who, portOfRequester_requesterOf]

end

/-- R181: how many entries a failed drain that took `n` loses. -/
def lostEntries (n : Nat) : FailCause → Nat
  | .dataByte _ => 1
  | .deviceAddress | .memoryAddress => n

section
variable {p : Port} {s : State} {y : Stretch}

theorem portOf_byteFailed_held {a : Nat} {v : Byte} (stretch : (portOf s p).stretch = some y) (what : y.what = .held a v) :
    portOf (byteFailed p (raiseFault .memoryFault (setTransfer s none))) p =
      { portOf s p with txn := .ignoring, reply := .nack, stretch := none } := by
  simp [byteFailed, stretch, what, refuseWrite]

theorem portOf_byteFailed_read {a : Nat} (stretch : (portOf s p).stretch = some y) (what : y.what = .read a) :
    portOf (byteFailed p (raiseFault .memoryFault (setTransfer s none))) p =
      { portOf s p with reply := .byte 0xFF, stretch := none } := by
  simp [byteFailed, stretch, what, refuseRead]

theorem portOf_drainFailed (n : Nat) (cause : FailCause) :
    portOf (drainFailed p n cause (raiseFault .memoryFault (setTransfer s none))) p =
      { portOf s p with post := (portOf s p).post.drop (lostEntries n cause) } := by
  cases cause <;> simp [drainFailed, lostEntries]

end

/-- Settles O46. -/
theorem failedTransferLatchesMemoryFault : Obligations.FailedTransferLatchesMemoryFault := by
  intro dt cause x s bus fits
  have bus' : (advance dt s).link.transfer = some x := bus
  refine ⟨event (failTransfer cause) dt s, rfl, isLatched_event (failTransfer_latches bus' fits),
    fun j o acked kind other at' wf i h before inside => ?_, fun p who start => ⟨fun kind open' y a v stretch what => ?_,
    fun kind open' y a stretch what => ?_, fun n kind free => ?_⟩⟩
  · subst at'
    rw [readByte_event]
    exact readByte_failTransfer (s := advance dt s) bus' fits kind other wf h before inside
  · have port := portOf_byteFailed_held (s := advance dt s) (p := p) (by rw [portOf_advance]; exact stretch) what
    rw [← failTransfer_byte bus' fits who (.inl kind) open', portOf_advance] at port
    rw [portOf_event (by rw [port]) (by rw [port]; exact start), port]
    exact ⟨rfl, rfl, rfl⟩
  · have port := portOf_byteFailed_read (s := advance dt s) (p := p) (by rw [portOf_advance]; exact stretch) what
    rw [← failTransfer_byte bus' fits who (.inr kind) open', portOf_advance] at port
    rw [portOf_event (by rw [port]) (by rw [port]; exact start), port]
    exact ⟨rfl, rfl, rfl⟩
  · have effect := failTransfer_drain bus' fits who kind
    have port := portOf_drainFailed (p := p) (s := advance dt s) n cause
    rw [← effect, portOf_advance] at port
    have left : (portOf (event (failTransfer cause) dt s) p).post = (portOf s p).post.drop (lostEntries n cause) := by
      rw [portOf_event (by rw [port]; exact free) (by rw [port]; exact start), port]
    refine ⟨isLatched_event (by rw [effect]; exact (drainFailed_latches _ _ _ _).1), ?_⟩
    cases cause <;> exact left

end Sys2Proof.Machine

/-! The swap of plan pages: the commit, the carry copy and the validation (R147, R149 to R153). -/

namespace Sys2Proof.Machine

open Sys2Proof.Safety Sys2Proof.Statement

/-! ### The commit -/

theorem commitNow_taken {s : State} (handed : s.hand.commit = true) :
    commitNow s = takeCommit (s.setHand { s.hand with commit := false }) := by simp [commitNow, handed]

theorem commitNow_hand {s : State} (handed : s.hand.commit = true) : (commitNow s).hand.commit = false := by
  rw [commitNow_taken handed, takeCommit]
  split <;> simp [commitResult]

theorem commitNow_begins {s : State} (handed : s.hand.commit = true) (free : s.pages.swap = none) :
    (commitNow s).pages = { s.pages with swap := some {
      phase := .record, offset := 0, headerCarry := false, stepsCarry := false, amend := false, noted := none, carry := none,
      bytes := [] } } := by
  simp [commitNow_taken handed, takeCommit, swapBusy, free]

theorem commitNow_busy {w : Swap} {s : State} (handed : s.hand.commit = true) (busy : s.pages.swap = some w) :
    (commitNow s).pages.swap = some w ∧ (commitNow s).pages.result = .busy := by
  simp [commitNow_taken handed, takeCommit, swapBusy, busy, commitResult]

/-- Settles O47. -/
theorem commitBeginsSwapOrIsBusy : Obligations.CommitBeginsSwapOrIsBusy := by
  intro dt s handed
  refine ⟨event commitNow dt s, rfl, ?_, by simp, by simp, fun free => ?_, fun w busy => ?_⟩
  · rw [event_hand_eq]
    exact commitNow_hand handed
  · have begins := commitNow_begins (s := advance dt s) handed free
    refine ⟨_, (event_pageFields commitNow dt s).2.1.trans (congrArg PageUnit.swap begins), rfl, rfl, rfl, ?_⟩
    rw [(event_pageFields commitNow dt s).2.2.2.1, begins]
    rfl
  · rw [(event_pageFields commitNow dt s).2.1, (event_pageFields commitNow dt s).2.2.2.1]
    exact commitNow_busy (s := advance dt s) handed busy

/-! ### The carry copy -/

/-- R149: the swap record after the write of a granule. -/
def Swap.carried (w : Swap) : Swap :=
  if w.phase = .carryHeader ∧ w.offset + 16 = 0x20 then
    if w.stepsCarry then { w with carry := none, phase := .carrySteps, offset := 0x20 }
    else { w with carry := none, phase := .validate, offset := 0 }
  else if w.offset + 16 = 0xE0 then { w with carry := none, phase := .validate, offset := 0 }
  else { w with carry := none, offset := w.offset + 16 }

theorem carryWriteDone_swap {w : Swap} {s : State} (swap : s.pages.swap = some w) :
    (carryWriteDone s).pages.swap = some w.carried := by
  unfold carryWriteDone Swap.carried
  rw [swap]
  dsimp only
  (repeat' split) <;> rfl

/-- R149: the granule, and the phase, that follow a write. -/
theorem carried_goes (w : Swap) :
    w.carried.carry = none ∧
      (w.phase = .carryHeader → w.offset = 0x10 → w.stepsCarry = true → w.carried.phase = .carrySteps ∧ w.carried.offset = 0x20) ∧
      (w.phase = .carryHeader → w.offset = 0x10 → w.stepsCarry = false → w.carried.phase = .validate ∧ w.carried.offset = 0) ∧
      (w.offset = 0xD0 → w.carried.phase = .validate ∧ w.carried.offset = 0) ∧
      (¬(w.phase = .carryHeader ∧ w.offset = 0x10) → w.offset ≠ 0xD0 →
        w.carried.phase = w.phase ∧ w.carried.offset = w.offset + 16) := by
  unfold Swap.carried
  refine ⟨by (repeat' split) <;> rfl, fun header last steps => ?_, fun header last steps => ?_, fun last => ?_, fun within more => ?_⟩
  · simp [header, last, steps]
  · simp [header, last, steps]
  · simp [last]
  · have first : ¬(w.phase = .carryHeader ∧ w.offset + 16 = 0x20) := fun h => within ⟨h.1, by omega⟩
    have second : ¬w.offset + 16 = 0xE0 := by omega
    rw [if_neg first, if_neg second]
    exact ⟨rfl, rfl⟩

/-- An internal write that nobody has abandoned is stored, the grant is released and its block acts. -/
theorem completeJob_write {p : Job → Bool} {j : Job} {s : State} (act : Job → State → State)
    (onBus : jobOnBus s = some (j, false)) (picked : p j = true) :
    completeJob p act s = act j (setTransfer (storeBytes s (jobAddr j) (jobData j)) none) := by
  simp only [completeJob, onBus, picked, if_true, Bool.false_eq_true, if_false]

@[simp] theorem carryWriteDone_mem (s : State) : (carryWriteDone s).mem = s.mem := by
  unfold carryWriteDone
  dsimp only
  (repeat' split) <;> rfl

/-- Settles O49. -/
theorem carryCopyMovesGranules : Obligations.CarryCopyMovesGranules := by
  intro dt a w s swap
  refine ⟨fun onBus => ?_, fun l onBus => ?_⟩
  · obtain ⟨f, effect⟩ : ∃ f, f = completeJob isCarryRead fun j t => carryReadDone (bytesRead j t) t := ⟨_, rfl⟩
    have own : f (advance dt s) = carryReadDone (readBytes s a 16) (setTransfer (advance dt s) none) := by
      have bytes : bytesRead (.carryRead a) (setTransfer (advance dt s) none) = readBytes s a 16 := readBytes_of_mem rfl a 16
      rw [effect, completeJob_read (s := advance dt s) _ onBus rfl rfl, bytes]
    refine ⟨event f dt s, by rw [effect]; rfl, ?_⟩
    rw [(event_pageFields f dt s).2.1, own, carryReadDone]
    rw [show (setTransfer (advance dt s) none).pages.swap = some w from swap]
    rfl
  · obtain ⟨f, effect⟩ : ∃ f, f = completeJob isCarryWrite fun _ => carryWriteDone := ⟨_, rfl⟩
    have own : f (advance dt s) = carryWriteDone (setTransfer (storeBytes (advance dt s) a l) none) := by
      rw [effect, completeJob_write (s := advance dt s) _ onBus rfl]
      rfl
    refine ⟨event f dt s, w.carried, by rw [effect]; rfl, fun wf i h inside => ?_, ?_, carried_goes w⟩
    · rw [readByte_event, own]
      exact (readByte_of_mem (by simp) _).trans (readByte_storeBytes_inside l (s := advance dt s) wf h inside)
    · rw [(event_pageFields f dt s).2.1, own]
      exact carryWriteDone_swap (by simpa using swap)

/-! ### The validation -/

/-- What the checks of a page ask of the dose that is used or ordered. -/
def doseNeeded (s : State) : Option Nat :=
  if planUnderWay s then some (s.runner.doseUsed + outstanding s.dosing fun _ => true) else none

theorem flip_pages (l : List Byte) (s : State) :
    (flip l s).pages = { s.pages with
      active := otherPage s.pages.active, valid := true, swap := none, result := .swapped, check := 0, stepIndex := none } ∧
    (flip l s).runner.plan = planOf l := by
  simp [flip, endSwap, commitResult]

section
variable {noted : Option Word16} {l : List Byte} {s : State}

theorem validatePage_rejects {k : Nat} {i : Option Nat}
    (fails : planCheck s.settings.inForce l (doseNeeded s) = some (k, i)) :
    validatePage noted l s = endSwap .rejected k i (some (planOf l).identity) s := by
  unfold validatePage
  dsimp only
  rw [show (if planUnderWay s then some (s.runner.doseUsed + outstanding s.dosing fun _ => true) else none) = doseNeeded s from rfl,
    fails]

theorem validatePage_passes (passes : planCheck s.settings.inForce l (doseNeeded s) = none) :
    validatePage noted l s =
      if planUnderWay s ∧ noted ≠ some (planOf l).identity then endSwap .refusedRunning 0 none (some (planOf l).identity) s
      else flip l s := by
  unfold validatePage
  dsimp only
  rw [show (if planUnderWay s then some (s.runner.doseUsed + outstanding s.dosing fun _ => true) else none) = doseNeeded s from rfl,
    passes]

end

@[simp] theorem endSwap_runner (r : CommitResult) (check : Nat) (step : Option Nat) (id : Option Word16) (s : State) :
    (endSwap r check step id s).runner = s.runner := by simp

theorem validatePage_swap (noted : Option Word16) (l : List Byte) (s : State) : (validatePage noted l s).pages.swap = none := by
  cases check : planCheck s.settings.inForce l (doseNeeded s) with
  | some fault =>
    obtain ⟨k, i⟩ := fault
    rw [validatePage_rejects check, endSwap_pages]
  | none =>
    rw [validatePage_passes check]
    split
    · rw [endSwap_pages]
    · rw [(flip_pages l s).1]

theorem validationDone_eq {w : Swap} {s : State} (l : List Byte) (swap : s.pages.swap = some w) :
    validationDone l s =
      if w.offset = 0xD0 then validatePage w.noted (w.bytes ++ l) s
      else setSwap s { w with bytes := w.bytes ++ l, offset := w.offset + 16 } := by
  unfold validationDone
  rw [swap]
  exact ite_congr (propext (by omega)) (fun _ => rfl) fun _ => rfl

/-- The plan copy after an event is the one that its own effect leaves. -/
theorem event_plan (f : State → State) (dt : Nat) (s : State) : (event f dt s).runner.plan = (f (advance dt s)).runner.plan :=
  (plan_keepsUpdates _).event rfl

/-- Settles O50. -/
theorem validationRejectsOrFlips : Obligations.ValidationRejectsOrFlips := by
  intro dt a w s swap onBus
  obtain ⟨f, effect⟩ : ∃ f, f = completeJob isValidation fun j t => validationDone (bytesRead j t) t := ⟨_, rfl⟩
  obtain ⟨u, unit⟩ : ∃ u, u = setTransfer (advance dt s) none := ⟨_, rfl⟩
  have own : f (advance dt s) =
      if w.offset = 0xD0 then validatePage w.noted (w.bytes ++ readBytes s a 16) u
      else setSwap u { w with bytes := w.bytes ++ readBytes s a 16, offset := w.offset + 16 } := by
    have bytes : bytesRead (.validate a) u = readBytes s a 16 := by rw [unit]; exact readBytes_of_mem rfl a 16
    rw [effect, completeJob_read (s := advance dt s) _ onBus rfl rfl, ← unit, bytes,
      validationDone_eq _ (show u.pages.swap = some w by rw [unit]; exact swap)]
  have settings : u.settings = s.settings := by rw [unit]; rfl
  have underWay : planUnderWay u = planUnderWay s := by rw [unit]; rfl
  have pages : u.pages = s.pages := by rw [unit]; rfl
  have runner : u.runner = s.runner := by rw [unit]; rfl
  have needed : doseNeeded u = doseNeeded s := by rw [unit]; rfl
  obtain ⟨active, swapKept, valid, result, check, stepIndex⟩ := event_pageFields f dt s
  refine ⟨event f dt s, by rw [effect]; rfl, fun more => ?_, fun last => ?_⟩
  · rw [if_neg more] at own
    rw [swapKept, event_plan, own]
    exact ⟨rfl, congrArg Runner.plan runner⟩
  · rw [if_pos last] at own
    rw [swapKept, own]
    refine ⟨validatePage_swap _ _ _, fun k i fails => ?_, fun passes => ⟨fun fit => ?_, fun under other => ?_⟩⟩
    · have rejects := validatePage_rejects (noted := w.noted) (s := u) (by rw [settings, needed]; exact fails)
      rw [result, check, stepIndex, active, valid, event_plan, own, rejects, endSwap_pages, endSwap_runner, pages, runner]
      exact ⟨rfl, rfl, rfl, rfl, rfl, rfl⟩
    · have goes := validatePage_passes (noted := w.noted) (s := u) (by rw [settings, needed]; exact passes)
      have flips : ¬(planUnderWay u = true ∧ w.noted ≠ some (planOf (w.bytes ++ readBytes s a 16)).identity) := by
        rintro ⟨under, other⟩
        rw [underWay] at under
        obtain idle | same := fit
        · rw [under] at idle; cases idle
        · exact other same
      rw [if_neg flips] at goes
      obtain ⟨flipped, plan⟩ := flip_pages (w.bytes ++ readBytes s a 16) u
      rw [result, active, valid, event_plan, own, goes, flipped, plan, pages]
      exact ⟨rfl, rfl, rfl, rfl⟩
    · have refuses := validatePage_passes (noted := w.noted) (s := u) (by rw [settings, needed]; exact passes)
      rw [if_pos ⟨underWay.trans under, other⟩] at refuses
      rw [result, active, event_plan, own, refuses, endSwap_pages, endSwap_runner, pages, runner]
      exact ⟨rfl, rfl, rfl⟩

end Sys2Proof.Machine

/-! The trip, the end of a plan and what an event leaves of a governor at rest or in a run-down; the telemetry record's adoption and age
(R72, R84, R168 to R171). -/

namespace Sys2Proof.Machine

open Sys2Proof.Safety Sys2Proof.Statement

/-! ### At rest and in a run-down -/

/-- What an own effect leaves of a governor at rest or in a run-down, the event leaves. -/
theorem event_rest {f : State → State} {dt : Nat} {s : State} (h : atRestOrRunningDown (f (advance dt s))) :
    (event f dt s).gov.state = (f (advance dt s)).gov.state ∧ (event f dt s).gov.step = (f (advance dt s)).gov.step ∧
      (event f dt s).gov.target = (f (advance dt s)).gov.target ∧ (event f dt s).runner = (f (advance dt s)).runner ∧
      (event f dt s).dosing = (f (advance dt s)).dosing ∧ (event f dt s).lines = (f (advance dt s)).lines ∧
      (event f dt s).report.latches = (f (advance dt s)).report.latches := by
  obtain ⟨state, step, target, -, runner, dosing, lines, report, -⟩ := deliver_rest h
  simp [event, state, step, target, runner, dosing, lines, report]

/-! ### Cuts and the end of a plan -/

/-- R104: a cut leaves no order. -/
@[simp] theorem cutQueue_queue (cause : CutCause) (s : State) : (cutQueue cause s).dosing.queue = [] := by
  by_cases empty : s.dosing.queue = []
  · rw [cutQueue_nil cause empty, empty]
  · exact (cutQueue_cons cause empty).1

theorem leaveStep_queue {s : State} (empty : s.dosing.queue = []) : (leaveStep s).dosing.queue = [] := by
  unfold leaveStep
  dsimp only
  split
  · simp
  · exact empty

/-- R84: an aborted plan, with no order left and the governor as it was. -/
theorem abortPlan_ends (why : EndReason) (s : State) :
    (abortPlan why s).runner.state = .aborted ∧ (abortPlan why s).runner.endReason = why ∧
      (abortPlan why s).dosing.queue = [] ∧ (abortPlan why s).gov = s.gov := by
  obtain ⟨state, -, -, reason, -⟩ := cutQueue_runner (setRunnerState .aborted (s.setRunner { s.runner with endReason := why })) .planEnd
  refine ⟨?_, ?_, by simp [abortPlan], by simp [abortPlan]⟩
  · simpa [abortPlan, setRunnerState] using state
  · simpa [abortPlan, setRunnerState] using reason

theorem planUnderWay_iff {s : State} : planUnderWay s = true ↔ s.runner.state = .running ∨ s.runner.state = .waitResume := by
  simp [planUnderWay]

theorem RunnerKept.planUnderWay {s t : State} (h : RunnerKept s t) : planUnderWay t = planUnderWay s := by
  unfold Machine.planUnderWay
  rw [h.1]

/-! ### The trip -/

/-- R72: TRIP with the target 0 and no step in hand, no order left, the fault latched, and a plan that was under way ended. -/
structure Tripped (k : FaultKind) (underWay : Bool) (s : State) : Prop where
  state : s.gov.state = .trip
  target : s.gov.target = 0
  step : s.gov.step = none
  queue : s.dosing.queue = []
  latched : isLatched s k = true
  ended : underWay = true → s.runner.state = .aborted ∧ s.runner.endReason = .tripped

/-- R72: a trip fault that is detected outside IDLE and TRIP trips the governor. -/
theorem detect_trips {s : State} (k : FaultKind) (idle : s.gov.state ≠ .idle) (trip : s.gov.state ≠ .trip) :
    Tripped k (planUnderWay s) (detect k s) := by
  obtain ⟨entered, enters⟩ : ∃ u, u = enterState .trip .runDown 0 none (s.setGov { s.gov with startRunDown := false }) := ⟨_, rfl⟩
  obtain ⟨left, leaves⟩ : ∃ u, u = leaveStep (cutQueue .trip (logTrip k (stepInHand s) (raiseFault k entered))) := ⟨_, rfl⟩
  have trips : detect k s = if planUnderWay left then abortPlan .tripped left else left := by
    unfold detect
    rw [leaves, enters]
    split
    · contradiction
    · contradiction
    · rfl
  have state : left.gov.state = .trip ∧ left.gov.target = 0 ∧ left.gov.step = none := by
    rw [leaves, enters]
    simp [logTrip]
  have queue : left.dosing.queue = [] := by rw [leaves]; exact leaveStep_queue (by simp)
  have keeps := isLatched_keepsUpdates k
  have latched : isLatched left k = true := by
    rw [leaves]
    exact keeps.leaveStep (keeps.cutQueue _ (keeps.light (askLog_light _ _) (isLatched_raiseFault _ _)))
  have runner : RunnerKept s left := by
    rw [leaves, enters]
    exact ((((RunnerKept.of_eq rfl).trans (enterState_runner (s.setGov { s.gov with startRunDown := false }) .trip .runDown 0 none)).trans
      (.of_eq (by simp [logTrip]))).trans (cutQueue_runner _ .trip)).trans (leaveStep_runner _)
  rw [trips]
  split
  · obtain ⟨aborted, reason, empty, gov⟩ := abortPlan_ends .tripped left
    exact ⟨by rw [gov]; exact state.1, by rw [gov]; exact state.2.1, by rw [gov]; exact state.2.2, empty,
      keeps.abortPlan _ latched, fun _ => ⟨aborted, reason⟩⟩
  · rename_i done
    exact ⟨state.1, state.2.1, state.2.2, queue, latched, fun underWay => absurd (runner.planUnderWay.trans underWay) done⟩

/-- Nothing that follows an event changes a trip. -/
theorem Tripped.event {f : State → State} {dt : Nat} {s : State} {k : FaultKind} {underWay : Bool}
    (h : Tripped k underWay (f (advance dt s))) : Tripped k underWay (event f dt s) := by
  obtain ⟨state, step, target, runner, dosing, -, latches⟩ := event_rest (f := f) (dt := dt) (s := s) ⟨.inr (.inr h.state), h.step⟩
  exact ⟨state.trans h.state, target.trans h.target, step.trans h.step, by rw [dosing, h.queue],
    (isLatched_congr _ latches k).trans h.latched, fun under => by rw [runner]; exact h.ended under⟩

/-! ### The telemetry record -/

/-- R171: the drive-state check notes the drive state and changes nothing else of the telemetry. -/
@[simp] theorem driveCheck_tel (r : TelRecord) (s : State) : (driveCheck r s).tel = { s.tel with prevDrive := some r.drive } := by
  unfold driveCheck
  dsimp only
  split <;> simp

/-- R172: the cross-check changes its condition and its counts. -/
@[simp] theorem crossCheck_tel (drive : Nat) (s : State) :
    (crossCheck drive s).tel.adopted = s.tel.adopted ∧ (crossCheck drive s).tel.adoptedSeq = s.tel.adoptedSeq ∧
      (crossCheck drive s).tel.prevDrive = s.tel.prevDrive ∧ (crossCheck drive s).tel.lastFresh = s.tel.lastFresh ∧
      (crossCheck drive s).tel.running = s.tel.running := by
  unfold crossCheck crossCount setStanding clearCrossCounts
  dsimp only
  (repeat' split) <;> simp

/-- Three operations in any order bring about what the second one brings about and the others keep. -/
theorem unordered3_second {P : State → Prop} {f g h : State → State} {s : State} (hf : ∀ u, P u → P (f u)) (hg : ∀ u, P (g u))
    (hh : ∀ u, P u → P (h u)) : P (unordered3 f g h s) := by
  unfold unordered3
  repeat' split
  · exact hh _ (hg _)
  · exact hh _ (hg _)
  · exact hg _
  · exact hh _ (hf _ (hg _))
  · exact hf _ (hh _ (hg _))
  · exact hg _
  · exact hf _ (hg _)

/-- R168, R170, R171: the telemetry's fields after an adoption, for a record that is fresh or not. -/
theorem adoptTelemetry_tel (s : State) :
    let fresh := decide (s.tel.adoptedSeq ≠ some s.tel.image[0])
    (adoptTelemetry s).tel.adopted = some (telemetryOf s.tel.image) ∧
      (adoptTelemetry s).tel.adoptedSeq = (if fresh then some s.tel.image[0] else s.tel.adoptedSeq) ∧
      (adoptTelemetry s).tel.lastFresh = (if fresh then some s.now else s.tel.lastFresh) ∧
      (adoptTelemetry s).tel.running = (s.tel.running || fresh) ∧
      (adoptTelemetry s).tel.prevDrive = some (telemetryOf s.tel.image).drive := by
  intro fresh
  have adopted : (adoptTelemetry s).tel.adopted = some (telemetryOf s.tel.image) ∧
      (adoptTelemetry s).tel.adoptedSeq = (if fresh then some s.tel.image[0] else s.tel.adoptedSeq) ∧
      (adoptTelemetry s).tel.lastFresh = (if fresh then some s.now else s.tel.lastFresh) ∧
      (adoptTelemetry s).tel.running = (s.tel.running || fresh) := by
    refine unordered3_keeps (P := fun t => t.tel.adopted = some (telemetryOf s.tel.image) ∧
      t.tel.adoptedSeq = (if fresh then some s.tel.image[0] else s.tel.adoptedSeq) ∧
      t.tel.lastFresh = (if fresh then some s.now else s.tel.lastFresh) ∧ t.tel.running = (s.tel.running || fresh))
      (fun u hu => by simpa using hu) (fun u hu => by simpa using hu) (fun u hu => by simpa using hu) (fun u hu => ?_)
      ⟨rfl, rfl, rfl, rfl⟩
    split
    · simpa using hu
    · exact hu
  obtain ⟨record, seq, last, running⟩ := adopted
  refine ⟨record, seq, last, running, ?_⟩
  refine unordered3_second (P := fun t => t.tel.prevDrive = some (telemetryOf s.tel.image).drive) (fun u hu => by simpa using hu)
    (fun u => by simp) (fun u hu => ?_)
  split
  · simpa using hu
  · exact hu

/-! ### The age timer -/

theorem ageExpires_due {f : Nat} {s : State} (running : s.tel.running = true) (last : s.tel.lastFresh = some f)
    (old : s.settings.inForce.governor.ageLimit * 1000 ≤ s.now - f) :
    ageExpires s =
      if s.gov.run then detect .telemetryStale (s.setTel { s.tel with running := false })
      else s.setTel { s.tel with running := false } := by
  have due : ageOver s = true := by
    rw [ageOver, running, last, Option.any_some, Bool.true_and, decide_eq_true_eq, since]
    exact old
  unfold ageExpires
  rw [if_pos due]
  rfl

/-- Settles O51. -/
theorem telemetryAdoptionAndAge : Obligations.TelemetryAdoptionAndAge := by
  refine ⟨fun dt s handed => ?_, fun dt f s owed running last old => ?_⟩
  · obtain ⟨record, seq, last, running, drive⟩ :=
      adoptTelemetry_tel ((advance dt s).setHand { (advance dt s).hand with telemetry := false })
    have effect : telemetryNow (advance dt s) = adoptTelemetry ((advance dt s).setHand { (advance dt s).hand with telemetry := false }) :=
      if_pos handed
    rw [← effect] at record seq last running drive
    refine ⟨event telemetryNow dt s, rfl, ?_, ?_⟩
    · rw [event_hand_eq, effect]
      simp
    · rw [event_tel, record, seq, last, running, drive]
      refine ⟨rfl, ?_, rfl, fun fresh => ?_, fun stale => ?_⟩
      · by_cases stale : s.tel.adoptedSeq = some s.tel.image[0] <;> simp [stale]
      · simp [fresh]
      · simp [stale]
  · have effect := ageExpires_due (s := advance dt s) running last old
    have still : (ageExpires (advance dt s)).tel.running = false := by
      rw [effect]
      split <;> simp
    refine ⟨event ageExpires dt s, rfl, by rw [event_tel, still], fun noRun => ?_, fun run idle trip => ?_⟩
    · have own : ageExpires (advance dt s) = (advance dt s).setTel { s.tel with running := false } :=
        effect.trans (if_neg (Bool.eq_false_iff.1 noRun))
      have quiet : (ageExpires (advance dt s)).est.owed = false := by rw [own]; exact owed
      rw [event_gov quiet (by rw [own]; rfl), (event_machine quiet).2.1, event_latches quiet, own]
      exact ⟨rfl, rfl, rfl⟩
    · have own : ageExpires (advance dt s) = detect .telemetryStale ((advance dt s).setTel { s.tel with running := false }) :=
        effect.trans (if_pos run)
      have trips := (own ▸ detect_trips (s := (advance dt s).setTel { s.tel with running := false }) .telemetryStale idle trip).event
      exact ⟨trips.state, trips.target, trips.latched⟩

end Sys2Proof.Machine

/-! Taking a command up; STOP and HALT (R72, R83, R84, R161, R164). -/

namespace Sys2Proof.Machine

open Sys2Proof.Safety Sys2Proof.Statement

/-! ### Taking a command up (R161) -/

section
variable {codes : Byte → Bool} {body : State → Taken} {dt : Nat} {s : State} (handed : s.hand.command = true)
  (code : codes s.cmd.image[1] = true)
include handed code

theorem takeUp_eq (dt : Nat) :
    takeUp codes body (advance dt s) =
      storeResult (body (markTaken (advance dt s))).result (body (markTaken (advance dt s))).mask
        (body (markTaken (advance dt s))).state :=
  if_pos (Bool.and_eq_true_iff.2 ⟨handed, code⟩)

/-- The command block and the hand-over after a command that its body leaves alone. -/
theorem event_takeUp (cmd : ∀ u, (body u).state.cmd = u.cmd) (hand : ∀ u, (body u).state.hand = u.hand) :
    (event (takeUp codes body) dt s).cmd = { s.cmd with
        lastSeq := some s.cmd.image[0], result := (body (markTaken (advance dt s))).result,
        mask := (body (markTaken (advance dt s))).mask } ∧
      (event (takeUp codes body) dt s).hand.command = false := by
  rw [event_cmd, event_hand_eq, takeUp_eq handed code dt]
  simp [storeResult, markTaken, cmd, hand]

end

/-- R161: storing the result leaves the blocks of the machine. -/
theorem storeResult_blocks (r : CmdResult) (mask : Byte) (s : State) :
    (storeResult r mask s).est = s.est ∧ (storeResult r mask s).gov = s.gov ∧ (storeResult r mask s).runner = s.runner ∧
      (storeResult r mask s).dosing = s.dosing ∧ (storeResult r mask s).lines = s.lines ∧
      (storeResult r mask s).report.latches = s.report.latches := by simp [storeResult]

/-- A refused command changes no block of the machine. -/
theorem event_refused {f : State → State} {dt : Nat} {s : State} {r : CmdResult} (owed : s.est.owed = false)
    (effect : f (advance dt s) = storeResult r 0 (markTaken (advance dt s))) :
    (event f dt s).gov = s.gov ∧ (event f dt s).runner = s.runner ∧ (event f dt s).dosing = s.dosing ∧
      (event f dt s).lines = s.lines ∧ (event f dt s).report.latches = s.report.latches := by
  have quiet : (f (advance dt s)).est.owed = false := by rw [effect]; simpa [storeResult, markTaken] using owed
  obtain ⟨-, runner, dosing, lines⟩ := event_machine quiet
  rw [event_gov quiet (by rw [effect]; simp [storeResult, markTaken]), runner, dosing, lines, event_latches quiet, effect]
  simp [storeResult, markTaken]

@[simp] theorem planUnderWay_markTaken (dt : Nat) (s : State) : planUnderWay (markTaken (advance dt s)) = planUnderWay s := rfl

/-! ### STOP -/

/-- R71: with no order left the entry to a governor state keeps it so. -/
theorem enterState_queue {st : GovState} {mv : Move} {target : Nat} {band : Option (Fin 6)} {s : State}
    (empty : s.dosing.queue = []) : (enterState st mv target band s).dosing.queue = [] := by
  have checked {u : State} (h : u.dosing.queue = []) : (passCheck u).dosing.queue = [] := by
    obtain ⟨-, same⟩ | closed := passCheck_cases u
    · rw [same, h]
    · rw [closed]
      exact closeProRata_queue_nil h
  obtain ⟨g, entered, -⟩ := enterState_eq st mv target band s
  rw [entered]
  split
  · exact checked (by simpa using empty)
  · exact empty

/-- R83: the governor's part of STOP, for a governor that rests or has a step. -/
theorem stopGovernor_stops {s : State} (rest : RestOk s) (empty : s.dosing.queue = []) :
    (stopGovernor s).gov.state = (if s.gov.state = .idle then .idle else if s.gov.state = .trip then .trip else .stopping) ∧
      (stopGovernor s).gov.target = 0 ∧ (stopGovernor s).gov.step = none ∧ (stopGovernor s).dosing.queue = [] ∧
      RunnerKept s (stopGovernor s) := by
  unfold stopGovernor
  split
  · rename_i down
    have rests : s.gov.state.rests = true := by obtain h | h | h := down <;> rw [h] <;> rfl
    obtain ⟨target, step⟩ := rest rests
    refine ⟨?_, target, step, empty, .of_eq rfl⟩
    obtain h | h | h := down <;> simp [h]
  · rename_i up
    rw [not_or, not_or] at up
    obtain ⟨idle, stopping, trip⟩ := up
    obtain ⟨state, target, step⟩ := enterStopping_stopped s
    refine ⟨?_, target, step, ?_, (leaveStep_runner s).trans (enterStopping_runner _)⟩
    · rw [if_neg idle, if_neg trip, state]
    · exact enterState_queue (leaveStep_queue (by simpa using empty))

/-- STOP in a plan that is under way. -/
theorem stopPlan_ends {s : State} (rest : RestOk s) (underWay : planUnderWay s = true) :
    (stopPlan s).result = .taken ∧
      (stopPlan s).state.gov.state =
        (if s.gov.state = .idle then .idle else if s.gov.state = .trip then .trip else .stopping) ∧
      (stopPlan s).state.gov.target = 0 ∧ (stopPlan s).state.gov.step = none ∧ (stopPlan s).state.dosing.queue = [] ∧
      (stopPlan s).state.runner.state = .aborted ∧ (stopPlan s).state.runner.endReason = .stopped := by
  obtain ⟨aborted, reason, empty, gov⟩ := abortPlan_ends .stopped s
  obtain ⟨state, target, step, queue, runner⟩ :=
    stopGovernor_stops (rest.of_gov (by rw [gov]) (by rw [gov]) (by rw [gov])) empty
  have taken : stopPlan s = Machine.taken (stopGovernor (abortPlan .stopped s)) := if_pos underWay
  rw [taken]
  refine ⟨rfl, ?_, target, step, queue, runner.1.trans aborted, runner.2.2.2.1.trans reason⟩
  rw [gov] at state
  exact state

theorem stopPlan_refused {s : State} (none : planUnderWay s = false) : stopPlan s = refusedWith .refusedState s :=
  if_neg (Bool.eq_false_iff.1 none)

theorem stopPlan_keeps_records (s : State) : (stopPlan s).state.cmd = s.cmd ∧ (stopPlan s).state.hand = s.hand := by
  unfold stopPlan stopGovernor
  split
  · dsimp only [taken]
    split <;> simp
  · exact ⟨rfl, rfl⟩

/-! ### HALT -/

theorem Tripped.stored {k : FaultKind} {underWay : Bool} {s : State} (h : Tripped k underWay s) (r : CmdResult) (mask : Byte) :
    Tripped k underWay (storeResult r mask s) where
  state := by simpa using h.state
  target := by simpa using h.target
  step := by simpa using h.step
  queue := by simpa using h.queue
  latched := (isLatched_congr _ (by simp) k).trans h.latched
  ended under := by simpa using h.ended under

/-- R72: in IDLE and in TRIP a fault is latched, and the governor, the runner and the estimator stay. -/
theorem detect_rests {s : State} (k : FaultKind) (rest : s.gov.state = .idle ∨ s.gov.state = .trip) :
    (detect k s).gov = s.gov ∧ (detect k s).runner = s.runner ∧ (detect k s).est = s.est ∧ isLatched (detect k s) k = true := by
  have latched := isLatched_raiseFault s k
  unfold detect
  obtain idle | trip := rest
  · rw [idle]
    exact ⟨by simp, by simp, by simp, latched⟩
  · rw [trip]
    refine ⟨by simp [logTrip], by simp [logTrip], by simp [logTrip], ?_⟩
    exact (isLatched_congr _ (by simp [logTrip]) k).trans latched

/-- HALT outside IDLE and TRIP. -/
theorem haltNow_trips {s : State} (idle : s.gov.state ≠ .idle) (trip : s.gov.state ≠ .trip) :
    Tripped .halt (planUnderWay s) (haltNow s).state := detect_trips .halt idle trip

/-- Settles O53. -/
theorem stopAndHaltEndPlan : Obligations.StopAndHaltEndPlan := by
  intro dt s handed owed law
  have rest : RestOk (markTaken (advance dt s)) := (restLaw_iff s).1 law
  refine ⟨fun code => ?_, fun code => ?_⟩
  · have stop : (s.cmd.image[1] == 0x02) = true := beq_iff_eq.2 code
    have effect := takeUp_eq (codes := fun c => c == 0x02) (body := stopPlan) handed stop dt
    obtain ⟨cmd, command⟩ := event_takeUp (codes := fun c => c == 0x02) (body := stopPlan) (dt := dt) handed stop
      (fun u => (stopPlan_keeps_records u).1) (fun u => (stopPlan_keeps_records u).2)
    refine ⟨event (takeUp (fun c => c == 0x02) stopPlan) dt s, rfl, by rw [cmd], command, fun under => ?_, fun running waits => ?_⟩
    · obtain ⟨result, state, target, step, queue, aborted, reason⟩ := stopPlan_ends rest (planUnderWay_iff.2 under)
      obtain ⟨-, gov, runner, dosing, -⟩ := storeResult_blocks (stopPlan (markTaken (advance dt s))).result
        (stopPlan (markTaken (advance dt s))).mask (stopPlan (markTaken (advance dt s))).state
      rw [← effect] at gov runner dosing
      have down : atRestOrRunningDown (takeUp (fun c => c == 0x02) stopPlan (advance dt s)) := by
        rw [atRestOrRunningDown, gov, step, state]
        refine ⟨?_, rfl⟩
        split
        · exact .inl rfl
        · split
          · exact .inr (.inr rfl)
          · exact .inr (.inl rfl)
      obtain ⟨state', step', target', runner', dosing', -⟩ := event_rest down
      rw [cmd, state', step', target', runner', dosing', gov, runner, dosing]
      exact ⟨result, aborted, reason, queue, step, target, state⟩
    · have idle : planUnderWay (markTaken (advance dt s)) = false := by
        rw [planUnderWay_markTaken, Bool.eq_false_iff, ne_eq, planUnderWay_iff]
        rintro (h | h)
        · exact running h
        · exact waits h
      rw [stopPlan_refused idle] at effect cmd
      obtain ⟨gov, runner, dosing, -⟩ := event_refused owed effect
      rw [cmd]
      exact ⟨rfl, gov, runner, dosing⟩
  · have halt : (s.cmd.image[1] == 0x03) = true := beq_iff_eq.2 code
    have effect := takeUp_eq (codes := fun c => c == 0x03) (body := haltNow) handed halt dt
    obtain ⟨cmd, command⟩ := event_takeUp (codes := fun c => c == 0x03) (body := haltNow) (dt := dt) handed halt
      (fun u => by simp [haltNow, taken]) (fun u => by simp [haltNow, taken])
    have trips (idle : s.gov.state ≠ .idle) (trip : s.gov.state ≠ .trip) :
        Tripped .halt (planUnderWay s) (event (takeUp (fun c => c == 0x03) haltNow) dt s) := by
      refine .event ?_
      rw [effect]
      exact (haltNow_trips (s := markTaken (advance dt s)) idle trip).stored _ _
    have rests (still : s.gov.state = .idle ∨ s.gov.state = .trip) :
        (event (takeUp (fun c => c == 0x03) haltNow) dt s).gov = s.gov ∧
          (event (takeUp (fun c => c == 0x03) haltNow) dt s).runner = s.runner ∧
          isLatched (event (takeUp (fun c => c == 0x03) haltNow) dt s) .halt = true := by
      obtain ⟨gov, runner, est, latched⟩ := detect_rests (s := markTaken (advance dt s)) .halt still
      have own : takeUp (fun c => c == 0x03) haltNow (advance dt s) =
          storeResult .taken 0 (detect .halt (markTaken (advance dt s))) := effect
      obtain ⟨est', gov', runner', -, -, latches⟩ := storeResult_blocks .taken 0 (detect .halt (markTaken (advance dt s)))
      rw [← own] at est' gov' runner' latches
      have quiet : (takeUp (fun c => c == 0x03) haltNow (advance dt s)).est.owed = false := by
        rw [est', est]
        exact owed
      refine ⟨event_gov quiet (gov'.trans gov), ?_, isLatched_event ((isLatched_congr _ latches _).trans latched)⟩
      rw [(event_machine quiet).2.1, runner', runner]
      rfl
    refine ⟨event (takeUp (fun c => c == 0x03) haltNow) dt s, rfl, by rw [cmd], command, by rw [cmd]; rfl, ?_, fun still => ?_,
      fun idle trip => ?_⟩
    · by_cases still : s.gov.state = .idle ∨ s.gov.state = .trip
      · exact (rests still).2.2
      · rw [not_or] at still
        exact (trips still.1 still.2).latched
    · exact ⟨(rests still).1, (rests still).2.1⟩
    · have tripped := trips idle trip
      exact ⟨tripped.state, tripped.target, tripped.step, tripped.queue, fun under => tripped.ended (planUnderWay_iff.2 under)⟩

end Sys2Proof.Machine

/-! START_PLAN and RESUME enter a step (R63, R71, R78, R82). -/

namespace Sys2Proof.Machine

open Sys2Proof.Safety Sys2Proof.Statement

/-! ### Out of IDLE -/

theorem enterState_run (st : GovState) (mv : Move) (target : Nat) (band : Option (Fin 6)) (s : State) :
    (enterState st mv target band s).gov.run = s.gov.run := by
  unfold enterState
  dsimp only
  (repeat' split) <;> simp [refreshRamp, withTarget]

@[simp] theorem askLock_recorded (level : Bool) (s : State) : (askLock level s).lines.askLock = some level := by
  unfold askLock
  dsimp only
  split <;> rfl

/-- R61: the governor that leaves IDLE asks for LOCK_REQ high. -/
theorem enterState_locks {st : GovState} (mv : Move) (target : Nat) (band : Option (Fin 6)) {s : State} (idle : s.gov.state = .idle)
    (busy : st ≠ .idle) (none : s.dosing.pass = none) : (enterState st mv target band s).lines.askLock = some true := by
  obtain ⟨g, entered, -⟩ := enterState_eq st mv target band s
  rw [entered, idle, if_pos busy, passCheck_of_none (by simpa using none), lockFollows, if_neg busy, if_pos rfl]
  exact askLock_recorded _ _

/-- The governor goes on from a state to another one that is not IDLE, with its run as it was and LOCK_REQ asked high. -/
def LeavesIdle (s t : State) : Prop := t.gov.run = s.gov.run ∧ t.lines.askLock = some true

section
variable {s : State} (idle : s.gov.state = .idle) (none : s.dosing.pass = none)
include idle none

theorem LeavesIdle.enterState {st : GovState} (mv : Move) (target : Nat) (band : Option (Fin 6)) (busy : st ≠ .idle) :
    LeavesIdle s (enterState st mv target band s) :=
  ⟨enterState_run st mv target band s, enterState_locks mv target band idle busy none⟩

theorem LeavesIdle.climb : LeavesIdle s (climb s) := by
  unfold Machine.climb enterCross enterRetreat
  split
  · exact .enterState idle none _ _ _ (by decide)
  · split
    · exact .enterState idle none _ _ _ (by decide)
    · split
      · exact .enterState idle none _ _ _ (by decide)
      · exact .enterState idle none _ _ _ (by decide)

theorem LeavesIdle.enterHold : LeavesIdle s (enterHold s) := by
  unfold Machine.enterHold
  extract_lets st t held
  have busy : st ≠ .idle := by
    unfold st
    split <;> decide
  have entered : LeavesIdle s t := .enterState idle none _ _ _ busy
  split
  · exact entered
  · exact entered

theorem LeavesIdle.aimAtStep (p : PlanStep) : LeavesIdle s (aimAtStep p s) := by
  unfold Machine.aimAtStep
  dsimp only
  split
  · exact LeavesIdle.enterHold idle none
  · split
    · exact .climb idle none
    · exact .enterState idle none _ _ _ (by decide)

end

/-! ### The entry to a step from IDLE -/

/-- R74, R75: the tests at the beginning of a run find nothing. -/
theorem runBeginTests_pass {s : State} (running : s.tel.running = true) (drive : ∀ r, s.tel.adopted = some r → r.drive ≠ .fault)
    (knock : s.lines.knock.some = false) : runBeginTests s = s := by
  have sound : s.tel.adopted.any (fun r => r.drive = .fault) = false := by
    cases adopted : s.tel.adopted with
    | none => rfl
    | some r => simpa using drive r adopted
  simp [runBeginTests, running, sound, knock]

/-- R63, R71: the state in which the speed is compared with e at the entry to step `i` from IDLE. -/
def stepBegun (i : Nat) (p : PlanStep) (s : State) : State :=
  setCeiling (beginRun ((s.setRunner { s.runner with stepIndex := i }).setGov { noStep s.gov with step := some p }))

theorem stepEntry_begins {i : Nat} {p : PlanStep} {s : State} (plan : s.runner.plan.steps[i]? = some p)
    (idle : s.gov.state = .idle) (step : s.gov.step = none) :
    stepEntry i s = runBeginTests (aimAtStep p (stepBegun i p s)) := by
  unfold stepEntry
  rw [plan]
  simp only [idle, step, Option.isSome_none, Bool.false_eq_true, if_false, if_true]
  rfl

theorem knock_of_judged {a b : Lines} (h : a.judged = b.judged) : a.knock = b.knock := congrArg (·.2.2.2) h

theorem stepEntry_fromIdle {i : Nat} {p : PlanStep} {s : State} (plan : s.runner.plan.steps[i]? = some p)
    (idle : s.gov.state = .idle) (step : s.gov.step = none) (none : s.dosing.pass = Option.none) (running : s.tel.running = true)
    (drive : ∀ r, s.tel.adopted = some r → r.drive ≠ .fault) (knock : s.lines.knock.some = false) :
    (stepEntry i s).gov.step = some p ∧ (stepEntry i s).gov.run = true ∧ (stepEntry i s).gov.state ≠ .idle ∧
      (stepEntry i s).lines.askLock = some true ∧ (stepEntry i s).est = s.est ∧
      (stepEntry i s).runner = { s.runner with stepIndex := i } := by
  have tel : (aimAtStep p (stepBegun i p s)).tel = s.tel := by simp [stepBegun, setCeiling, beginRun]
  have lines : (aimAtStep p (stepBegun i p s)).lines.judged = s.lines.judged :=
    (judged_keepsUpdates _).aimAtStep p rfl
  have passes : runBeginTests (aimAtStep p (stepBegun i p s)) = aimAtStep p (stepBegun i p s) :=
    runBeginTests_pass (by rw [tel]; exact running) (by rw [tel]; exact drive) (by rw [knock_of_judged lines]; exact knock)
  obtain ⟨taken, -, -, -, -, est, runner⟩ := StepFresh.aimAtStep p (s := stepBegun i p s) none
  obtain ⟨run, lock⟩ := LeavesIdle.aimAtStep (s := stepBegun i p s) idle none p
  have busy : (aimAtStep p (stepBegun i p s)).gov.state ≠ .idle := by
    have up := aimAtStep_busy (stepBegun i p s) p
    intro rest
    rw [rest] at up
    cases up
  rw [stepEntry_begins plan idle step, passes]
  exact ⟨taken, run, busy, lock, est, runner⟩

/-- An event that takes a command which enters a step, with no update owed. -/
theorem event_entersStep {f : State → State} {dt i : Nat} {p : PlanStep} {s u : State}
    (effect : f (advance dt s) = storeResult .taken 0 (stepEntry i u)) (owed : u.est.owed = false)
    (plan : u.runner.plan.steps[i]? = some p) (idle : u.gov.state = .idle) (step : u.gov.step = none)
    (none : u.dosing.pass = Option.none) (running : u.tel.running = true)
    (drive : ∀ r, u.tel.adopted = some r → r.drive ≠ .fault) (knock : u.lines.knock.some = false) :
    (event f dt s).runner = { u.runner with stepIndex := i } ∧ (event f dt s).gov.step = some p ∧
      (event f dt s).gov.run = true ∧ (event f dt s).gov.state ≠ .idle ∧ (event f dt s).lines.askLock = some true := by
  obtain ⟨taken, run, busy, lock, est, runner⟩ := stepEntry_fromIdle plan idle step none running drive knock
  obtain ⟨est', gov', runner', -, lines', -⟩ := storeResult_blocks .taken 0 (stepEntry i u)
  rw [← effect] at est' gov' runner' lines'
  have quiet : (f (advance dt s)).est.owed = false := by rw [est', est, owed]
  obtain ⟨-, runnerKept, -, linesKept⟩ := event_machine quiet
  rw [runnerKept, linesKept, runner', lines', event_of_not_owed quiet]
  simp only [settle_frame, stamp_gov_fields, gov']
  exact ⟨runner, taken, run, busy, lock⟩

/-! ### The two commands -/

theorem mayStart_iff {s : State} : mayStart s = true ↔
    s.gov.state = .idle ∧ s.runner.state ≠ .running ∧ s.runner.state ≠ .waitResume ∧ s.pages.valid = true ∧
      tripLatched s = false ∧ s.lines.spinPermit.all = true ∧ s.settings.restricted = false ∧ s.pages.swap = none := by
  simp only [mayStart, planUnderWay, swapBusy, Bool.and_eq_true, Bool.not_eq_true', Bool.or_eq_false_iff, beq_iff_eq,
    beq_eq_false_iff_ne, Option.isSome_eq_false_iff, Option.isNone_iff_eq_none, and_assoc, ne_eq]

theorem mayResume_iff {s : State} : mayResume s = true ↔
    s.runner.state = .waitResume ∧ s.gov.state = .idle ∧ tripLatched s = false ∧ s.lines.spinPermit.all = true ∧
      s.pages.swap = none := by
  simp only [mayResume, swapBusy, Bool.and_eq_true, Bool.not_eq_true', beq_iff_eq, Option.isSome_eq_false_iff,
    Option.isNone_iff_eq_none, and_assoc]

theorem startPlan_records (u : State) :
    (startPlan u).state.cmd = u.cmd ∧ (startPlan u).state.hand = u.hand ∧ (startPlan u).mask = 0 := by
  unfold startPlan
  split <;> simp [taken, refusedWith]

theorem resumePlan_records (u : State) :
    (resumePlan u).state.cmd = u.cmd ∧ (resumePlan u).state.hand = u.hand ∧ (resumePlan u).mask = 0 := by
  unfold resumePlan
  split <;> simp [taken, refusedWith]

/-- R78: the runner at the start of the plan, before its first step. -/
def planBegun (s : State) : State :=
  setRunnerState .running (s.setRunner { s.runner with stepIndex := 0, retries := 0, doseUsed := 0, endReason := .none })

theorem startPlan_taken {s : State} (may : mayStart s = true) : startPlan s = taken (stepEntry 0 (planBegun s)) := if_pos may

theorem startPlan_refused {s : State} (may : ¬mayStart s = true) : startPlan s = refusedWith .refusedState s := if_neg may

theorem resumePlan_taken {s : State} (may : mayResume s = true) :
    resumePlan s = taken (stepEntry s.runner.plan.retryTarget (setRunnerState .running s)) := if_pos may

theorem resumePlan_refused {s : State} (may : ¬mayResume s = true) : resumePlan s = refusedWith .refusedState s := if_neg may

/-- Before its first step a started or resumed plan has changed the runner only. -/
theorem setRunnerState_blocks (st : RunnerState) (s : State) :
    (setRunnerState st s).est = s.est ∧ (setRunnerState st s).gov = s.gov ∧ (setRunnerState st s).dosing = s.dosing ∧
      (setRunnerState st s).tel = s.tel ∧ (setRunnerState st s).lines = s.lines ∧
      (setRunnerState st s).runner = { s.runner with state := st } := by simp [setRunnerState]

/-- Settles O52. -/
theorem startAndResumeEnterStep : Obligations.StartAndResumeEnterStep := by
  intro dt s handed owed law noPass
  have rest (idle : s.gov.state = .idle) : s.gov.step = none := ((restLaw_iff s).1 law (by rw [idle]; rfl)).2
  refine ⟨fun code => ?_, fun code => ?_⟩
  · have start : (s.cmd.image[1] == 0x01) = true := beq_iff_eq.2 code
    have effect := takeUp_eq (codes := fun c => c == 0x01) (body := startPlan) handed start dt
    obtain ⟨cmd, command⟩ := event_takeUp (codes := fun c => c == 0x01) (body := startPlan) (dt := dt) handed start
      (fun u => (startPlan_records u).1) (fun u => (startPlan_records u).2.1)
    refine ⟨event (takeUp (fun c => c == 0x01) startPlan) dt s, rfl, by rw [cmd], command, ?_, fun may => ?_, fun may => ?_⟩
    · rw [cmd]
      exact (startPlan_records _).2.2
    · have taken := startPlan_taken (s := markTaken (advance dt s)) (mayStart_iff.2 may)
      rw [taken] at cmd effect
      refine ⟨by rw [cmd]; rfl, fun p plan running drive knock => ?_⟩
      obtain ⟨est, gov, dosing, tel, lines, runner⟩ := setRunnerState_blocks .running ((markTaken (advance dt s)).setRunner
        { (markTaken (advance dt s)).runner with stepIndex := 0, retries := 0, doseUsed := 0, endReason := .none })
      obtain ⟨runner', entered⟩ := event_entersStep (u := planBegun (markTaken (advance dt s))) effect
        (by rw [planBegun, est]; exact owed) (by rw [planBegun, runner]; exact plan) (by rw [planBegun, gov]; exact may.1)
        (by rw [planBegun, gov]; exact rest may.1) (by rw [planBegun, dosing]; exact noPass)
        (by rw [planBegun, tel]; exact running) (by rw [planBegun, tel]; exact drive) (by rw [planBegun, lines]; exact knock)
      rw [runner', planBegun, runner]
      exact ⟨rfl, rfl, rfl, rfl, rfl, entered⟩
    · have refused := startPlan_refused (s := markTaken (advance dt s)) (mt mayStart_iff.1 may)
      rw [refused] at cmd effect
      obtain ⟨gov, runner, -⟩ := event_refused owed effect
      exact ⟨by rw [cmd]; rfl, gov, runner⟩
  · have resume : (s.cmd.image[1] == 0x04) = true := beq_iff_eq.2 code
    have effect := takeUp_eq (codes := fun c => c == 0x04) (body := resumePlan) handed resume dt
    obtain ⟨cmd, command⟩ := event_takeUp (codes := fun c => c == 0x04) (body := resumePlan) (dt := dt) handed resume
      (fun u => (resumePlan_records u).1) (fun u => (resumePlan_records u).2.1)
    refine ⟨event (takeUp (fun c => c == 0x04) resumePlan) dt s, rfl, by rw [cmd], command, ?_, fun may => ?_, fun may => ?_⟩
    · rw [cmd]
      exact (resumePlan_records _).2.2
    · have taken := resumePlan_taken (s := markTaken (advance dt s)) (mayResume_iff.2 may)
      rw [taken] at cmd effect
      refine ⟨by rw [cmd]; rfl, fun p plan running drive knock => ?_⟩
      obtain ⟨est, gov, dosing, tel, lines, runner⟩ := setRunnerState_blocks .running (markTaken (advance dt s))
      obtain ⟨runner', entered⟩ := event_entersStep effect (by rw [est]; exact owed) (by rw [runner]; exact plan)
        (by rw [gov]; exact may.2.1) (by rw [gov]; exact rest may.2.1) (by rw [dosing]; exact noPass)
        (by rw [tel]; exact running) (by rw [tel]; exact drive) (by rw [lines]; exact knock)
      rw [runner', runner]
      exact ⟨rfl, rfl, rfl, entered⟩
    · have refused := resumePlan_refused (s := markTaken (advance dt s)) (mt mayResume_iff.1 may)
      rw [refused] at cmd effect
      obtain ⟨gov, runner, -⟩ := event_refused owed effect
      exact ⟨by rw [cmd]; rfl, gov, runner⟩

end Sys2Proof.Machine

/-! DOSE and DOSE_CANCEL (R91, R96, R97). -/

namespace Sys2Proof.Machine

open Sys2Proof.Safety Sys2Proof.Statement

/-! ### The arguments of a command -/

theorem argWord_eq (v : Vector Byte 16) {i : Nat} (h : i + 1 < 16) :
    argWord v i = v[i].toNat + 256 * v[i + 1].toNat := by
  have at' (j : Nat) (hj : j < 16) : byteAt v.toList j = v[j].toNat := by
    unfold byteAt
    rw [List.getD_eq_getElem?_getD, List.getElem?_eq_getElem (by simpa using hj)]
    simp
  rw [argWord, wordAt, at' i (by omega), at' (i + 1) h]

/-- R96: chamber and volume within their limits. -/
theorem doseFits_iff {k volume : Nat} {s : State} (h : k < 4) :
    doseFits k volume s = true ↔ 1 ≤ volume ∧ volume ≤ remainingCapacity s ⟨k, h⟩ ∧ volume ≤ remainingBudget s := by
  simp [doseFits, h, and_assoc]

theorem doseFits_chamber {k volume : Nat} {s : State} (h : 4 ≤ k) : doseFits k volume s = false := by
  simp [doseFits, Nat.not_lt.2 h]

/-! ### The queue after an order has joined -/

/-- R91: the order that a command adds. -/
def commandOrder (number : Word16) (k : Fin 4) (volume : Nat) (first : Bool) : DoseOrder where
  number := number
  origin := .command
  chamber := k
  ordered := volume
  injected := 0
  capLimited := false
  settle := 0
  state := if first then .injecting else .queued

theorem addOrder_joins {s : State} (law : queueLaw s = true) (k : Fin 4) (volume : Nat) :
    (addOrder .command k volume false s).dosing.queue =
      s.dosing.queue ++ [commandOrder s.dosing.nextNumber k volume s.dosing.queue.isEmpty] := by
  unfold queueLaw at law
  cases queue : s.dosing.queue with
  | nil => simp [addOrder, queue, commandOrder, DoseOrder.promoted]
  | cons o rest =>
    rw [queue] at law
    simp only [Bool.and_eq_true, bne_iff_ne, ne_eq] at law
    obtain ⟨-, head, -⟩ := law
    simp [addOrder, queue, commandOrder, DoseOrder.promoted, head]

@[simp] theorem addOrder_number (origin : Origin) (c : Fin 4) (volume : Nat) (capLimited : Bool) (s : State) :
    (addOrder origin c volume capLimited s).dosing.nextNumber = s.dosing.nextNumber + 1 := by
  unfold addOrder promote
  (repeat' split) <;> simp

/-! ### DOSE -/

section
variable {s : State}

theorem doseNow_unfit (may : mayDose s = false) : doseNow s = refusedWith .refusedState s := by simp [doseNow, may]

theorem doseNow_refused (may : mayDose s = true) (fits : doseFits s.cmd.image[2].toNat (argWord s.cmd.image 3) s = false) :
    doseNow s = refusedWith .refusedArgument s := by simp [doseNow, may, fits]

theorem doseNow_taken (may : mayDose s = true) (fits : doseFits s.cmd.image[2].toNat (argWord s.cmd.image 3) s = true) :
    doseNow s = taken (addOrder .command (Fin.ofNat 4 s.cmd.image[2].toNat) (argWord s.cmd.image 3) false s) := by
  simp [doseNow, may, fits]

/-- R96: DOSE changes the dosing unit at most. -/
theorem doseNow_blocks :
    (doseNow s).state.cmd = s.cmd ∧ (doseNow s).state.hand = s.hand ∧ (doseNow s).state.est = s.est ∧
      (doseNow s).state.gov = s.gov ∧ (doseNow s).state.runner = s.runner ∧
      (doseNow s).state.dosing.accounts = s.dosing.accounts := by
  unfold doseNow
  dsimp only
  (repeat' split) <;> simp [taken, refusedWith]

end

/-! ### DOSE_CANCEL -/

theorem noPass_keepsUpdates : KeepsUpdates fun s => s.dosing.pass = none where
  light same h := by rwa [same.2.1]
  askLock level h := by simpa using h
  passCheck h := by rwa [passCheck_of_none h]
  cutQueue cause h := by
    unfold Machine.cutQueue
    split
    · exact h
    · simp
  addOrder origin c volume capLimited h := by simpa using h

/-- R104: a cut of a queue that obeys the law of the orders leaves no pass in progress. -/
theorem cutQueue_noPass {s : State} (cause : CutCause) (law : orderLaw s = true) : (cutQueue cause s).dosing.pass = none := by
  by_cases empty : s.dosing.queue = []
  · rw [cutQueue_nil cause empty]
    unfold orderLaw at law
    cases pass : s.dosing.pass with
    | none => rfl
    | some p => simp [pass, empty] at law
  · exact (cutQueue_cons cause empty).2.1

/-- R104: with no pass in progress a cut ends the orders and leaves the rest of the machine. -/
theorem cutQueue_idle {s : State} (cause : CutCause) (none : s.dosing.pass = none) :
    (cutQueue cause s).est = s.est ∧ (cutQueue cause s).gov = s.gov ∧ (cutQueue cause s).runner = s.runner ∧
      (cutQueue cause s).dosing.accounts = s.dosing.accounts := by
  unfold cutQueue
  rw [closeProRata_of_none none]
  split
  · exact ⟨rfl, rfl, rfl, rfl⟩
  · simp

/-- Settles O54. -/
theorem doseAndCancelCommands : Obligations.DoseAndCancelCommands := by
  intro dt s handed owed queueOk orderOk
  refine ⟨fun code => ?_, fun code => ?_, fun code none => ?_⟩
  · have dose : (s.cmd.image[1] == 0x05) = true := beq_iff_eq.2 code
    have effect := takeUp_eq (codes := fun c => c == 0x05) (body := doseNow) handed dose dt
    obtain ⟨cmd, command⟩ := event_takeUp (codes := fun c => c == 0x05) (body := doseNow) (dt := dt) handed dose
      (fun u => doseNow_blocks.1) (fun u => doseNow_blocks.2.1)
    obtain ⟨-, -, est, gov, runner, accounts⟩ := doseNow_blocks (s := markTaken (advance dt s))
    obtain ⟨est', gov', runner', dosing', -⟩ := storeResult_blocks (doseNow (markTaken (advance dt s))).result
      (doseNow (markTaken (advance dt s))).mask (doseNow (markTaken (advance dt s))).state
    rw [← effect] at est' gov' runner' dosing'
    have quiet : (takeUp (fun c => c == 0x05) doseNow (advance dt s)).est.owed = false := by
      rw [est', est]
      exact owed
    obtain ⟨-, runnerKept, dosingKept, -⟩ := event_machine quiet
    have word : argWord s.cmd.image 3 = s.cmd.image[3].toNat + 256 * s.cmd.image[4].toNat := argWord_eq _ (by decide)
    refine ⟨event (takeUp (fun c => c == 0x05) doseNow) dt s, rfl, by rw [cmd], command, event_gov quiet (gov'.trans gov),
      by rw [runnerKept, runner', runner]; rfl, by rw [dosingKept, dosing', accounts]; rfl, fun may chamber => ?_,
      fun may chamber => ?_, fun may => ?_⟩
    · rw [cmd, dosingKept, dosing']
      dsimp only
      refine ⟨fun limits => ?_, fun beyond => ?_⟩
      · have fits : doseFits s.cmd.image[2].toNat (argWord s.cmd.image 3) s = true := by
          rw [word]
          exact (doseFits_iff chamber).2 limits
        have taken := doseNow_taken (s := markTaken (advance dt s)) may fits
        have which : Fin.ofNat 4 s.cmd.image[2].toNat = ⟨s.cmd.image[2].toNat, chamber⟩ :=
          Fin.ext (Nat.mod_eq_of_lt chamber)
        rw [taken]
        refine ⟨rfl, addOrder_number _ _ _ _ _, ?_⟩
        have joins := addOrder_joins (s := markTaken (advance dt s)) queueOk (Fin.ofNat 4 s.cmd.image[2].toNat)
          (argWord s.cmd.image 3)
        rw [which, word] at joins
        refine (congr (congrArg (fun k v => (addOrder .command k v false (markTaken (advance dt s))).dosing.queue) which) word).trans
          (joins.trans ?_)
        have state : commandOrder s.dosing.nextNumber ⟨s.cmd.image[2].toNat, chamber⟩
            (s.cmd.image[3].toNat + 256 * s.cmd.image[4].toNat) s.dosing.queue.isEmpty =
              { number := s.dosing.nextNumber, origin := .command, chamber := ⟨s.cmd.image[2].toNat, chamber⟩,
                ordered := s.cmd.image[3].toNat + 256 * s.cmd.image[4].toNat, injected := 0, capLimited := false, settle := 0,
                state := if s.dosing.queue = [] then .injecting else .queued } := by
          simp [commandOrder]
        exact congrArg (fun o => s.dosing.queue ++ [o]) state
      · have unfit : doseFits s.cmd.image[2].toNat (argWord s.cmd.image 3) s = false := by
          rw [word, Bool.eq_false_iff, ne_eq, doseFits_iff chamber]
          exact beyond
        rw [doseNow_refused (s := markTaken (advance dt s)) may unfit]
        exact ⟨rfl, rfl⟩
    · rw [cmd, dosingKept, dosing', doseNow_refused (s := markTaken (advance dt s)) may (doseFits_chamber chamber)]
      exact ⟨rfl, rfl⟩
    · rw [cmd, dosingKept, dosing', doseNow_unfit (s := markTaken (advance dt s)) may]
      exact ⟨rfl, rfl⟩
  · have cancel : (s.cmd.image[1] == 0x06) = true := beq_iff_eq.2 code
    have effect := takeUp_eq (codes := fun c => c == 0x06) (body := cancelDoses) handed cancel dt
    obtain ⟨cmd, command⟩ := event_takeUp (codes := fun c => c == 0x06) (body := cancelDoses) (dt := dt) handed cancel
      (fun u => by simp [cancelDoses, taken]) (fun u => by simp [cancelDoses, taken])
    refine ⟨event (takeUp (fun c => c == 0x06) cancelDoses) dt s, rfl, by rw [cmd], command, by rw [cmd]; rfl,
      noPass_keepsUpdates.event ?_⟩
    rw [effect, (storeResult_blocks _ _ _).2.2.2.1]
    exact cutQueue_noPass .cancel (s := markTaken (advance dt s)) orderOk
  · have cancel : (s.cmd.image[1] == 0x06) = true := beq_iff_eq.2 code
    have effect := takeUp_eq (codes := fun c => c == 0x06) (body := cancelDoses) handed cancel dt
    obtain ⟨est, gov, runner, accounts⟩ := cutQueue_idle (s := markTaken (advance dt s)) .cancel none
    obtain ⟨est', gov', runner', dosing', -⟩ := storeResult_blocks .taken 0 (cutQueue .cancel (markTaken (advance dt s)))
    rw [show storeResult .taken 0 (cutQueue .cancel (markTaken (advance dt s))) =
      takeUp (fun c => c == 0x06) cancelDoses (advance dt s) from effect.symm] at est' gov' runner' dosing'
    have quiet : (takeUp (fun c => c == 0x06) cancelDoses (advance dt s)).est.owed = false := by
      rw [est', est]
      exact owed
    obtain ⟨-, runnerKept, dosingKept, -⟩ := event_machine quiet
    refine ⟨event (takeUp (fun c => c == 0x06) cancelDoses) dt s, rfl, ?_, event_gov quiet (gov'.trans gov),
      by rw [runnerKept, runner', runner]; rfl, by rw [dosingKept, dosing', accounts]; rfl, fun empty => ?_⟩
    · rw [dosingKept, dosing', cutQueue_queue]
    · rw [dosingKept, dosing', cutQueue_nil (s := markTaken (advance dt s)) .cancel empty]
      rfl

end Sys2Proof.Machine

/-! LINES (R113, R114). -/

namespace Sys2Proof.Machine

open Sys2Proof.Safety Sys2Proof.Statement

/-! ### The refused mask -/

theorem bit_getLsbD : ∀ n k : Fin 8, (1#8 <<< n.val).getLsbD k = decide (n = k) := by decide

/-- A mask built bit by bit has the bits of the lines that a test picks. -/
theorem foldl_bits (test : Fin 8 → Bool) (l : List (Fin 8)) (m : Byte) (k : Fin 8) :
    (l.foldl (fun (m : Byte) (n : Fin 8) => if test n then m ||| (1#8 <<< n.val) else m) m).getLsbD k =
      (m.getLsbD k || (decide (k ∈ l) && test k)) := by
  induction l generalizing m with
  | nil => simp
  | cons n l ih =>
    rw [List.foldl_cons, ih]
    by_cases here : n = k
    · subst here
      cases test n with
      | false => simp
      | true => simp
    · have bit : (if test n then m ||| (1#8 <<< n.val) else m).getLsbD k = m.getLsbD k := by
        split
        · rw [BitVec.getLsbD_or, bit_getLsbD, decide_eq_false here, Bool.or_false]
        · rfl
      rw [bit]
      simp [Ne.symm here]

theorem refusedLines_getLsbD (s : State) (mode data : Byte) (n : Fin 8) :
    (refusedLines s mode data).getLsbD n =
      ((lineAction (mode.getLsbD n) (data.getLsbD n) s.lines.line[n].latch).isSome && !controllerOwned s n) := by
  unfold refusedLines
  rw [foldl_bits fun n => (lineAction (mode.getLsbD n) (data.getLsbD n) s.lines.line[n].latch).isSome && !controllerOwned s n]
  simp

/-! ### The lines after the command -/

theorem lineAction_isSome (mode data latch : Bool) : (lineAction mode data latch).isSome = true ↔ ¬(mode = true ∧ data = false) := by
  cases mode <;> cases data <;> simp [lineAction]

theorem lineAction_level (mode data latch : Bool) :
    (lineAction mode data latch).getD latch = if mode then (if data then !latch else latch) else data := by
  cases mode <;> cases data <;> rfl

theorem controllerOwned_iff {s : State} {n : Fin 8} : controllerOwned s n = true ↔ 2 ≤ n.val ∧ s.lines.line[n].output = true := by
  simp [controllerOwned]

theorem controllerOwned_eq_false_iff {s : State} {n : Fin 8} :
    controllerOwned s n = false ↔ ¬(2 ≤ n.val ∧ s.lines.line[n].output = true) := by
  rw [← controllerOwned_iff, Bool.not_eq_true]

theorem lineAfter_keeps {mode data : Byte} {s : State} {n : Fin 8} (other : controllerOwned s n = false) :
    lineAfter mode data s n = s.lines.line[n] := by
  unfold lineAfter
  rw [other]
  split <;> rfl

/-- R113: a controller-owned output takes the level that its bits name. -/
theorem lineAfter_acts {mode data : Byte} {s : State} {n : Fin 8} (owned : controllerOwned s n = true) :
    (lineAfter mode data s n).latch =
        (lineAction (mode.getLsbD n) (data.getLsbD n) s.lines.line[n].latch).getD s.lines.line[n].latch ∧
      (lineAfter mode data s n).output = s.lines.line[n].output ∧ (lineAfter mode data s n).accepted = s.lines.line[n].accepted := by
  have output := (controllerOwned_iff.1 owned).2
  unfold lineAfter
  rw [owned]
  split
  · rename_i level action
    rw [action]
    obtain ⟨out, accepted, -, latch⟩ := withLatch_fields s.lines.line[n] s.now level
    exact ⟨latch.trans (if_pos output), out, accepted⟩
  · rename_i action
    rw [action]
    exact ⟨rfl, rfl, rfl⟩

/-- Settles O55. -/
theorem linesCommandDrivesOutputs : Obligations.LinesCommandDrivesOutputs := by
  intro dt s handed owed code
  have lines : (s.cmd.image[1] == 0x07) = true := beq_iff_eq.2 code
  have effect := takeUp_eq (codes := fun c => c == 0x07) (body := setLines) handed lines dt
  obtain ⟨cmd, command⟩ := event_takeUp (codes := fun c => c == 0x07) (body := setLines) (dt := dt) handed lines
    (fun u => by simp [setLines, applyLines]) (fun u => by simp [setLines, applyLines])
  obtain ⟨est', -, -, -, lines', -⟩ := storeResult_blocks (setLines (markTaken (advance dt s))).result
    (setLines (markTaken (advance dt s))).mask (setLines (markTaken (advance dt s))).state
  rw [← effect] at est' lines'
  have quiet : (takeUp (fun c => c == 0x07) setLines (advance dt s)).est.owed = false := by
    rw [est']
    exact owed
  have line (n : Fin 8) : (event (takeUp (fun c => c == 0x07) setLines) dt s).lines.line[n] =
      lineAfter s.cmd.image[2] s.cmd.image[3] (markTaken (advance dt s)) n := by
    rw [(event_machine quiet).2.2.2, lines']
    exact Vector.getElem_ofFn n.isLt
  refine ⟨event (takeUp (fun c => c == 0x07) setLines) dt s, rfl, by rw [cmd], command, by rw [cmd]; rfl, fun n => ⟨?_, ?_, ?_⟩⟩
  · have mask : (setLines (markTaken (advance dt s))).mask.getLsbD n = _ :=
      refusedLines_getLsbD (markTaken (advance dt s)) s.cmd.image[2] s.cmd.image[3] n
    rw [cmd]
    dsimp only
    rw [mask, Bool.and_eq_true, lineAction_isSome, Bool.not_eq_true', controllerOwned_eq_false_iff]
    rfl
  · intro owned
    rw [line n]
    obtain ⟨latch, output, accepted⟩ := lineAfter_acts (mode := s.cmd.image[2]) (data := s.cmd.image[3])
      (s := markTaken (advance dt s)) (controllerOwned_iff.2 owned)
    exact ⟨latch.trans (lineAction_level _ _ _), output.trans owned.2, accepted⟩
  · intro other
    rw [line n]
    exact lineAfter_keeps (controllerOwned_eq_false_iff.2 other)

end Sys2Proof.Machine

/-! ACK_FAULTS, CLEAR_COUNTS, REPORT_NOW and an unknown code (R161, R162, R165, R166, R189). -/

namespace Sys2Proof.Machine

open Sys2Proof.Safety Sys2Proof.Statement

/-! ### The trigger of the report -/

/-- R189: a trigger asks for a report write, or for another while one is under way. -/
theorem trigger_asks (s : State) : (trigger s).report.write ≠ .idle ∧
    ∀ image g, s.report.write = .writing image g → (trigger s).report.write = .writing image g ∧ (trigger s).report.again = true := by
  unfold trigger
  split
  · rename_i write
    exact ⟨nofun, fun _ _ writing => absurd (write.symm.trans writing) nofun⟩
  · rename_i write
    exact ⟨fun idle => absurd (write.symm.trans idle) nofun, fun _ _ writing => absurd (write.symm.trans writing) nofun⟩
  · rename_i write
    exact ⟨fun idle => absurd (write.symm.trans idle) nofun, fun _ _ writing => ⟨writing, rfl⟩⟩

/-- R194: a trigger leaves the log's position and drops. -/
@[simp] theorem trigger_log (s : State) : (trigger s).report.drops = s.report.drops ∧
    (trigger s).report.nextSlot = s.report.nextSlot ∧ (trigger s).report.nextSeq = s.report.nextSeq := by
  unfold trigger
  split <;> simp

/-- What a trigger has asked for is asked for after the event. -/
theorem event_asks {f : State → State} {dt : Nat} {s u : State} (effect : f (advance dt s) = trigger u) :
    (event f dt s).report.write ≠ .idle ∧ (event f dt s).report.periodStart = u.report.periodStart ∧
      ∀ image g, u.report.write = .writing image g →
        (event f dt s).report.write = .writing image g ∧ (event f dt s).report.again = true := by
  have kept : (trigger u).report.AsksOn (event f dt s).report :=
    (asksOn_keepsUpdates (trigger u).report).event (by rw [effect]; exact .refl _)
  obtain ⟨period, -, asked, writing, again⟩ := kept
  obtain ⟨asks, goes⟩ := trigger_asks u
  refine ⟨asked asks, period.trans (trigger_asksOn u).1, fun image g under => ?_⟩
  obtain ⟨write, flag⟩ := goes image g under
  exact ⟨writing image g write, again flag⟩

/-! ### The fault latches -/

/-- R165: outside IDLE the kinds that do not trip are accepted. -/
theorem not_tripMask : ~~~tripMask = 0x700#11 := by decide

/-- R165: removing kinds that are not latched changes nothing. -/
theorem and_not_of_and_eq_zero {w : Nat} {a m : BitVec w} (none : a &&& m = 0) : a &&& ~~~m = a := by
  refine BitVec.eq_of_getLsbD_eq fun i hi => ?_
  have bit : (a.getLsbD i && m.getLsbD i) = false := by
    rw [← BitVec.getLsbD_and, none]
    simp
  rw [BitVec.getLsbD_and, BitVec.getLsbD_not]
  revert bit
  cases a.getLsbD i <;> cases m.getLsbD i <;> simp [hi]

theorem clearLatches_latches (mask : BitVec 11) (s : State) :
    (clearLatches mask s).report.latches = s.report.latches &&& ~~~mask := by
  unfold clearLatches
  split
  · rename_i none
    exact (and_not_of_and_eq_zero none).symm
  · simp

theorem clearLatches_quiet (mask : BitVec 11) (s : State) :
    (clearLatches mask s).est = s.est ∧ (clearLatches mask s).cmd = s.cmd ∧ (clearLatches mask s).hand = s.hand := by
  unfold clearLatches
  split <;> simp

theorem ackFaults_quiet (s : State) : (ackFaults s).state.est = s.est ∧ (ackFaults s).state.cmd = s.cmd ∧
    (ackFaults s).state.hand = s.hand ∧ (ackFaults s).mask = 0 := by
  unfold ackFaults
  dsimp only
  split
  · exact ⟨rfl, rfl, rfl, rfl⟩
  · obtain ⟨est, cmd, hand⟩ := clearLatches_quiet (acceptedFaults s (BitVec.ofNat 11 (argWord s.cmd.image 2))) s
    exact ⟨est, cmd, hand, rfl⟩

/-- R165: the result of an acknowledgement by the kinds that are accepted of those asked for. -/
def ackResult (accepted mask : BitVec 11) : CmdResult :=
  if accepted = mask then .taken else if accepted = 0 then .refusedState else .takenPartial

theorem ackFaults_fits {s : State} (fits : argWord s.cmd.image 2 < 2048) :
    ackFaults s = Taken.mk
      (ackResult (acceptedFaults s (BitVec.ofNat 11 (argWord s.cmd.image 2))) (BitVec.ofNat 11 (argWord s.cmd.image 2))) 0
      (clearLatches (acceptedFaults s (BitVec.ofNat 11 (argWord s.cmd.image 2))) s) :=
  if_neg (Nat.not_le.2 fits)

theorem ackFaults_over {s : State} (beyond : 2048 ≤ argWord s.cmd.image 2) : ackFaults s = refusedWith .refusedArgument s :=
  if_pos beyond

/-- Settles O56. -/
theorem faultCountAndReportCommands : Obligations.FaultCountAndReportCommands := by
  intro dt s handed owed
  refine ⟨fun code => ?_, fun code => ?_, fun code => ?_, fun code => ?_⟩
  · have ack : (s.cmd.image[1] == 0x08) = true := beq_iff_eq.2 code
    have effect := takeUp_eq (codes := fun c => c == 0x08) (body := ackFaults) handed ack dt
    obtain ⟨cmd, command⟩ := event_takeUp (codes := fun c => c == 0x08) (body := ackFaults) (dt := dt) handed ack
      (fun u => (ackFaults_quiet u).2.1) (fun u => (ackFaults_quiet u).2.2.1)
    obtain ⟨est, -, -, mask⟩ := ackFaults_quiet (markTaken (advance dt s))
    obtain ⟨est', -, -, -, -, latches⟩ := storeResult_blocks (ackFaults (markTaken (advance dt s))).result
      (ackFaults (markTaken (advance dt s))).mask (ackFaults (markTaken (advance dt s))).state
    rw [← effect] at est' latches
    have quiet : (takeUp (fun c => c == 0x08) ackFaults (advance dt s)).est.owed = false := by
      rw [est', est]
      exact owed
    have word : argWord (markTaken (advance dt s)).cmd.image 2 = s.cmd.image[2].toNat + 256 * s.cmd.image[3].toNat :=
      argWord_eq s.cmd.image (i := 2) (by decide)
    refine ⟨event (takeUp (fun c => c == 0x08) ackFaults) dt s, rfl, by rw [cmd], command, by rw [cmd, mask], fun fits => ?_,
      fun beyond => ?_⟩
    · rw [cmd, event_latches quiet, latches, ackFaults_fits (word ▸ fits), clearLatches_latches, word, acceptedFaults, not_tripMask]
      exact ⟨rfl, rfl⟩
    · rw [cmd, event_latches quiet, latches, ackFaults_over (word ▸ beyond)]
      exact ⟨rfl, rfl⟩
  · have clear : (s.cmd.image[1] == 0x09) = true := beq_iff_eq.2 code
    have effect : takeUp (fun c => c == 0x09) clearAccess (advance dt s) =
        storeResult .taken 0 (clearAccess (markTaken (advance dt s))).state :=
      takeUp_eq (codes := fun c => c == 0x09) (body := clearAccess) handed clear dt
    obtain ⟨cmd, command⟩ := event_takeUp (codes := fun c => c == 0x09) (body := clearAccess) (dt := dt) handed clear
      (fun u => by simp [clearAccess, taken]) (fun u => by simp [clearAccess, taken])
    have quiet : (takeUp (fun c => c == 0x09) clearAccess (advance dt s)).est.owed = false := by
      rw [effect, (storeResult_blocks _ _ _).1]
      exact owed
    refine ⟨event (takeUp (fun c => c == 0x09) clearAccess) dt s, rfl, by rw [cmd], command, by rw [cmd]; rfl, ?_, ?_, ?_⟩
    · rw [(event_access _ _ _).1, effect]
      simp [storeResult, clearAccess, taken]
    · rw [(event_access _ _ _).2, effect]
      simp [storeResult, clearAccess, taken]
    · rw [event_of_not_owed quiet, effect]
      simp [storeResult, clearAccess, taken, markTaken]
  · have now : (s.cmd.image[1] == 0x0B) = true := beq_iff_eq.2 code
    have effect : takeUp (fun c => c == 0x0B) reportNow (advance dt s) = storeResult .taken 0 (markTaken (advance dt s)) :=
      takeUp_eq (codes := fun c => c == 0x0B) (body := reportNow) handed now dt
    obtain ⟨cmd, command⟩ := event_takeUp (codes := fun c => c == 0x0B) (body := reportNow) (dt := dt) handed now
      (fun u => rfl) (fun u => rfl)
    obtain ⟨asks, -, goes⟩ := event_asks effect
    exact ⟨event (takeUp (fun c => c == 0x0B) reportNow) dt s, rfl, by rw [cmd], command, by rw [cmd]; rfl, asks, goes⟩
  · have unknown : (s.cmd.image[1] == 0x00 || decide (0x0B#8 < s.cmd.image[1])) = true := by
      rw [Bool.or_eq_true, beq_iff_eq, decide_eq_true_eq, BitVec.lt_def]
      exact code
    obtain ⟨cmd, command⟩ := event_takeUp (codes := fun c => c == 0x00 || decide (0x0B#8 < c)) (body := unknownCode) (dt := dt)
      handed unknown (fun u => rfl) (fun u => rfl)
    exact ⟨event (takeUp (fun c => c == 0x00 || decide (0x0B#8 < c)) unknownCode) dt s, rfl, by rw [cmd], command,
      by rw [cmd]; rfl, by rw [cmd]; rfl⟩

end Sys2Proof.Machine

/-! The report unit: the period timer, the granules of a write, a log entry and ALERT (R189, R190, R194, R195). -/

namespace Sys2Proof.Machine

open Sys2Proof.Safety Sys2Proof.Statement

/-! ### The report period -/

theorem periodExpiry_due {f : Nat} {s : State} (running : s.report.periodStart = some f)
    (late : s.settings.inForce.reportPeriod * 1000 ≤ s.now - f) :
    periodExpiry s = trigger (s.setReport { s.report with periodStart := some s.now }) := by
  have due : periodDue s = true := by
    rw [periodDue, running]
    exact decide_eq_true late
  exact if_pos due

/-! ### The granules of a write -/

/-- R190: a granule before the last is followed by the next. -/
theorem granuleWritten_goes {image : List Byte} {g : Nat} {s : State} (write : s.report.write = .writing image g) (more : g < 3) :
    granuleWritten s = s.setReport { s.report with write := .writing image (g + 1) } := by
  unfold granuleWritten
  rw [write]
  exact if_pos more

/-- R190: after the last the write is over, unless another has been asked for. -/
theorem granuleWritten_ends {image : List Byte} {g : Nat} {s : State} (write : s.report.write = .writing image g) (last : 3 ≤ g) :
    granuleWritten s = s.setReport { s.report with write := if s.report.again then .pending else .idle, again := false } := by
  unfold granuleWritten
  rw [write]
  exact if_neg (Nat.not_lt.2 last)

theorem granuleWritten_quiet (s : State) : (granuleWritten s).est = s.est ∧ (granuleWritten s).mem = s.mem := by
  unfold granuleWritten
  (repeat' split) <;> simp

/-- R189: what follows an event asks for no report write. -/
theorem settle_idle {s : State} (idle : s.report.write = .idle) : (settle s).report.write = .idle := by
  have freeze (u : State) (h : u.report.write = .idle) : freezeReport u = u := by
    unfold freezeReport
    rw [h]
  have raised (u : State) (h : u.report.write = .idle) : (raiseJobs u).report.write = .idle := by
    unfold raiseJobs nextChoice
    rw [freeze u h]
    dsimp only
    (repeat' split) <;> simpa using h
  have granted (u : State) : (arbitrate u).report.write = u.report.write := by simp
  rw [settle, granted]
  exact raised _ (by simpa using idle)

/-- Without an estimate update a report write that is over stays over. -/
theorem event_writeIdle {f : State → State} {dt : Nat} {s : State} (owed : (f (advance dt s)).est.owed = false)
    (idle : (f (advance dt s)).report.write = .idle) : (event f dt s).report.write = .idle := by
  rw [event_of_not_owed owed]
  exact settle_idle (by simpa using idle)

theorem event_again {f : State → State} {dt : Nat} {s : State} (owed : (f (advance dt s)).est.owed = false) :
    (event f dt s).report.again = (f (advance dt s)).report.again := by
  rw [event_of_not_owed owed]
  simp

/-- What the own effect of an event asks of the report is asked for after it. -/
theorem event_asksOn_effect (f : State → State) (dt : Nat) (s : State) :
    (f (advance dt s)).report.AsksOn (event f dt s).report := (asksOn_keepsUpdates _).event (.refl _)

/-- The bytes of an internal write are in memory after its event. -/
theorem readByte_written {f : State → State} {dt a : Nat} {l : List Byte} {s : State} (wf : memoryForm s = true)
    (mem : (f (advance dt s)).mem = (storeBytes (advance dt s) a l).mem) {i : Nat} (h : i < l.length) (inside : a + i < 0x8000) :
    readByte (event f dt s) (a + i) = l[i] := by
  rw [readByte_event]
  exact (readByte_of_mem mem _).trans (readByte_storeBytes_inside l (s := advance dt s) wf h inside)

/-! ### A free M-port -/

/-- R185: where the own effect of an event frees the M-port, what stands on it afterwards is new. -/
theorem event_fresh {f : State → State} {dt : Nat} {s : State} {x : Transfer} (free : (f (advance dt s)).link.transfer = none)
    (now : (f (advance dt s)).now = s.now + dt) (bus : (event f dt s).link.transfer = some x) : x.Fresh (s.now + dt) := by
  have stamped : (stamp (advance dt s) (deliver (f (advance dt s)))).link.transfer = none := by simpa using free
  rw [event_arbitrates] at bus
  have fresh := arbitrate_fresh ((released_goesOn _).1 stamped) bus
  simpa [now] using fresh

/-- Settles O60. -/
theorem reportWritesAndAlert : Obligations.ReportWritesAndAlert := by
  refine ⟨fun dt f s running late => ?_, fun dt a g l image s owed onBus write => ?_, fun dt a l s onBus => ?_, fun s => ?_⟩
  · obtain ⟨asks, period, goes⟩ := event_asks (periodExpiry_due (s := advance dt s) running late)
    exact ⟨event periodExpiry dt s, rfl, period, asks, goes⟩
  · obtain ⟨f, effect⟩ : ∃ f, f = completeJob isReport fun _ => granuleWritten := ⟨_, rfl⟩
    obtain ⟨u, stored⟩ : ∃ u, u = setTransfer (storeBytes (advance dt s) a l) none := ⟨_, rfl⟩
    have own : f (advance dt s) = granuleWritten u := by
      rw [effect, stored, completeJob_write (s := advance dt s) _ onBus rfl]
      rfl
    obtain ⟨est, mem⟩ := granuleWritten_quiet u
    have quiet : (f (advance dt s)).est.owed = false := by
      rw [own, est, stored]
      simpa using owed
    have report : u.report = s.report := by rw [stored]; simp
    obtain ⟨-, -, asked, writing, -⟩ := event_asksOn_effect f dt s
    refine ⟨event f dt s, by rw [effect]; rfl, fun wf i h inside => ?_, fun more => ?_, fun last => ⟨?_, fun once => ?_, fun again => ?_⟩⟩
    · exact readByte_written wf (by rw [own, mem, stored]; simp) h inside
    · refine writing image (g + 1) ?_
      rw [own, granuleWritten_goes (report ▸ write) more]
      rfl
    · rw [event_again quiet, own, granuleWritten_ends (report ▸ write) last]
      rfl
    · refine event_writeIdle quiet ?_
      rw [own, granuleWritten_ends (report ▸ write) last, report, once]
      rfl
    · refine asked ?_
      rw [own, granuleWritten_ends (report ▸ write) last, report, again]
      exact nofun
  · obtain ⟨f, effect⟩ : ∃ f, f = completeJob isLogWrite fun _ t => t := ⟨_, rfl⟩
    have own : f (advance dt s) = setTransfer (storeBytes (advance dt s) a l) none := by
      rw [effect, completeJob_write (s := advance dt s) _ onBus rfl]
      rfl
    refine ⟨event f dt s, by rw [effect]; rfl, fun wf i h inside => readByte_written wf (by rw [own]; simp) h inside, fun x bus => ?_⟩
    obtain ⟨count, -, -, -, since⟩ := event_fresh (by rw [own]; rfl) (by rw [own]; simp) bus
    exact ⟨count, since⟩
  · simp only [alertLow, Bool.or_eq_true, bne_iff_ne, beq_iff_eq, or_assoc]

end Sys2Proof.Machine

/-! RESTART and hard reset (R167, R187, R202, R204). -/

namespace Sys2Proof.Machine

open Sys2Proof.Safety Sys2Proof.Statement

/-! ### What follows an event while the block starts up -/

section
variable {s : State}

theorem wantOf_none (s : State) (o : JobOwner) : wantOf s o none = [] := by
  unfold wantOf
  split <;> rfl

theorem reportWant_notStarted (closed : started s = false) : reportWant s = none := by
  unfold reportWant
  rw [closed]
  rfl

theorem freezeReport_notStarted (closed : started s = false) : freezeReport s = s := by
  unfold freezeReport
  rw [reportWant_notStarted closed]
  split <;> rename_i want
  · exact absurd want nofun
  · rfl

theorem pagesWant_noSwap (noSwap : s.pages.swap = none) : pagesWant s = none := by
  unfold pagesWant
  rw [noSwap]

theorem wantOf_length (s : State) (o : JobOwner) (want : Option Job) : (wantOf s o want).length ≤ 1 := by
  unfold wantOf
  split
  · exact Nat.zero_le 1
  · cases want <;> simp

theorem arrange_short {n : Nat} {l : List Job} (short : l.length ≤ 1) : arrange n l = l := by
  match l, short with
  | [], _ => rfl
  | [_], _ => rfl

/-- R186: while the block starts up the settings unit alone raises a transfer. -/
theorem raiseJobs_startingUp (closed : started s = false) (noSwap : s.pages.swap = none) :
    raiseJobs s = s.setLink { s.link with internal := s.link.internal ++ wantOf s .settings (settingsWant s) } := by
  have short := wantOf_length s .settings (settingsWant s)
  unfold raiseJobs
  rw [freezeReport_notStarted closed, reportWant_notStarted closed, pagesWant_noSwap noSwap, wantOf_none, wantOf_none,
    List.append_nil, List.append_nil, ite_self]
  dsimp only
  rw [if_pos short, arrange_short short]

theorem settingsWant_ne_logNext : settingsWant s ≠ some .logNext := by
  unfold settingsWant
  (repeat' split) <;> simp

/-- R194: only a log entry that is granted leaves the queue. -/
theorem arbitrate_report_of_head (head : ∀ rest, s.link.internal ≠ .logNext :: rest) : (arbitrate s).report = s.report := by
  unfold arbitrate grant grantedTransfer
  split
  · split
    · simp
    · simp
    · split
      · simp
      · rename_i rest internal
        exact absurd internal (head rest)
      · simp
  · rfl

/-- While the block starts up what follows an event changes neither the report unit nor the pages, and the settings unit only by the
beginning of the read of a RESTART. -/
theorem settle_startingUp (c : releasePort .c s = s) (d : releasePort .d s = s) (closed : s.settings.startup ≠ .done)
    (noSwap : s.pages.swap = none) (noJobs : s.link.internal = []) :
    (settle s).report = s.report ∧ (settle s).pages = s.pages ∧ (settle s).settings = (leaveDrainWait s).settings := by
  have pages : (leaveDrainWait s).pages = s.pages := by simp
  have report : (leaveDrainWait s).report = s.report := by simp
  have jobs : (leaveDrainWait s).link.internal = [] := by simpa using noJobs
  have still : started (leaveDrainWait s) = false := by
    unfold leaveDrainWait
    split
    · rfl
    · exact beq_eq_false_iff_ne.2 closed
  have raised := raiseJobs_startingUp still (pages ▸ noSwap)
  rw [jobs, List.nil_append] at raised
  have head : ∀ rest, (raiseJobs (leaveDrainWait s)).link.internal ≠ .logNext :: rest := by
    intro rest internal
    rw [raised] at internal
    have wanted : Job.logNext ∈ wantOf (leaveDrainWait s) .settings (settingsWant (leaveDrainWait s)) := by
      rw [show wantOf (leaveDrainWait s) .settings (settingsWant (leaveDrainWait s)) = .logNext :: rest from internal]
      exact List.mem_cons_self
    unfold wantOf at wanted
    split at wanted
    · cases wanted
    · exact settingsWant_ne_logNext (Option.mem_toList.1 wanted)
  have all : settle s = arbitrate (raiseJobs (leaveDrainWait s)) := by rw [settle, c, d]
  rw [all]
  refine ⟨?_, by simp, by simp⟩
  rw [arbitrate_report_of_head head, raised]
  exact report

end

/-! ### RESTART -/

theorem mayRestart_iff {s : State} : mayRestart s = true ↔
    s.gov.state = .idle ∧ s.runner.state ≠ .running ∧ s.runner.state ≠ .waitResume := by
  simp [mayRestart, planUnderWay]

/-- R204: what the event of a RESTART leaves of a block that has been reset. -/
theorem settle_resetSoft (levels : BitVec 8) (s : State) :
    (settle (resetSoft levels s)).report = (resetSoft levels s).report ∧ (settle (resetSoft levels s)).pages = PageUnit.reset ∧
      (settle (resetSoft levels s)).settings = (leaveDrainWait (resetSoft levels s)).settings ∧
      (settle (resetSoft levels s)).cport = PortState.reset s.cport.post ∧
      (settle (resetSoft levels s)).dport = PortState.reset s.dport.post := by
  obtain ⟨report, pages, settings⟩ := settle_startingUp (s := resetSoft levels s) (releasePort_idle rfl rfl)
    (releasePort_idle rfl rfl) (by exact nofun) rfl rfl
  exact ⟨report, pages, settings, portOf_settle (p := .c) rfl rfl, portOf_settle (p := .d) rfl rfl⟩

theorem leaveDrainWait_resetSoft (levels : BitVec 8) (s : State) :
    (leaveDrainWait (resetSoft levels s)).settings.startup = (if s.cport.post = [] ∧ s.dport.post = [] then .reading 0 else .drainWait) := by
  unfold leaveDrainWait
  by_cases empty : s.cport.post = [] ∧ s.dport.post = []
  · rw [if_pos empty, if_pos ⟨rfl, empty⟩]
    rfl
  · rw [if_neg empty, if_neg fun h => empty h.2]
    rfl

/-! ### Hard reset -/

theorem readByte_cutOffWrite_acked {s : State} {j : Job} {o : Bool} {acked i : Nat} (onBus : jobOnBus s = some (j, o))
    (wf : memoryForm s = true) (h : i < (jobData j).length) (few : i < acked) (inside : jobAddr j + i < 0x8000) :
    readByte (cutOffWrite acked s) (jobAddr j + i) = (jobData j)[i] := by
  unfold cutOffWrite
  rw [onBus]
  dsimp only
  rw [readByte_storeBytes_inside ((jobData j).take acked) wf (by rw [List.length_take]; omega) inside, List.getElem_take]

/-- Settles O57. -/
theorem resetsSetTheBlock : Obligations.ResetsSetTheBlock := by
  refine ⟨fun dt levels s handed owed code => ?_, fun dt acked straps levels s => ?_⟩
  · obtain ⟨u, marked⟩ : ∃ u, u = markTaken (advance dt s) := ⟨_, rfl⟩
    have restart : (s.hand.command && s.cmd.image[1] == 0x0A) = true := Bool.and_eq_true_iff.2 ⟨handed, beq_iff_eq.2 code⟩
    have effect : restartNow levels (advance dt s) =
        if mayRestart u then resetSoft levels (storeResult .taken 0 u) else storeResult .refusedState 0 u := by
      rw [marked]
      exact if_pos restart
    have may : mayRestart u = true ↔ s.gov.state = .idle ∧ s.runner.state ≠ .running ∧ s.runner.state ≠ .waitResume := by
      rw [marked]
      exact mayRestart_iff
    refine ⟨resetEvent (restartNow levels) dt s, rfl, ?_, fun allowed => ?_, fun refused => ?_⟩
    · rw [resetEvent, effect]
      split <;> simp [resetSoft, storeResult, marked, markTaken]
    · rw [if_pos (may.2 allowed)] at effect
      have all : resetEvent (restartNow levels) dt s = settle (resetSoft levels (storeResult .taken 0 u)) := by
        rw [resetEvent, effect, deliver_of_not_owed rfl]
      obtain ⟨report, pages, settings, cport, dport⟩ := settle_resetSoft levels (storeResult .taken 0 u)
      rw [all, report, pages, settings, cport, dport, leaveDrainWait_resetSoft]
      simp [resetSoft, State.reset, storeResult, marked, markTaken, SettingsUnit.reset]
    · rw [if_neg (mt may.1 refused)] at effect
      have all : resetEvent (restartNow levels) dt s = settle (storeResult .refusedState 0 u) := by
        rw [resetEvent, effect, deliver_of_not_owed (by rw [(storeResult_blocks _ _ _).1, marked]; exact owed)]
      rw [all]
      simp [storeResult, marked, markTaken, MachineKept, SettingsKept, PagesKept, LatchesKept]
  · have all : resetEvent (resetHard straps levels acked) dt s = resetHard straps levels acked (advance dt s) :=
      settle_resetHard straps levels acked (advance dt s)
    have read (a : Nat) : readByte (resetEvent (resetHard straps levels acked) dt s) a = readByte (cutOffWrite acked (advance dt s)) a := by
      rw [all]
      exact readByte_of_mem rfl a
    refine ⟨resetEvent (resetHard straps levels acked) dt s, rfl, by rw [all]; rfl, fun j o onBus wf i h few inside => ?_,
      fun a wf other => ?_⟩
    · rw [read]
      exact readByte_cutOffWrite_acked (s := advance dt s) onBus wf h few inside
    · rw [read]
      exact readByte_cutOffWrite_other (s := advance dt s) wf other

end Sys2Proof.Machine

/-! Re-reads of the settings and their adoption (R199 to R201). -/

namespace Sys2Proof.Machine

open Sys2Proof.Safety Sys2Proof.Statement

/-! ### The settings unit through what follows an event -/

/-- Outside the drain of a RESTART nothing after the own effect touches the settings unit. -/
theorem event_settings_of_ne {f : State → State} {dt : Nat} {s : State} (drained : (f (advance dt s)).settings.startup ≠ .drainWait) :
    (event f dt s).settings = (f (advance dt s)).settings := by
  have released (u : State) : (releasePort .d (releasePort .c (stamp (advance dt s) (deliver u)))).settings = u.settings := by simp
  have still : leaveDrainWait (releasePort .d (releasePort .c (stamp (advance dt s) (deliver (f (advance dt s)))))) =
      releasePort .d (releasePort .c (stamp (advance dt s) (deliver (f (advance dt s))))) :=
    if_neg fun h => drained (by rw [← released]; exact h.1)
  rw [event, settle, still]
  simp

theorem setStatus_settings (st : SettingsStatus) (check : Nat) (s : State) :
    (setStatus st check s).settings = { s.settings with status := st, check := check } := by
  unfold setStatus
  split
  · rename_i same
    rw [← same.1, ← same.2]
  · simp

/-! ### The beginning of a re-read -/

theorem rereadNow_begins {s : State} (handed : s.hand.settings = true) :
    (rereadNow s).settings = { s.settings with reading := some [] } ∧ (rereadNow s).hand.settings = false ∧
      (rereadNow s).link.internal = s.link.internal.filter fun j => !isReread j := by
  have begins : rereadNow s = beginReread (s.setHand { s.hand with settings := false }) := if_pos handed
  rw [begins]
  exact ⟨rfl, rfl, rfl⟩

/-- R199: no re-read stands in the list of transfers but one that begins with granule 0. -/
def FirstGranule (l : List Job) : Prop := ∀ g, Job.settingsRead g ∈ l → g = 0

/-- R186: a grant to the internal work takes the first transfer of the list. -/
theorem grantedTransfer_tail (s : State) : (grantedTransfer s .internal).1.link.internal = s.link.internal.tail := by
  cases jobs : s.link.internal with
  | nil => simp [grantedTransfer, jobs]
  | cons j rest => exact (grantedTransfer_internal jobs).1

/-- What the arbiter leaves in the list of transfers was there. -/
theorem mem_arbitrate_internal {s : State} {j : Job} (h : j ∈ (arbitrate s).link.internal) : j ∈ s.link.internal := by
  unfold arbitrate grant at h
  split at h
  · rename_i r _ _
    cases r with
    | dport => exact h
    | cport => exact h
    | internal =>
      refine List.mem_of_mem_tail ?_
      rw [← grantedTransfer_tail]
      exact h
  · exact h

theorem mem_arrange {n : Nat} {l : List Job} {j : Job} (h : j ∈ arrange n l) : j ∈ l := by
  unfold arrange at h
  split at h
  · split at h
    · exact h
    · simpa [or_comm] using h
  · simp only [List.mem_cons, List.not_mem_nil, or_false]
    split at h <;> simp only [List.mem_cons, List.not_mem_nil, or_false] at h <;> obtain h | h | h := h <;> simp [h]
  · exact h

theorem mem_wantOf {s : State} {o : JobOwner} {want : Option Job} {j : Job} (h : j ∈ wantOf s o want) : want = some j := by
  unfold wantOf at h
  split at h
  · cases h
  · exact Option.mem_toList.1 h

/-- R199: a re-read that has just begun asks for granule 0. -/
theorem settingsWant_first {s : State} {g : Nat} (begun : s.settings.reading = some []) (want : settingsWant s = some (.settingsRead g)) :
    g = 0 := by
  unfold settingsWant at want
  rw [begun] at want
  (repeat' split at want) <;> simp at want
  all_goals exact want.symm

theorem pagesWant_ne_reread {s : State} {g : Nat} : pagesWant s ≠ some (.settingsRead g) := by
  unfold pagesWant
  (repeat' split) <;> simp

theorem reportWant_ne_reread {s : State} {g : Nat} : reportWant s ≠ some (.settingsRead g) := by
  unfold reportWant
  (repeat' split) <;> simp

/-- What the blocks raise, and what stood in the list before. -/
theorem mem_raiseJobs {s : State} {j : Job} (h : j ∈ (raiseJobs s).link.internal) :
    j ∈ s.link.internal ∨ settingsWant s = some j ∨ pagesWant s = some j ∨ reportWant s = some j := by
  have freeze (u : State) : (freezeReport u).link = u.link := by
    unfold freezeReport
    split <;> rfl
  unfold raiseJobs nextChoice at h
  dsimp only at h
  have listed : j ∈ s.link.internal ∨ j ∈ wantOf s .settings (settingsWant s) ++ wantOf s .pages (pagesWant s) ++
      wantOf s .report (reportWant s) := by
    rw [State.setLink] at h
    dsimp only at h
    rw [List.mem_append] at h
    refine h.imp (fun before => ?_) mem_arrange
    (repeat' split at before) <;> simpa [freeze] using before
  obtain before | raised := listed
  · exact .inl before
  · rw [List.mem_append, List.mem_append] at raised
    obtain (settings | pages) | report := raised
    · exact .inr (.inl (mem_wantOf settings))
    · exact .inr (.inr (.inl (mem_wantOf pages)))
    · exact .inr (.inr (.inr (mem_wantOf report)))

theorem releasePort_internal (p : Port) (s : State) : (releasePort p s).link.internal = s.link.internal := by
  have edit : (releaseEdit p s).link.internal = s.link.internal := by
    unfold releaseEdit editWriteOn holdWrite askRead closeOwn stretchByte
    (repeat' split) <;> simp [setTransfer]
  rw [releasePort]
  simpa using edit

/-- R199: a re-read that has just begun reads from granule 0. -/
theorem settle_first {s : State} (begun : s.settings.reading = some []) (first : FirstGranule s.link.internal) :
    FirstGranule (settle s).link.internal := by
  intro g listed
  have reading : (leaveDrainWait (releasePort .d (releasePort .c s))).settings.reading = some [] := by
    unfold leaveDrainWait
    split
    · rfl
    · simpa using begun
  obtain before | settings | pages | report := mem_raiseJobs (mem_arbitrate_internal listed)
  · refine first g ?_
    simpa [releasePort_internal] using before
  · exact settingsWant_first reading settings
  · exact absurd pages pagesWant_ne_reread
  · exact absurd report reportWant_ne_reread

/-! ### The adoption -/

/-- R201: a settings unit that has adopted settings, and has changed nothing else but perhaps the log scan. -/
def Adopted (old : SettingsUnit) (new : Settings) (s : State) : Prop :=
  ∃ scan, s.settings = { old with
    inForce := new, pending := none, restricted := false, status := .adopted, check := 0, scan := scan }

theorem Adopted.of_eq {old : SettingsUnit} {new : Settings} {s t : State} (h : Adopted old new s) (same : t.settings = s.settings) :
    Adopted old new t := by
  obtain ⟨scan, adopted⟩ := h
  exact ⟨scan, same.trans adopted⟩

theorem Adopted.ring {old : SettingsUnit} {new : Settings} {s : State} (before : Settings) (h : Adopted old new s) :
    Adopted old new (adoptRing before s) := by
  unfold adoptRing
  dsimp only
  split
  · obtain ⟨scan, adopted⟩ := h
    split
    · exact ⟨none, by simp [adopted]⟩
    · exact ⟨some { slot := 0, found := [] }, by simp [adopted]⟩
  · exact h

/-- R201: an adoption adopts. -/
theorem adoptSettings_adopted (new : Settings) (s : State) : Adopted s.settings new (adoptSettings new s) := by
  have choice (u : State) (h : Adopted s.settings new u) : Adopted s.settings new (nextChoice u) := h.of_eq (by simp)
  unfold adoptSettings
  refine unordered_keeps choice (fun _ h => h.ring _) (fun _ h => unordered3_keeps choice (fun _ h => h.of_eq (by simp))
    (fun _ h => h.of_eq (by simp)) (fun _ h => h.of_eq (by simp)) h) ?_
  have status : Adopted s.settings new
      (setStatus .adopted 0 (s.setSettings { s.settings with inForce := new, pending := none, restricted := false })) :=
    ⟨s.settings.scan, setStatus_settings _ _ _⟩
  refine status.of_eq ?_
  dsimp only
  split <;> simp

theorem event_adopted {f : State → State} {dt : Nat} {s : State} {old : SettingsUnit} {new : Settings}
    (h : Adopted old new (f (advance dt s))) :
    (event f dt s).settings.status = .adopted ∧ (event f dt s).settings.check = 0 ∧ (event f dt s).settings.pending = none ∧
      (event f dt s).settings.restricted = false ∧ (event f dt s).settings.inForce = new := by
  obtain ⟨inForce, restricted, pending, status, check, -⟩ := event_settings f dt s
  obtain ⟨scan, adopted⟩ := h
  rw [inForce, restricted, pending, status, check, adopted]
  exact ⟨rfl, rfl, rfl, rfl, rfl⟩

/-- R200: the conditions of an adoption. -/
theorem mayAdopt_iff {s : State} {image : List Byte} (pending : s.settings.pending = some image) : mayAdopt s = true ↔
    started s = true ∧ s.gov.state = .idle ∧ s.runner.state ≠ .running ∧ s.runner.state ≠ .waitResume ∧
      s.pages.swap = none ∧ s.cport.txn = .idle ∧ s.dport.txn = .idle ∧ s.cport.post = [] ∧ s.dport.post = [] := by
  simp [mayAdopt, waitsForQuiet, planUnderWay, swapBusy, pending, and_assoc]

/-! ### The judgement of a re-read -/

section
variable {l : List Byte} {s : State}

theorem judgeImage_invalid (invalid : settingsCheck l ≠ 0) : (judgeImage l s).settings =
    { s.settings with pending := none, status := .rejected, check := settingsCheck l } := by
  unfold judgeImage
  split
  · rename_i valid
    exact absurd valid invalid
  · simp [setStatus_settings]

theorem judgeImage_adopts (valid : settingsCheck l = 0) (may : mayAdopt (s.setSettings { s.settings with pending := some l }) = true) :
    Adopted { s.settings with pending := some l } (settingsOf l) (judgeImage l s) := by
  have adopts : judgeImage l s = adoptSettings (settingsOf l) (s.setSettings { s.settings with pending := some l }) := by
    unfold judgeImage
    rw [valid]
    exact if_pos may
  rw [adopts]
  exact adoptSettings_adopted _ _

theorem judgeImage_defers (valid : settingsCheck l = 0)
    (wait : mayAdopt (s.setSettings { s.settings with pending := some l }) = false) : (judgeImage l s).settings =
    { s.settings with pending := some l, status := .deferred, check := 0 } := by
  have deferred : judgeImage l s = setStatus .deferred 0 (s.setSettings { s.settings with pending := some l }) := by
    unfold judgeImage
    rw [valid]
    exact if_neg (Bool.eq_false_iff.1 wait)
  rw [deferred, setStatus_settings]
  rfl

/-- R199: the judgement of a re-read begins neither another nor start-up. -/
theorem judgeImage_unit : (judgeImage l s).settings.reading = s.settings.reading ∧
    (judgeImage l s).settings.startup = s.settings.startup := by
  by_cases valid : settingsCheck l = 0
  · cases may : mayAdopt (s.setSettings { s.settings with pending := some l }) with
    | true =>
      obtain ⟨scan, adopted⟩ := judgeImage_adopts valid may
      rw [adopted]
      exact ⟨rfl, rfl⟩
    | false =>
      rw [judgeImage_defers valid may]
      exact ⟨rfl, rfl⟩
  · rw [judgeImage_invalid valid]
    exact ⟨rfl, rfl⟩

end

/-- R199: the last granule of a re-read ends it. -/
theorem rereadDone_last {bytes l : List Byte} {s : State} (reading : s.settings.reading = some bytes) (last : 512 ≤ bytes.length + 16) :
    rereadDone l s = judgeImage (bytes ++ l) (s.setSettings { s.settings with reading := none }) := by
  unfold rereadDone
  rw [reading]
  exact if_neg (Nat.not_lt.2 last)

theorem rereadDone_more {bytes l : List Byte} {s : State} (reading : s.settings.reading = some bytes) (more : bytes.length + 16 < 512) :
    rereadDone l s = s.setSettings { s.settings with reading := some (bytes ++ l) } := by
  unfold rereadDone
  rw [reading]
  exact if_pos more

theorem adoptPending_adopts {image : List Byte} {s : State} (pending : s.settings.pending = some image) (may : mayAdopt s = true) :
    adoptPending s = adoptSettings (settingsOf image) s := by
  unfold adoptPending
  rw [pending]
  exact if_pos may

theorem adoptPending_waits {s : State} (wait : mayAdopt s = false) : adoptPending s = s := by
  unfold adoptPending
  split
  · exact if_neg (Bool.eq_false_iff.1 wait)
  · rfl

/-- R199: the event that begins a re-read. -/
theorem event_rereadNow (dt : Nat) {s : State} (handed : s.hand.settings = true) :
    (event rereadNow dt s).hand.settings = false ∧ (event rereadNow dt s).settings.reading = some [] ∧
      FirstGranule (event rereadNow dt s).link.internal := by
  obtain ⟨begun, hand, jobs⟩ := rereadNow_begins (s := advance dt s) handed
  have reading : (stamp (advance dt s) (deliver (rereadNow (advance dt s)))).settings.reading = some [] := by simp [begun]
  have first : FirstGranule (rereadNow (advance dt s)).link.internal := by
    intro g listed
    rw [jobs] at listed
    simp [isReread] at listed
  refine ⟨(congrArg HandOver.settings (event_hand_eq _ _ _)).trans hand, ?_, settle_first reading (by simpa using first)⟩
  have left : (leaveDrainWait (releasePort .d (releasePort .c
      (stamp (advance dt s) (deliver (rereadNow (advance dt s))))))).settings.reading = some [] := by
    unfold leaveDrainWait
    split
    · rfl
    · simpa using reading
  rw [event, settle]
  simpa using left

/-- R199, R200: what the event of the last read of a re-read makes of the image. -/
theorem event_judgeImage {f : State → State} {dt : Nat} {image : List Byte} {s v : State} (own : f (advance dt s) = judgeImage image v)
    (up : v.settings.startup = .done) (ended : v.settings.reading = none) :
    (event f dt s).settings.reading = none ∧
      (settingsCheck image ≠ 0 → (event f dt s).settings.status = .rejected ∧ (event f dt s).settings.check = settingsCheck image ∧
        (event f dt s).settings.pending = none ∧ (event f dt s).settings.inForce = v.settings.inForce) ∧
      (settingsCheck image = 0 → mayAdopt (v.setSettings { v.settings with pending := some image }) = true →
        (event f dt s).settings.status = .adopted ∧ (event f dt s).settings.check = 0 ∧ (event f dt s).settings.pending = none ∧
          (event f dt s).settings.restricted = false ∧ (event f dt s).settings.inForce = settingsOf image) ∧
      (settingsCheck image = 0 → mayAdopt (v.setSettings { v.settings with pending := some image }) = false →
        (event f dt s).settings.status = .deferred ∧ (event f dt s).settings.pending = some image ∧
          (event f dt s).settings.inForce = v.settings.inForce) := by
  obtain ⟨reading, startup⟩ := judgeImage_unit (l := image) (s := v)
  have same : (event f dt s).settings = (judgeImage image v).settings := by
    rw [event_settings_of_ne (by rw [own, startup, up]; exact nofun), own]
  refine ⟨by rw [same, reading, ended], fun invalid => ?_, fun valid quiet => ?_, fun valid busy => ?_⟩
  · rw [same, judgeImage_invalid invalid]
    exact ⟨rfl, rfl, rfl, rfl⟩
  · exact event_adopted (by rw [own]; exact judgeImage_adopts valid quiet)
  · rw [same, judgeImage_defers valid busy]
    exact ⟨rfl, rfl, rfl⟩

/-- R199: the event of a read of a re-read that is followed by another. -/
theorem event_rereadMore {f : State → State} {dt : Nat} {bytes l : List Byte} {s u : State} (own : f (advance dt s) = rereadDone l u)
    (settings : u.settings = s.settings) (up : s.settings.startup = .done) (reading : s.settings.reading = some bytes)
    (more : bytes.length + 16 < 512) :
    (event f dt s).settings = { s.settings with reading := some (bytes ++ l) } := by
  rw [rereadDone_more (by rw [settings]; exact reading) more, settings] at own
  have still : (f (advance dt s)).settings = { s.settings with reading := some (bytes ++ l) } := by rw [own]; rfl
  rw [event_settings_of_ne (by rw [still, up]; exact nofun), still]

/-- R200: the event that adopts a pending image, or leaves it pending. -/
theorem event_adoptPending (dt : Nat) {image : List Byte} {s : State} (pending : s.settings.pending = some image) :
    (mayAdopt s = true → Adopted s.settings (settingsOf image) (adoptPending (advance dt s))) ∧
      (mayAdopt s = false → SettingsKept s (event adoptPending dt s)) := by
  refine ⟨fun may => ?_, fun wait => ?_⟩
  · rw [adoptPending_adopts (s := advance dt s) pending may]
    exact adoptSettings_adopted _ (advance dt s)
  · obtain ⟨inForce, restricted, pend, status, check, scan⟩ := event_settings adoptPending dt s
    rw [adoptPending_waits (s := advance dt s) wait] at inForce restricted pend status check scan
    exact ⟨inForce, restricted, pend, status, check, scan⟩

/-- Settles O58. -/
theorem settingsRereadAndAdoption : Obligations.SettingsRereadAndAdoption := by
  refine ⟨fun dt s handed => ⟨event rereadNow dt s, rfl, event_rereadNow dt handed⟩, fun dt g bytes s up onBus reading => ?_,
    fun dt image s pending => ⟨event adoptPending dt s, rfl, fun quiet => ?_, fun busy => ?_⟩⟩
  · obtain ⟨f, effect⟩ : ∃ f, f = completeJob isReread fun j t => rereadDone (readBytes t (jobAddr j) 16) t := ⟨_, rfl⟩
    obtain ⟨u, unit⟩ : ∃ u, u = setTransfer (advance dt s) none := ⟨_, rfl⟩
    have own : f (advance dt s) = rereadDone (readBytes s (0x7E00 + 16 * g) 16) u := by
      have read : readBytes u (jobAddr (.settingsRead g)) 16 = readBytes s (0x7E00 + 16 * g) 16 := by
        rw [unit]
        exact readBytes_of_mem rfl _ 16
      rw [effect, completeJob_read (s := advance dt s) _ onBus rfl rfl, ← unit, read]
    have settings : u.settings = s.settings := by rw [unit]; rfl
    refine ⟨event f dt s, by rw [effect]; rfl, fun more => ?_, fun last => ?_⟩
    · have same := event_rereadMore own settings up reading more
      rw [SettingsKept, same]
      exact ⟨rfl, rfl, rfl, rfl, rfl, rfl, rfl⟩
    · rw [rereadDone_last (by rw [settings]; exact reading) last] at own
      obtain ⟨v, judged⟩ : ∃ v, v = u.setSettings { u.settings with reading := none } := ⟨_, rfl⟩
      rw [← judged] at own
      have inForce : v.settings.inForce = s.settings.inForce := by rw [judged, ← settings]; rfl
      obtain ⟨ended, rejected, adopted, deferred⟩ := event_judgeImage own (by rw [judged, ← up, ← settings]; rfl)
        (by rw [judged]; rfl)
      have may (image : List Byte) : mayAdopt (v.setSettings { v.settings with pending := some image }) =
          mayAdopt { s with settings := { s.settings with pending := some image } } := by
        rw [judged, unit]
        rfl
      rw [may] at adopted deferred
      rw [inForce] at rejected deferred
      exact ⟨ended, rejected, adopted, deferred⟩
  · exact event_adopted ((event_adoptPending dt pending).1 ((mayAdopt_iff pending).2 quiet))
  · exact (event_adoptPending dt pending).2 (Bool.eq_false_iff.2 (mt (mayAdopt_iff pending).1 busy))

end Sys2Proof.Machine

/-! Start-up: the read of the settings, its retry, and the log scan (R202, R203). -/

namespace Sys2Proof.Machine

open Sys2Proof.Safety Sys2Proof.Statement

/-! ### The opening of the device -/

theorem openDevice_settings (s : State) :
    (openDevice s).settings = { s.settings with startup := .done, restarting := false, reading := none } := by
  unfold openDevice
  dsimp only
  split <;> simp

theorem openDevice_ring (s : State) : (openDevice s).report.ring = s.report.ring := by
  have triggered (u : State) : (trigger u).report.ring = u.report.ring := (trigger_asksOn u).2.1
  have logged (d : LogDetail) (u : State) : (askLog d u).report.ring = u.report.ring := (askLog_asksOn u d).2.1
  unfold openDevice
  dsimp only
  split <;> simp [triggered, logged]

/-- R202: what follows the settings at start-up leaves them. -/
theorem afterSettings_settings (s : State) :
    (afterSettings s).settings.inForce = s.settings.inForce ∧ (afterSettings s).settings.restricted = s.settings.restricted ∧
      (afterSettings s).settings.status = s.settings.status ∧ (afterSettings s).settings.check = s.settings.check := by
  unfold afterSettings
  dsimp only
  (repeat' split) <;> simp [openDevice_settings]

/-! ### The read of the settings -/

section
variable {l : List Byte} {s : State}

theorem judgeStartup_valid (valid : settingsCheck l = 0) :
    (judgeStartup l s).settings.inForce = settingsOf l ∧ (judgeStartup l s).settings.restricted = false ∧
      (judgeStartup l s).settings.status = .adopted := by
  have adopts : judgeStartup l s = afterSettings (adoptSettings (settingsOf l) s) := by
    unfold judgeStartup
    rw [valid]
    rfl
  obtain ⟨inForce, restricted, status, -⟩ := afterSettings_settings (adoptSettings (settingsOf l) s)
  obtain ⟨scan, adopted⟩ := adoptSettings_adopted (settingsOf l) s
  rw [adopts, inForce, restricted, status, adopted]
  exact ⟨rfl, rfl, rfl⟩

theorem judgeStartup_invalid (invalid : settingsCheck l ≠ 0) :
    (judgeStartup l s).settings.inForce = s.settings.inForce ∧ (judgeStartup l s).settings.status = .restricted ∧
      (judgeStartup l s).settings.check = settingsCheck l := by
  have restricts : judgeStartup l s = afterSettings (startRestricted (settingsCheck l) s) := by
    unfold judgeStartup
    split
    · rename_i valid
      exact absurd valid invalid
    · rfl
  have settings : (startRestricted (settingsCheck l) s).settings =
      { s.settings with status := .restricted, check := settingsCheck l } := by
    simp [startRestricted, setStatus_settings]
  obtain ⟨inForce, -, status, check⟩ := afterSettings_settings (startRestricted (settingsCheck l) s)
  rw [restricts, inForce, status, check, settings]
  exact ⟨rfl, rfl, rfl⟩

theorem startupReadDone_eq {bytes : List Byte} (reading : s.settings.reading = some bytes) :
    startupReadDone l s =
      if (bytes ++ l).length < 512 then s.setSettings { s.settings with reading := some (bytes ++ l) }
      else judgeStartup (bytes ++ l) s := by
  unfold startupReadDone
  rw [reading]
  rfl

end

theorem startupRetry_due {n f : Nat} {s : State} (paused : s.settings.startup = .pause n f) (late : 10000 ≤ s.now - f) :
    startupRetry s = s.setSettings { s.settings with startup := .reading (n + 1), reading := some [] } := by
  unfold startupRetry
  rw [paused]
  exact if_pos late

/-! ### The log scan -/

/-- R203: the entries that count after the read of a slot. -/
def LogScan.foundWith (x : LogScan) (l : List Byte) : List (Nat × Word32) :=
  if byteAt l 4 = 0 then x.found else x.found ++ [(x.slot, BitVec.ofNat 32 (longAt l 0))]

section
variable {l : List Byte} {x : LogScan} {s : State} (scan : s.settings.scan = some x)
include scan

theorem slotScanned_more (more : x.slot < 15) :
    slotScanned l s = s.setSettings { s.settings with scan := some { slot := x.slot + 1, found := x.foundWith l } } := by
  unfold slotScanned
  rw [scan]
  exact if_pos more

theorem slotScanned_last (last : 15 ≤ x.slot) : slotScanned l s = endScan (x.foundWith l) s := by
  unfold slotScanned
  rw [scan]
  exact if_neg (Nat.not_lt.2 last)

end

/-- R203: the end of the scan. -/
theorem endScan_ready (l : List (Nat × Word32)) (s : State) :
    (endScan l s).settings.scan = none ∧ (endScan l s).report.ring = .ready ∧
      (s.settings.startup = .scanning → (endScan l s).settings.startup = .done) := by
  unfold endScan
  dsimp only
  split
  · rename_i scanning
    rw [openDevice_settings, openDevice_ring]
    split <;> simp
  · rename_i running
    split <;> simp [running]

/-- Settles O59. -/
theorem startupReadsAndScans : Obligations.StartupReadsAndScans := by
  refine ⟨fun dt g n bytes s onBus startup reading => ?_, fun dt n f s paused late => ?_, fun dt slot a x s onBus scan => ?_⟩
  · obtain ⟨f, effect⟩ : ∃ f, f = completeJob isStartup fun j t => startupReadDone (readBytes t (jobAddr j) 16) t := ⟨_, rfl⟩
    obtain ⟨u, unit⟩ : ∃ u, u = setTransfer (advance dt s) none := ⟨_, rfl⟩
    have settings : u.settings = s.settings := by rw [unit]; rfl
    have read : readBytes u (jobAddr (.startupRead g)) 16 = readBytes s (0x7E00 + 16 * g) 16 := by
      rw [unit]
      exact readBytes_of_mem rfl _ 16
    have own : f (advance dt s) = startupReadDone (readBytes s (0x7E00 + 16 * g) 16) u := by
      rw [effect, completeJob_read (s := advance dt s) _ onBus rfl rfl, ← unit, read]
    rw [startupReadDone_eq (by rw [settings]; exact reading)] at own
    refine ⟨event f dt s, by rw [effect]; rfl, ?_⟩
    generalize bytes ++ readBytes s (0x7E00 + 16 * g) 16 = image at own ⊢
    obtain ⟨inForce, restricted, -, status, check, -⟩ := event_settings f dt s
    refine ⟨fun more => ?_, fun last => ⟨fun valid => ?_, fun invalid => ?_⟩⟩
    · rw [if_pos more, settings] at own
      have still : (f (advance dt s)).settings = { s.settings with reading := some image } := by rw [own]; rfl
      have same := event_settings_of_ne (f := f) (dt := dt) (s := s) (by rw [still, startup]; exact nofun)
      rw [SettingsKept, same, still]
      exact ⟨rfl, startup, rfl, rfl, rfl, rfl, rfl, rfl⟩
    · rw [if_neg (Nat.not_lt.2 last)] at own
      rw [inForce, restricted, status, own]
      exact judgeStartup_valid valid
    · rw [if_neg (Nat.not_lt.2 last)] at own
      rw [inForce, status, check, own, ← settings]
      exact judgeStartup_invalid invalid
  · have effect := startupRetry_due (s := advance dt s) paused late
    refine ⟨event startupRetry dt s, rfl, ?_⟩
    rw [event_settings_of_ne (by rw [effect]; exact nofun), effect]
    exact ⟨rfl, rfl⟩
  · obtain ⟨f, effect⟩ : ∃ f, f = completeJob isScan fun j t => slotScanned (readBytes t (jobAddr j) 16) t := ⟨_, rfl⟩
    obtain ⟨u, unit⟩ : ∃ u, u = setTransfer (advance dt s) none := ⟨_, rfl⟩
    have scan' : u.settings.scan = some x := by rw [unit]; exact scan
    have read : readBytes u (jobAddr (.logScan slot a)) 16 = readBytes s a 16 := by
      rw [unit]
      exact readBytes_of_mem rfl _ 16
    have own : f (advance dt s) = slotScanned (readBytes s a 16) u := by
      rw [effect, completeJob_read (s := advance dt s) _ onBus rfl rfl, ← unit, read]
    have counts : x.foundWith (readBytes s a 16) =
        if readByte s (a + 4) = 0 then x.found
          else x.found ++ [(x.slot, BitVec.ofNat 32 (longAt (readBytes s a 16) 0))] :=
      ite_congr (propext (byteAt_readBytes_eq_zero s a (by decide))) (fun _ => rfl) fun _ => rfl
    refine ⟨event f dt s, by rw [effect]; rfl, fun more => ?_, fun last => ?_⟩
    · rw [(event_settings f dt s).2.2.2.2.2, own, slotScanned_more scan' more, counts]
      rfl
    · rw [slotScanned_last scan' last] at own
      obtain ⟨ended, ready, opens⟩ := endScan_ready (x.foundWith (readBytes s a 16)) u
      refine ⟨by rw [(event_settings f dt s).2.2.2.2.2, own, ended], ?_, fun scanning => ?_⟩
      · rw [(event_asksOn_effect f dt s).2.1, own, ready]
      · have up := opens (by rw [unit]; exact scanning)
        rw [event_settings_of_ne (by rw [own, up]; exact nofun), own, up]

end Sys2Proof.Machine
